-- ==== Sys2Proof/Word.lean ====
section
/-! DEFINITION. The word types of the LN9616: 32-bit register words (R14), bytes, and nothing else. -/

namespace Sys2Proof

/-- A register word: every register of the address map is 32 bits wide (R764). -/
abbrev Word := BitVec 32

/-- One byte of a frame, a telegram or the page buffer. -/
abbrev Byte := BitVec 8

end Sys2Proof
end

