-- ==== Sys2Proof/Machine/Types.lean ====
section
/-! DEFINITION. The plain data the commands and the state of the LN9616 are made of. -/

namespace Sys2Proof

/-- Device states (R51). -/
inductive DevState where
  | off | start | standby | active | harbourWatch | failed
  deriving DecidableEq, Repr

/-- States of a time domain (R80). -/
inductive DomState where
  | none | gnssLocked | ptpLocked | acquiring | holdover | freerun
  deriving DecidableEq, Repr

/-- When SYS_ECC_CORR was last recorded for a region, and the corrections counted since (R60). -/
structure EccMark where
  region : Nat
  at_    : Nat
  count  : Nat
  deriving DecidableEq, Repr

/-- A PTP port identity: clockIdentity and portNumber (R78). -/
structure PortIdentity where
  clock : BitVec 64
  port  : Nat
  deriving DecidableEq, Repr

/-- A slew in progress: its amount in ns and the instant it began. -/
structure SlewRun where
  amount : Int
  since  : Nat
  deriving DecidableEq, Repr

/-- A change of frequency correction: the instant and the value from then on. -/
structure FreqMark where
  at_  : Nat
  freq : Int
  deriving DecidableEq, Repr

/-- The data set an Announce carries (R72, R79). -/
structure Announce where
  src       : PortIdentity
  gmId      : BitVec 64
  priority1 : Nat
  cls       : Nat
  acc       : Nat
  var       : Nat
  priority2 : Nat
  steps     : Nat
  taiUtc    : Int
  utcValid  : Bool
  leap61    : Bool
  leap59    : Bool
  timeSource : Nat
  ptpTimescale : Bool
  deriving DecidableEq, Repr

/-- A foreign master of a domain: its last Announce, the port it came by, how many were heard and when. -/
structure ForeignMaster where
  port  : Nat
  ann   : Announce
  count : Nat
  lastUp : Nat
  deriving DecidableEq, Repr

/-- A two-step Sync that waits for its Follow_Up (R72). -/
structure PendingSync where
  src  : PortIdentity
  seq  : Nat
  rx   : Nat
  corr : Int
  deriving DecidableEq, Repr

/-- A delay measurement: the request's number, whether it is out, its stamps (t1 departure of the request, t2 its receipt by the peer), what waits for a Follow_Up, when it was sent, and the delay measured last, ns (R72, R74). -/
structure DelayState where
  seq   : Nat := 0
  sent  : Bool := false
  t1    : Nat := 0
  t2    : Nat := 0
  t4    : Nat := 0
  corr  : Int := 0
  got   : Bool := false
  lastTx : Option Nat := none
  delay : Int := 0
  deriving DecidableEq, Repr

/-- An armed leap second: the second of TAI at which TAI − UTC changes, and whether it is positive (R151). -/
structure LeapPlan where
  at_      : Nat
  positive : Bool
  deriving DecidableEq, Repr

/-- TAI − UTC and the armed leap second (R89, R118, R151). -/
structure Utc where
  valid  : Bool := false
  leap   : Option LeapPlan := none
  source : Nat := 0
  taiUtc : Int := 0
  deriving DecidableEq, Repr

/-- A time pulse output (R103, R108 to R112). -/
structure TpOut where
  run     : Bool := false
  omit_   : Nat := 0
  lastUp  : Option Nat := none
  deriving DecidableEq, Repr

/-- A capture of an EVT_IN input (R113). -/
structure EvtCapture where
  ss      : Word
  sec     : Nat
  fall    : Bool
  stepped : Bool
  deriving DecidableEq, Repr

/-- One record of the Tally (R639). `seq` is none until the numbers are given at the end of S6 (R641). -/
structure Rec where
  code     : Nat
  severity : Nat
  source   : Nat
  start    : Bool
  active   : Bool
  role     : Nat
  timeFree : Bool
  stepped  : Bool
  seq      : Option Nat
  seconds  : Nat
  ns       : Nat
  p0       : Word
  p1       : Word
  p2       : Word
  p3       : Word
  deriving DecidableEq, Repr

/-- An entry of the Tally store: its slot, severity and sequence; `record` is none for a void slot (R647, R651). -/
structure StoreEntry where
  slot     : Nat
  severity : Nat
  seq      : Nat
  record   : Option Rec
  deriving DecidableEq, Repr

/-- The watchdog of a master: armed, the instant of the last kick, and whether the next value is 0xA55A (R617). -/
structure Watchdog where
  armed    : Bool := false
  lastKick : Option Nat := none
  second   : Bool := false
  deriving DecidableEq, Repr

/-- The freeze of a master: cause, access kind, tick and detail (R612, R638). -/
structure FreezeInfo where
  cause  : Nat := 0
  write  : Bool := false
  tick   : Nat := 0
  detail : Word := 0
  deriving DecidableEq, Repr

/-- Outcome of a start (R705). -/
inductive StartOutcome where
  | none | ready | timeout | reset | halted | failed
  deriving DecidableEq, Repr

/-- An entry of the start record (R705 to R709). -/
structure StartRec where
  reached  : Nat := 0
  failMask : BitVec 12 := 0
  altMask  : BitVec 12 := 0
  outcome  : StartOutcome := .none
  used     : Bool := false
  fwSlot   : Bool := false
  cfgSlot  : Bool := false
  startNo  : Nat := 0
  deriving DecidableEq, Repr

/-- A calendar reading: UTC date, time and cycles of XTAL32 in the second (R664, R666). -/
structure Calendar where
  year    : Nat := 2000
  month   : Nat := 1
  day     : Nat := 1
  weekday : Nat := 6
  hour    : Nat := 0
  min     : Nat := 0
  sec     : Nat := 0
  subsec  : Nat := 0
  deriving DecidableEq, Repr

/-- The time-base saves of R98: the frequency correction of each domain with the calendar time of its save, and TAI − UTC. -/
structure TimeSave where
  freqA  : Option Int
  calA   : Calendar
  freqB  : Option Int
  calB   : Calendar
  taiUtc : Int
  deriving DecidableEq, Repr

/-- A leap second armed in the backup domain (R671); the code is RTC_STATUS.LEAP_ARMED. -/
inductive LeapArm where
  | none | positive | negative
  deriving DecidableEq, Repr

/-- Start causes (R684); the code is RTC_STATUS.START_CAUSE. -/
inductive StartCause where
  | power | rtcWake | rstN | backupReset
  deriving DecidableEq, Repr

/-- An access path to the registers: the maintenance SPI port, or a network session by its number of table entry (R758, R767). -/
inductive Path where
  | mspi | session (n : Nat)
  deriving DecidableEq, Repr

/-- A peer as its heartbeats show it (R568, R570, R606). -/
structure Peer where
  known      : Bool := false
  format     : Nat := 0
  health     : Word := 0
  state      : DevState := .off
  level      : Nat := 0
  synced     : Bool := false
  shadowFault : Bool := false
  handoverReq : Bool := false
  duplicate  : Bool := false
  holdReturn : Bool := false
  mismatch   : Bool := false
  layup      : Bool := false
  home       : Bool := false
  epoch      : Word := 0
  tickNo     : Word := 0
  carryRx    : Word := 0
  shadowCrc  : Word := 0
  imageId    : BitVec 64 := 0
  seen       : BitVec 3 := 0
  linkDown   : Bool := false
  pathsNow   : BitVec 3 := 0
  pathsLast  : BitVec 3 := 0
  pathMiss   : List Nat := [0, 0, 0]
  miss       : Nat := 0
  lowRun     : Nat := 0
  edgeOfs    : Int := 0
  deriving DecidableEq, Repr

/-- Why a planned handover was asked for: the cause codes of TWN_HANDOVER (R593, R605). -/
inductive HandoverCause where
  | station | register | return_ | exchange | yielded
  deriving DecidableEq, Repr

/-- A heartbeat as a receiver reads it (R568). -/
structure Heartbeat where
  format      : Nat
  triad       : Bool
  role        : Nat
  health      : Word
  state       : DevState
  level       : Nat
  home        : Bool
  synced      : Bool
  shadowFault : Bool
  handoverReq : Bool
  duplicate   : Bool
  urgent      : Bool
  holdReturn  : Bool
  takeover    : Bool
  mismatch    : Bool
  layup       : Bool
  epoch       : Word
  tickNo      : Word
  carryTx     : Word
  carryRx     : Word
  handoverAt  : Word
  shadowCrc   : Word
  imageId     : BitVec 64
  seen        : BitVec 3
  links       : BitVec 3
  deriving DecidableEq, Repr

/-- A pending record of the Tally with the instant of its admission (R643, R644). -/
structure PendRec where
  record : Rec
  up  : Nat
  deriving DecidableEq, Repr

/-- A page of the Tally cut short by loss of power: the records and whether each reached its slot (R651). -/
structure TornPage where
  gen   : Nat
  items : List (Rec × Bool)
  deriving DecidableEq, Repr

/-- An urgent flush in progress: trigger of EVR_FLUSH, start instant, records written (R645, R660). -/
structure UrgentRun where
  trigger : Nat
  since   : Nat
  count   : Nat
  deriving DecidableEq, Repr

/-- A drop of a record: severity and instant (R660). -/
structure DropMark where
  severity : Nat
  up       : Nat
  deriving DecidableEq, Repr

/-- The frozen set of the Tally's counts (R655). -/
structure EvrBooks where
  stored      : Nat
  overwritten : Nat
  dropped     : Nat
  pending     : Nat
  deriving DecidableEq, Repr

/-- A leap second taken by the calendar, to be recorded (R672). -/
structure LeapReport where
  positive : Bool
  date     : Word
  deriving DecidableEq, Repr

/-- The measurement of the calendar's rate against system time (R667): its start in system time and on the calendar, ns. -/
structure TrimRun where
  sys0 : Nat
  cal0 : Nat
  deriving DecidableEq, Repr

/-- Programming commands (R717). -/
inductive ProgCmd where
  | erase | program | setPrefer | read
  deriving DecidableEq, Repr

/-- A programming command in progress. -/
structure ProgRun where
  cmd  : ProgCmd
  addr : Nat
  arg  : Nat
  deriving DecidableEq, Repr

/-- States of a tracking channel (R126). -/
inductive ChanState where
  | idle | pullIn | track1ms | track | reacq
  deriving DecidableEq, Repr

/-- What one pass of the code and carrier loops measures on a channel (R119, R136 to R139, R146). The phase lock indicator is in thousandths. -/
structure LoopMeas where
  ch       : Nat
  cn0      : Nat
  pli      : Int
  promptNeg : Bool
  codeChip : Nat
  codeFrac : Word
  /-- Carrier phase advance of the pass, 2^-16 cycle. -/
  adrStep  : Int
  doppler  : Int
  deriving DecidableEq, Repr

/-- A PRN a search returns: its peak over the mean of the surface in thousandths, code phase in half chips and Doppler in mHz (R128). -/
structure AcqPeak where
  prn      : Nat
  ratioMilli : Nat
  halfChip : Nat
  doppler  : Int
  deriving DecidableEq, Repr

/-- An acquisition search (R130 to R134). -/
structure Search where
  ant   : Nat
  aided : Bool
  prns  : BitVec 32
  deriving DecidableEq, Repr

/-- An ephemeris with its issue of data and time of ephemeris; `body` is its remaining content (R149, R155). -/
structure Ephemeris where
  prn  : Nat
  iode : Nat
  toe  : Nat
  rtcm : Bool
  body : List Word
  deriving DecidableEq, Repr

/-- What an LNAV subframe carries (R148 to R151). -/
inductive LnavBody where
  | sf1 (iodc week10 : Nat) (body : List Word)
  | sf2 (iode toe : Nat) (body : List Word)
  | sf3 (iode : Nat) (body : List Word)
  | utc (a0 a1 : Word) (dtLs dtLsf : Int) (wnLsf dn : Nat)
  | almanac (prn : Nat) (body : List Word)
  | other
  deriving DecidableEq, Repr

/-- Subframes 1 to 3 of a PRN as they arrive, until they agree (R149). -/
structure EphParts where
  prn  : Nat
  sf1  : Option (Nat × List Word) := none
  sf2  : Option (Nat × Nat × List Word) := none
  sf3  : Option (Nat × List Word) := none
  deriving DecidableEq, Repr

/-- Source of RTCM corrections (R153). -/
inductive RtcmSrc where
  | none | uart (u : Nat) | net
  deriving DecidableEq, Repr

/-- An RTCM 1004 message (R154). Each satellite: ID, L1 pseudorange, phaserange − pseudorange, lock time, ambiguity, code indicator. -/
structure Obs1004 where
  station : Nat
  epochMs : Nat
  sats    : List (Nat × Nat × Int × Nat × Nat × Bool)
  deriving DecidableEq, Repr

/-- A 1004 message with the instant of its arrival. -/
structure ObsAt where
  obs : Obs1004
  up  : Nat
  deriving DecidableEq, Repr

/-- What a channel's NCOs hold at the epoch instant, moved back to it under R142: code phase, and the carrier phase gone since the last pass, 2^-16 cycle. -/
structure EpochMeas where
  ch       : Nat
  codeChip : Nat
  codeFrac : Word
  adrPart  : Int
  deriving DecidableEq, Repr

/-- An epoch whose solution is not delivered yet: its tick, its instant, A − B at its edge, and TMA_LOST (R143, R157). -/
structure EpochMark where
  tick    : Nat
  up      : Nat
  ab      : Int
  tmaLost : Bool
  deriving DecidableEq, Repr

/-- The epoch header (R145). -/
structure EpochHdr where
  tickNo  : Nat := 0
  latch   : Nat := 0
  tmaLost : Bool := false
  stepped : Bool := false
  nValid  : Nat := 0
  feFreq  : Int := 0
  deriving DecidableEq, Repr

/-- The solution record (R157 to R164). -/
structure NavSol where
  tickNo  : Nat := 0
  lat     : Int := 0
  lon     : Int := 0
  hgt     : Int := 0
  vn      : Int := 0
  ve      : Int := 0
  vd      : Int := 0
  hdg     : Word := 0
  pitch   : Word := 0
  roll    : Word := 0
  solType : Nat := 0
  ant     : Nat := 0
  attMode : Nat := 0
  nsv     : Nat := 0
  hdop    : Nat := 0
  antUse  : BitVec 4 := 0
  sigH    : Nat := 0
  sigHdg  : Nat := 0
  sigV    : Nat := 0
  sigPr   : Nat := 0
  clkOfs  : Int := 0
  corrStation : Nat := 0
  corrAge : Nat := 0
  deriving DecidableEq, Repr

/-- What AP1's navigation and attitude computation yields for an epoch: the numbers of the solution, the counts its conditions rest on, and the baselines resolved (antenna, ambiguities fixed, resolved length in mm) (R157 to R164). -/
structure NavResult where
  sol      : NavSol
  usable   : Nat
  withObs  : Nat
  common   : Nat
  ratioOk  : Bool
  baselines : List (Nat × Bool × Nat)
  deriving DecidableEq, Repr

/-- Bits sampled on a filter channel since the last ones fed, oldest first, and the instant of the last one after the present tick edge, ns (R169, R174). -/
structure BitFeed where
  ch     : Nat
  bits   : List Bool
  lastNs : Int
  deriving DecidableEq, Repr

/-- A bank swap request (R190). -/
structure SwapReq where
  bank : Nat
  fade : Nat
  deriving DecidableEq, Repr

/-- A sample a stream source delivers: its arrival, the instant the source knows, if any, on the time since reset release in ns, its values in the kind's units, whether it is valid, and the UTC second of day it carries, in ms (R202, R211, R213). -/
structure RawSample where
  ctx     : Nat
  arrival : Nat
  inst    : Option Int
  vals    : List Int
  valid   : Bool
  utcMs   : Option Nat := none
  deriving DecidableEq, Repr

/-- A sample placed at its instant (R202). -/
structure Sample where
  inst  : Int
  vals  : List Int
  valid : Bool
  fresh : Bool := true
  /-- The mask the sample carried when it was collected (R249). -/
  masked : Bool := false
  deriving DecidableEq, Repr

/-- An estimate: the 15 states with 32 fraction bits and the 120 elements of the covariance's upper triangle with 24 (R244, R245). -/
structure Est where
  x : List Int := List.replicate 15 0
  p : List Int := List.replicate 120 0
  deriving DecidableEq, Repr, Inhabited

/-- A scalar measurement: kind code, component, value, effective variance in 2^-24 of the squared unit, and its instant relative to the estimate's, ns (R247, R248). -/
structure Scalar where
  kind  : Nat
  comp  : Nat
  value : Int
  var   : Nat
  ofs   : Int
  deriving DecidableEq, Repr

/-- A snapshot of the estimate at a tick's edge, with the information of the samples of the interval that begins there (R254, R255). -/
structure Snap where
  tick : Nat
  up   : Int
  est  : Est
  info : List Int
  deriving DecidableEq, Repr

/-- Attitude and rates at an instant: heading, pitch, roll as binary angles and their rates per second (R235). -/
structure AttPoint where
  up    : Int
  hdg   : Int
  pitch : Int
  roll  : Int
  rates : List Int
  deriving DecidableEq, Repr

/-- A detection of a range-bearing reference: about the control point and in the local frame, mm (R277). -/
structure Detection where
  ctx    : Nat
  target : Nat
  inst   : Int
  relN   : Int
  relE   : Int
  posN   : Int
  posE   : Int
  deriving DecidableEq, Repr

/-- A measurement handed on to fusion (R215, R222, R236, R239). -/
structure Meas where
  ctx    : Nat
  inst   : Int
  vals   : List Int
  masked : Bool
  absent : Bool := false
  far    : Bool := false
  sat    : Bool := false
  deriving DecidableEq, Repr

/-- A telegram received on a UART: the UART, the stamp of its first character on the time since reset release, its bytes (R205, R210, R214). -/
structure Telegram where
  uart  : Nat
  start : Nat
  bytes : List Byte
  deriving DecidableEq, Repr

/-- A pending instant of an alignment group: the instant, its tick, whether it is triggered, and the samples a triggered instant has been given (R219 to R229). -/
structure GroupInstant where
  inst      : Int
  tick      : Nat
  triggered : Bool
  got       : List (Nat × Sample) := []
  deriving DecidableEq, Repr


/-- A waypoint (R324): a heading, or an offset from the leg direction when ALONG; speed of the leg in mm/s. -/
structure Waypoint where
  n      : Int
  e      : Int
  along  : Bool
  angle  : Int
  speed  : Nat
  dwellS : Nat
  deriving DecidableEq, Repr

/-- A row of the solver: its tag, its normal by variable (2 per slot, then the three slacks), its right-hand side and its ROW_SCALE, all in their classes (R351, R362, R369). The row asks normal · x ≤ rhs. -/
structure AlsRow where
  tag    : Nat
  normal : List (Nat × Int)
  rhs    : Int
  scale  : Nat
  deriving DecidableEq, Repr

/-- The directions of a new row against the active set: primal direction, dual direction, and pivot (R373, R374). -/
structure SolveDir where
  z : List Int
  r : List Int
  d : Int
  deriving DecidableEq, Repr, Inhabited

/-- A point of the dual method: the variables, the multipliers of the active rows, and the class in which a value saturated, if one did (R371). -/
structure SolvePoint where
  x   : List Int
  u   : List Int
  ovf : Option Nat
  deriving DecidableEq, Repr, Inhabited

/-- The carried tunable registers of one write (R768); ENC_PRESET is a pair of writes. -/
inductive CarriedReg where
  | syncReset | swapReq | ctxCmd | refCmd | gainScale | caCmd
  deriving DecidableEq, Repr

/-- A station command or a carried tunable write as collected (R527, R768 to R770). -/
inductive StnCmd where
  | mode (m t : Nat) (given : Bool) (track : Nat) (n e : Int)
  | setpoint (n e h : Int)
  | ack (point : Nat)
  | reference (action ref : Nat)
  | context (action ctx : Nat)
  | track (wps : List Waypoint)
  | slot (slot action : Nat)
  | busRecover (n : Nat)
  | handover
  | tune (reg : CarriedReg) (v : Word)
  | encPreset (v : Word) (n : Nat)
  deriving DecidableEq, Repr

/-- A collected command with the session that waits for its reply. -/
structure CmdEntry where
  cmd     : StnCmd
  session : Option Nat
  deriving DecidableEq, Repr

/-- The parts of a received station-protocol frame that R519 tests: what the header carries, whether its format and its tag are right, and whether it is addressed to ACTIVE_IP. -/
structure StnHdr where
  source   : Nat
  ip       : Word
  ioPort   : Bool
  formatOk : Bool
  key      : Nat
  tagOk    : Bool
  session  : Nat
  seq      : Nat
  toActive : Bool
  deriving DecidableEq, Repr

/-- The record of a point (R534). -/
structure PointRec where
  value   : Word := 0
  stampNs : Word := 0
  secLo   : Nat := 0
  quality : Nat := 4
  flags   : Nat := 0
  seq     : Nat := 0
  deriving DecidableEq, Repr

/-- A write offered to a point from outside: the writer, the record's fields, and its own stamp if it keeps time (R531, R544). -/
structure ExtWrite where
  writer  : Nat
  point   : Nat
  value   : Word
  quality : Nat
  flags   : Nat
  stamp   : Option (Word × Nat)
  deriving DecidableEq, Repr

/-- Classes of frames (R505). -/
inductive FrameClass where
  | ptp | ctrl | bulk
  deriving DecidableEq, Repr

/-- A frame at an external port: addresses, class, length in bytes, its PRP trailer (sequence number, LAN B), and whether its check sequence is right (R503 to R512). -/
structure NetFrame where
  src   : BitVec 48
  dst   : BitVec 48
  cls   : FrameClass
  bytes : Nat
  prp   : Option (Nat × Bool)
  fcsOk : Bool
  deriving DecidableEq, Repr

/-- A frame of the controller waiting at DP: its class, length and ports. -/
structure DpFrame where
  cls   : FrameClass
  bytes : Nat
  ports : BitVec 4
  deriving DecidableEq, Repr

/-- A frame linked to its output queues: the port it came by (4 DP), class, length, and the ports that have not sent it (bit 4 DP). -/
structure HeldFrame where
  from_ : Nat
  cls   : FrameClass
  bytes : Nat
  ports : BitVec 5
  deriving DecidableEq, Repr

/-- A CAN frame (R452, R482). -/
structure CanFrame where
  ide    : Bool
  fdf    : Bool
  brs    : Bool
  esi    : Bool := false
  remote : Bool := false
  id     : Nat
  data   : List Byte
  deriving DecidableEq, Repr

/-- A kind of error on a bus: bit, stuff, check, or form and acknowledgement (MBC_ERR_CNT). -/
inductive CanError where
  | bit | stuff | crc | formAck
  deriving DecidableEq, Repr

/-- What a station frame is answered with (R525). -/
inductive Reply where
  | hello (session granted role state level : Nat) (health quality nonceHi nonceLo : Word) (imageId : BitVec 64)
  | subscribe (result rods : Nat)
  | command (code result cause applied : Nat)
  | regRead (result : Nat) (addr : Word) (words : List Word)
  | regWrite (result : Nat) (addr : Word)
  | events (first : Nat) (more : Bool) (recs : List Rec)
  deriving DecidableEq, Repr

/-- A rod block of a POINT UPDATE (R541). -/
structure RodBlock where
  rod     : Nat
  full    : Bool
  refresh : Bool
  recs    : List (Nat × PointRec)
  deriving DecidableEq, Repr

/-- A PTP message the part sends (R72, R73, R79). -/
inductive PtpKind where
  | sync | followUp | delayReq | delayResp | pdelayReq | pdelayResp | pdelayRespFollowUp | announce
  deriving DecidableEq, Repr

/-- A takeover decided and waiting for its edge (R575): its cause, the epoch it took, the instant of the decision. -/
structure EntryPlan where
  cause    : Nat
  epoch    : Word
  decided  : Nat
  deriving DecidableEq, Repr

/-- A sighting of another commander (R579): role and epoch of a foreign frame with the width of its epoch field, none for a collision, and the controller. -/
structure Sighting where
  frame : Option (Nat × Nat × Nat)
  ctrl  : Nat
  deriving DecidableEq, Repr

/-- A Carry link (R554, R606). -/
structure CarryLink where
  up       : Bool := false
  peerRole : Nat := 0
  crcErr   : Nat := 0
  deriving DecidableEq, Repr

/-- Steps of joining (R591). -/
inductive JoinStep where
  | none | edge | tick | blocks | match_
  deriving DecidableEq, Repr

/-- A planned handover accepted by the active unit (R595). -/
structure HandoverPlan where
  at_    : Nat
  target : Nat
  cause  : HandoverCause
  deriving DecidableEq, Repr

/-- What a read of an SRAM word finds: nothing, or an error with its syndrome and the owning-block code of its region (R25, R774); for a single-bit error, whether a master wrote the word in the cycle of the write-back (R28). -/
inductive EccFound where
  | clean
  | single (syndrome : Nat) (region : Nat) (masterWrote : Bool)
  | double (syndrome : Nat) (owner : Nat)
  deriving DecidableEq, Repr

/-- States of the test port's controller (R634). -/
inductive Tap where
  | testLogicReset | runTestIdle | selectDr | captureDr | shiftDr | exit1Dr | pauseDr | exit2Dr | updateDr
  | selectIr | captureIr | shiftIr | exit1Ir | pauseIr | exit2Ir | updateIr
  deriving DecidableEq, Repr

/-- The header of a Carry frame (R558). -/
structure CarryHdr where
  format     : Nat
  incomplete : Bool
  relayed    : Bool
  resync     : Bool
  role       : Nat
  sections   : Nat
  tickExt    : Nat
  seq        : Word
  epoch      : Word
  imageId    : BitVec 64
  deriving DecidableEq, Repr

/-- What S10 meets: the read-backs of the front ends by antenna and frame, the VBU voltage in mV, whether every action completed within 400 ms, whether a command frame of another role was seen on a bus up to READY, and the time from reset release at its end, ms (R571, R679, R698, R700). -/
structure S10In where
  feReads : List (List Word) := []
  vbuMv   : Nat := 0
  ok      : Bool := true
  foreign : Bool := false
  ms      : Nat := 3100
  deriving DecidableEq, Repr

/-- What a start meets from outside: the straps; whether a wake came within 60 s; the part and test of the self-test that failed; whether the PLLs locked and which domains and reference inputs run; whether the claim table could be read; whether a Tally store is attached and its read-back succeeded; whether the memory BIST completed, and the defects it found (owner, words, first address); the times from reset release at the end of the steps S0 to S7, ms (R698). -/
structure StartIn where
  role     : Nat := 0
  home     : Bool := false
  wake     : Bool := false
  selfTest : Option (Nat × Nat) := none
  pllOk    : Bool := true
  running  : BitVec 14 := 0x3FFF
  claimsOk : Bool := true
  storeAttached : Bool := true
  storeOk  : Bool := true
  bistDone : Bool := true
  bist     : List (Nat × Nat × Nat) := []
  endMs    : List Nat := [1, 300, 400, 410, 710, 1210, 1300, 2100]
  s10      : S10In := {}
  deriving DecidableEq, Repr

end Sys2Proof
end

