-- ==== Sys2Proof/Machine/Image.lean ====
section
/-! DEFINITION. The Holvous configuration image as plain data: the fields each chapter names, as the checked image of S5 holds them (R718 to R721). The byte layout inside a section is not given by the spec, so the model holds the fields, not the bytes. -/

namespace Sys2Proof

/-- A feature that claims balls (R723). The number is the feature's own index under R17. -/
inductive Feature where
  | uart (u : Nat) | encoder (n : Nat) | pwm (k : Nat) | pdiv (p : Nat) | syncOut (k : Nat)
  | tp1 | mbc (n : Nat) | antenna (a : Nat) | sdClk (k : Nat) | sdDat (lo hi : Nat)
  | sdBankX | evtIn | uartBankX | allot (owner : Nat)
  deriving DecidableEq, Repr

/-- The pulse timer a claim names: none, a named timer, or ANY (R723). -/
inductive TimerUse where
  | none | named (k : Nat) | any
  deriving DecidableEq, Repr

/-- One claim of the pins and claims section (R723). `start` and `len` are the range of an allotment of the shared region. -/
structure Claim where
  feature : Feature
  timer   : TimerUse := .none
  start   : Nat := 0
  len     : Nat := 0
  deriving DecidableEq, Repr

/-- Pins and claims section (R636, R723). -/
structure ImgPins where
  claims       : List Claim := []
  /-- REACT_RAISE for faults 7 to 21, by fault identity; absent means the class of R624. -/
  reactRaise   : List (Nat × Nat) := []
  safPointBase : Nat := 0
  deriving DecidableEq, Repr

/-- Clocks section (R721). -/
structure ImgClocks where
  domainUse  : BitVec 12 := 0x0FFF
  serdesRef  : Bool := true
  gsmpExpect : Bool := true
  spiMaintEn : Bool := true
  deriving DecidableEq, Repr

/-- Events section (R659). `storeMiB` is 0 for NONE. -/
structure ImgEvents where
  storeMiB   : Nat := 0
  evqRate133 : Bool := false
  evqCmdWrite : Nat := 0x34
  evqCmdRead : Nat := 0x6C
  evqDummy   : Nat := 8
  flushAgeMs : Nat := 100
  /-- SEV_MIN by block, indexed by the high byte of the event code; absent means 0. -/
  sevMin     : List (Nat × Nat) := []
  deriving DecidableEq, Repr

/-- One HW_POINT with its limits (R695). -/
structure HwPoint where
  point : Nat
  low   : Int
  high  : Int
  deriving DecidableEq, Repr

/-- Calendar and harbour-watch fields (R695). -/
structure ImgRtc where
  trimAuto   : Bool := true
  syncTolMs  : Nat := 1
  localOfs   : Int := 0
  hwPeriodS  : Nat := 3600
  hwSettleS  : Nat := 30
  hwOffWaitS : Nat := 10
  hwPoints   : List HwPoint := []
  hwAlarmPoint : Option Nat := none
  deriving DecidableEq, Repr

/-- Edges captured by an EVT_IN input (R116). -/
inductive EdgeSel where
  | rise | fall | both
  deriving DecidableEq, Repr

/-- Timescale of TP_OUT[1] (R116); the code is that of TIM_TP_STATUS.TP1_SOURCE. -/
inductive TpSource where
  | off | system | a | b
  deriving DecidableEq, Repr

/-- Per-domain fields of the time section (R116). -/
structure ImgDomain where
  enabled   : Bool := true
  number    : Nat := 0
  gmCand    : Bool := true
  ports     : BitVec 4 := 1
  oneStep   : Bool := true
  deriving DecidableEq, Repr

/-- Time section, the fields of R116. Times are in ns, frequencies in ppb where not said otherwise. -/
structure ImgTime where
  domA      : ImgDomain := {}
  domB      : ImgDomain := { number := 1, ports := 2 }
  udp4      : Bool := false
  p2p       : Bool := false
  priority1 : List Nat := [128, 128, 128]
  priority2 : List Nat := [128, 129, 130]
  logSync   : Int := -3
  logAnnounce : Int := 0
  announceTimeout : Nat := 3
  logDelay  : Int := -3
  delayAsym : List Int := [0, 0, 0, 0]
  servoBwCentiHz : Nat := 10
  lockThreshNs : Nat := 100
  gnssTimeBiasNs : Int := 0
  gnssLossEpochs : Nat := 100
  wnFloor   : Nat := 0
  taiUtcDefault : Nat := 37
  selHoldS  : Nat := 2
  holdLimitS : Nat := 1800
  holdRatePpb : Nat := 100
  stepLimitNs : Nat := 1000000
  tpFreerun : Bool := false
  tp0WidthUs : Nat := 100000
  tp0Pol    : Bool := false
  tp1Pol    : Bool := false
  tp1Source : TpSource := .off
  tp1PeriodMs : Nat := 1000
  tp1PhaseMs : Nat := 0
  tp1WidthUs : Nat := 100000
  evtEdge   : List EdgeSel := List.replicate 8 .rise
  deriving DecidableEq, Repr

/-- Twin fields, held in the keys section (R603). -/
structure ImgTwin where
  triad        : Bool := false
  linkUse      : BitVec 2 := 3
  hbWindowUs   : Nat := 200
  hbKey        : Nat := 0
  hbMac        : BitVec 48 := 0x011B1E000001
  hbPorts      : BitVec 4 := 3
  discoveryMs  : Nat := 500
  edgeTolUs    : Nat := 20
  syncMatch    : Nat := 1000
  handoverLead : Nat := 10
  returnDelayS : Nat := 60
  roleXchgH    : Nat := 168
  pointBase    : Option Nat := none
  deriving DecidableEq, Repr

/-- One front-end configuration frame: its bits and the read-back expected under a mask (R121). -/
structure FeFrame where
  width  : Nat
  bits   : Word
  expect : Option (Word × Word) := none
  deriving DecidableEq, Repr

/-- GNSS section (R165). Ratios in thousandths, C/N0 in 0.1 dB-Hz. -/
structure ImgGnss where
  antEn      : BitVec 4 := 0xF
  antPos     : List (Int × Int × Int) := List.replicate 4 (0, 0, 0)
  antDelayNs : List Nat := [0, 0, 0, 0]
  feFrames   : List (List FeFrame) := [[], [], [], []]
  gnSpiMHz   : Nat := 5
  measDiv    : Nat := 10
  acqNoncoh  : Nat := 20
  aidedNoncoh : Nat := 8
  acqThreshMilli : Nat := 2500
  dllBwMilliHz : Nat := 1000
  fllBwHz    : Nat := 10
  pllBwHz    : Nat := 15
  intMs      : Nat := 20
  cn0Loss    : Nat := 220
  elevMaskDeg : Nat := 10
  attMinSv   : Nat := 5
  attRatioMilli : Nat := 3000
  baseTolMm  : Nat := 20
  rtcmSrc    : RtcmSrc := .none
  rtcmStation : Nat := 0xFFFF
  rtcmMaxAgeS : Nat := 10
  solMax     : Nat := 4
  deriving DecidableEq, Repr

/-- Type of a coefficient bank (R179, R184). -/
inductive BankType where
  | linear | minphase
  deriving DecidableEq, Repr

/-- A coefficient bank (R184): coefficients in Q1.23, TRIM in 0.01 µs. -/
structure Bank where
  type   : BankType
  stride : Nat
  coef   : List Int
  trim   : Nat
  deriving DecidableEq, Repr

/-- A swap rule: on entry to a position-control mode, a bank swap of the channels of a mask (R190, R196). -/
structure SwapRule where
  mode : Nat
  mask : BitVec 32
  bank : Nat
  fade : Nat
  deriving DecidableEq, Repr

/-- Filters section (R196). Step limits in Q1.23; 0 disables. -/
structure ImgFilters where
  sdClkEn   : BitVec 4 := 0
  sampleDly : Nat := 2
  chEn      : BitVec 32 := 0
  chBank    : List Nat := List.replicate 32 0
  chStepLim : List Nat := List.replicate 32 0x200000
  banks     : List (Option Bank) := List.replicate 8 none
  swapRules : List SwapRule := []
  deriving DecidableEq, Repr

/-- Stream kinds, codes 0 to 14 (R201). -/
inductive StreamKind where
  | positionGeo | positionLocal | heading | attitude | rate | velocity | wind | rangeBearing
  | tautWire | draught | trim | joystick | handwheel | thruster | generic
  deriving DecidableEq, Repr

/-- The sentence types taken (R211). -/
inductive SentenceType where
  | hdt | ths | rot | hrm | mwv | gga | gns | vtg | ttm
  deriving DecidableEq, Repr

/-- Source of a stream context (R202). -/
inductive StreamSrc where
  | filter (ch : Nat) | sentence (uart : Nat) (type : SentenceType) | template (uart tmpl : Nat)
  | can (entry : Nat) | point (p : Nat) | encoder (n : Nat) | gnss (what : Nat)
  deriving DecidableEq, Repr

/-- A stream context of the streams section (R200). Lengths in mm, angles binary, latencies in µs. -/
structure CtxCfg where
  kind      : StreamKind
  src       : StreamSrc
  field     : Nat := 0
  scale     : Int := 65536
  offset    : Int := 0
  periodMs  : Nat := 100
  latNomUs  : Nat := 0
  lever     : Int × Int × Int := (0, 0, 0)
  mountYaw  : Word := 0
  mountPitch : Word := 0
  mountRoll : Word := 0
  group     : Option Nat := none
  trigDelayUs : Nat := 0
  weight    : Nat := 128
  rank      : Nat := 0
  confInit  : Nat := 128
  confRise  : Nat := 16
  confDecay : Nat := 64
  maskHoldS : Nat := 10
  staleMult : Nat := 3
  talker    : Option (Nat × Nat) := none
  deriving DecidableEq, Repr

/-- Check of a binary template (R214). -/
inductive TemplateCheck where
  | none | xor8 | crc16
  deriving DecidableEq, Repr

/-- A field of a template: byte offset, bytes, big-endian, signed (R214). -/
structure TemplateField where
  offset : Nat
  bytes  : Nat
  big    : Bool
  signed : Bool
  deriving DecidableEq, Repr

/-- A binary template (R214). -/
structure Template where
  sync   : List Byte
  length : Nat
  check  : TemplateCheck
  fields : List TemplateField
  deriving DecidableEq, Repr

/-- What a UART carries (R240). -/
inductive UartMode where
  | sentence | template | rtcm | off
  deriving DecidableEq, Repr

/-- Path selection of an alignment group (R225). -/
inductive GroupMode where
  | main | auto | triggered
  deriving DecidableEq, Repr

/-- An alignment group (R219 to R229, R240). -/
structure GroupCfg where
  div       : Nat := 10
  waitMs    : Nat := 20
  mode      : GroupMode := .main
  fbHoldS   : Nat := 300
  syncOut   : Option Nat := none
  offsetUs  : Nat := 0
  widthUs   : Nat := 10
  pol       : Bool := false
  deriving DecidableEq, Repr

/-- Streams section (R200, R240). -/
structure ImgStreams where
  ctxs      : List (Option CtxCfg) := []
  originLat : Int := 0
  originLon : Int := 0
  originHgt : Int := 0
  uartRate  : List Nat := List.replicate 12 4800
  uartMode  : List UartMode := List.replicate 12 .off
  templates : List (Option Template) := []
  groups    : List GroupCfg := List.replicate 32 {}
  wireDepth : Nat := 0
  deriving DecidableEq, Repr


/-- A reference of the fusion section (R263). -/
structure RefCfg where
  heading : Bool
  ctxs    : List Nat
  deriving DecidableEq, Repr

/-- Fusion section (R289). Limits in 0.1 σ; damping, added mass and noise as the estimator takes them. -/
structure ImgFusion where
  sigma      : List Nat := []
  refs       : List (Option RefCfg) := []
  contraLimit : Nat := 50
  contraTimeMs : Nat := 2000
  drLimitS   : Nat := 30
  mass       : Nat := 0
  addedMass  : List Nat := []
  inertia    : Nat := 0
  damping    : List Nat := []
  noise      : List Nat := []
  wavePeriodMs : Nat := 8000
  waveDampCenti : Nat := 10
  scanPeriodMs : List Nat := List.replicate 16 1000
  trkGate    : Nat := 2000
  trkHit     : Nat := 32
  trkMiss    : Nat := 24
  trkDrop    : Nat := 32
  trkFixedSpeed : Nat := 2000
  draughtX   : List Int := List.replicate 256 0
  draughtTauS : Nat := 60
  displTable : List (Int × Nat) := []
  displNom   : Nat := 1
  slotX      : List Int := List.replicate 16 0
  deriving DecidableEq, Repr

/-- Control tables section (R344). Triples run surge, sway, yaw. Yaw angles are in 0.001°, shares and damping in 0.01, RM_OMEGA in 0.01 rad/s, AIR_DENSITY in 0.001 kg/m³. -/
structure ImgControl where
  outerDiv   : Nat := 100
  errSpan    : List Nat := [10000, 10000, 10000]
  gain       : List (List Nat) := []
  ki         : List Nat := [0, 0, 0]
  kd         : List Nat := [0, 0, 0]
  intMax     : List Nat := [0, 0, 0]
  demMax     : List Nat := [0, 0, 0]
  windCtx    : List (Option Nat) := [none, none]
  windCoef   : List (List Int) := []
  windFf     : Nat := 100
  airDensity : Nat := 1225
  windTauMs  : Nat := 5000
  windFadeS  : Nat := 10
  rmTauMs    : Nat := 2000
  rmOmegaH   : Nat := 15
  rmOmegaYaw : Nat := 15
  rmZeta     : Nat := 100
  vmaxH      : Nat := 500
  amaxH      : Nat := 50
  vmaxYaw    : Nat := 3000
  amaxYaw    : Nat := 500
  joyCtx     : List (Option Nat) := [none, none, none]
  joyDead    : Nat := 5
  joyCurve   : Nat := 50
  joyForceMax : List Nat := [0, 0, 0]
  joySpSpeed : Nat := 200
  joyYawRate : Nat := 2000
  joyHoldMs  : Nat := 200
  hwCtx      : Option Nat := none
  hwStep     : Nat := 100
  engageRampS : Nat := 10
  blendTimeS : Nat := 2
  stopRampS  : Nat := 5
  spMoveMax  : Nat := 50000
  tracks     : List (Option (List Waypoint)) := []
  wpRadius   : Nat := 100
  followVmax : Nat := 1000
  excWarn    : Nat := 3000
  excAlarm   : Nat := 5000
  hdgWarn    : Nat := 3000
  hdgAlarm   : Nat := 5000
  confWarn   : Nat := 96
  deriving DecidableEq, Repr

/-- Thruster kinds (R348). -/
inductive ThrKind where
  | azimuth | tunnel | fixed | none
  deriving DecidableEq, Repr

/-- A user row: coefficients of surge, sway per slot in its class, right-hand side, and which form has it (R351, R393). -/
structure UserRow where
  coefs : List (Nat × Int × Int)
  rhs   : Int
  deriving DecidableEq, Repr

/-- A structure of the image (R363): mask AVAIL, PRELOAD, user rows, and its fallback table: FB_AZ and the gains of each slot (R387). Gains are Q16.16. -/
structure StructCfg where
  avail   : BitVec 16
  preload : Bool := false
  users   : List UserRow := []
  fbAz    : List Int := []
  fbGain  : List (List Int) := []
  deriving DecidableEq, Repr

/-- A thruster slot of the allocation section (R403): forces in N, rates in N/s and 0.001°/s, bounds as rows of draught, TMAX and TMAX_REV. -/
structure SlotCfg where
  kind     : ThrKind := .none
  y        : Int := 0
  thrCtx   : Nat := 0
  tb       : List (Int × Nat × Nat) := []
  thrRate  : Nat := 100
  azRate   : Nat := 10000
  sectors  : List (Int × Int) := []
  board    : Option Nat := none
  pwrK     : Nat := 0
  pwrRated : Nat := 0
  deriving DecidableEq, Repr

/-- Allocation section and failure groups (R403). Exponents of the classes as Zwiush stores them (R369); ROW_SCALE by tag kind (R373). -/
structure ImgAlloc where
  slots     : List SlotCfg := List.replicate 16 {}
  azLagTol  : Nat := 10000
  weights   : List Nat := []
  slackWeights : List Nat := []
  slackTol  : List Nat := [2000, 2000, 50000]
  expForce  : Int := -8
  expMoment : Int := 0
  expPower  : Int := 0
  expCoef   : Int := -16
  violTol   : List (Nat × Nat) := []
  rowScale  : List (Nat × Nat) := []
  iterMax   : Nat := 96
  pwrPoint  : List (Option Nat) := List.replicate 8 none
  pwrDefault : List Nat := List.replicate 8 0
  pwrHoldS  : Nat := 5
  structs   : List (Option StructCfg) := List.replicate 64 none
  fallbackExit : Nat := 10
  caPeriodMs : Nat := 1000
  caFactor  : Nat := 100
  caAzSpan  : Nat := 90000
  caIterMax : Nat := 255
  caUtilWarn : Nat := 900
  caPointBase : Option Nat := none
  groups    : List (BitVec 16 × BitVec 8) := []
  deriving DecidableEq, Repr

/-- Encoder modes (R407). -/
inductive EncMode where
  | off | quad | pulseDir | ssi
  deriving DecidableEq, Repr

/-- Index modes (R412). -/
inductive IndexMode where
  | none | latch | resetFirst | resetEvery
  deriving DecidableEq, Repr

/-- An encoder channel of the streams section (R448). -/
structure EncCfg where
  mode      : EncMode := .off
  invert    : Bool := false
  preset    : Word := 0
  indexMode : IndexMode := .none
  indexVal  : Word := 0
  zGate     : Bool := false
  stillMs   : Nat := 50
  spdMax    : Nat := 2147483647
  evtSel    : Option Nat := none
  ssiBits   : Nat := 25
  ssiShift  : Nat := 0
  ssiRateKHz : Nat := 1000
  ssiGray   : Bool := true
  ssiCheck  : Bool := true
  ssiDiv    : Nat := 1
  ssiOffsetUs : Nat := 0
  ssiDelayUs : Nat := 0
  deriving DecidableEq, Repr

/-- A pulse-division pair (R448). -/
structure PdivCfg where
  src  : Option Nat := none
  n    : Nat := 1
  m    : Nat := 1
  rate : Nat := 100000
  deriving DecidableEq, Repr

/-- Where an axis takes its feedback (R436): an encoder, or a field of the slot's THRUSTER context. -/
inductive FbSrc where
  | enc (n : Nat) | field (i : Nat)
  deriving DecidableEq, Repr

/-- A servo axis (R448). Azimuth gains in 0.001, outputs and rates of azimuth axes in 0.001°; KP and KI Q16.16. -/
structure AxisCfg where
  fb       : Option FbSrc := none
  fbStaleMs : Nat := 20
  cpr      : Nat := 1
  zero     : Word := 0
  kpAz     : Nat := 2000
  kffAz    : Nat := 1000
  azOutMax : Nat := 10500
  azAcc    : Nat := 200000
  azFollow : Nat := 2000
  azFollowMs : Nat := 2000
  curve    : List (Int × Int) := []
  spRate   : Nat := 1
  pi       : Bool := false
  kp       : Nat := 0
  ki       : Nat := 0
  outMin   : Int := -2147483648
  outMax   : Int := 2147483647
  deriving DecidableEq, Repr

/-- Levels of a gated ball (R446). -/
inductive GateLevel where
  | low | high | hiz
  deriving DecidableEq, Repr

/-- A PWM output (R445, R448): frequency in Hz, duties in 0.01 %. -/
structure PwmCfg where
  axis    : Option Nat := none
  freq    : Nat := 1000
  dutyMin : Nat := 1000
  dutyMax : Nat := 9000
  gate    : GateLevel := .hiz
  deriving DecidableEq, Repr

/-- Encoder, pulse-division and servo fields (R448). -/
structure ImgServo where
  encs  : List EncCfg := List.replicate 16 {}
  pdivs : List PdivCfg := List.replicate 4 {}
  axes  : List AxisCfg := List.replicate 32 {}
  pwms  : List PwmCfg := List.replicate 16 {}
  deriving DecidableEq, Repr

/-- Wake modes of a controller (R493). -/
inductive WakeMode where
  | edge | frame
  deriving DecidableEq, Repr

/-- Bus fields of a controller (R498). WAKE_FILT in ns. -/
structure MbcCfg where
  nomBrp : Nat := 1
  nomTseg1 : Nat := 63
  nomTseg2 : Nat := 16
  nomSjw : Nat := 16
  fdEn   : Bool := false
  dataBrp : Nat := 1
  dataTseg1 : Nat := 11
  dataTseg2 : Nat := 4
  dataSjw : Nat := 4
  tdcEn  : Bool := false
  tdco   : Nat := 0
  triple : Bool := false
  auto   : Bool := true
  failbackTicks : Nat := 100
  sleepHw : Bool := false
  wakeMode : WakeMode := .edge
  wakeFiltNs : Nat := 1000
  wakeId : Nat := 0
  wakeIdMask : Nat := 0
  wakeIde : Bool := false
  wakeDlc : Nat := 0
  wakeData : List Byte := []
  wakeMask : List Byte := []
  deriving DecidableEq, Repr

/-- Kind of a drive map entry (R460). -/
inductive MapDir where
  | tx | rx | fifo
  deriving DecidableEq, Repr

/-- What a field of a drive map entry carries (R462 to R464, R487). -/
inductive MapSrc where
  | axis (x : Nat) | thrust (slot : Nat) | azimuth (slot : Nat) | const (v : Int) | seq | role | epoch
  | ctx (c i : Nat)
  deriving DecidableEq, Repr

/-- A field of a drive map entry (R462, R498, R771). GAIN is Q16.16. -/
structure MapField where
  src    : MapSrc
  byte   : Nat
  bit    : Nat
  width  : Nat
  little : Bool := false
  signed : Bool := false
  gain   : Int := 65536
  offset : Int := 0
  deriving DecidableEq, Repr

/-- A drive map entry (R460, R498). -/
structure MapEntry where
  dir    : MapDir
  mbc    : Nat
  id     : Nat
  idMask : Nat := 0x1FFFFFFF
  ide    : Bool := false
  fdf    : Bool := false
  brs    : Bool := false
  len    : Nat := 8
  tickDiv : Nat := 1
  tickPhase : Nat := 0
  roleEn : BitVec 3 := 7
  ttl    : Nat := 8
  arbRetry : Nat := 255
  errRetry : Nat := 15
  failover : Bool := false
  twin   : Option Nat := none
  fields : List MapField := []
  deriving DecidableEq, Repr

/-- Drive maps section: the buses and their entries (R498). -/
structure ImgBus where
  mbcEn  : BitVec 8 := 0
  mbcs   : List MbcCfg := List.replicate 8 {}
  paired : BitVec 4 := 0
  entries : List MapEntry := []
  deriving DecidableEq, Repr

/-- Addresses of a role (R514). -/
structure UnitAddr where
  mac  : BitVec 48
  ip   : Word
  mask : Word
  gw   : Word
  deriving DecidableEq, Repr

/-- A station entry (R547). `rights`: bit 0 VIEW, 1 COMMAND, 2 MAINT. -/
structure StationCfg where
  id     : Nat
  ip     : Word
  keys   : BitVec 32
  rights : BitVec 4
  timed  : Bool := false
  deriving DecidableEq, Repr

/-- A node entry (R547). -/
structure NodeCfg where
  id      : Nat
  ip      : Word
  key     : Nat
  periodMs : Nat
  timed   : Bool := false
  outputs : List Nat := []
  deriving DecidableEq, Repr

/-- A point of the image (R535 to R537, R547). The writer is coded as in R549. -/
structure PointCfg where
  type     : Nat := 0
  writer   : Nat := 0xFFFF
  initial  : Word := 0
  deadband : Nat := 0
  staleMs  : Nat := 0
  deriving DecidableEq, Repr

/-- Network and points (R547). Points not listed are constants 0 with no writer. -/
structure ImgNet where
  roles     : List (Option UnitAddr) := [none, none, none]
  activeIp  : Word := 0
  activeMac : BitVec 48 := 0
  dpPorts   : BitVec 4 := 3
  portFwd   : List (BitVec 4) := [0, 0, 0, 0]
  portQmax  : Nat := 1024
  prp2      : Bool := false
  icmp      : Bool := true
  stations  : List StationCfg := []
  rxRate    : Nat := 2000
  sessionTimeoutS : Nat := 10
  nodes     : List NodeCfg := []
  ioLoss    : Nat := 3
  rtcmCh    : Nat := 0
  points    : List (Nat × PointCfg) := []
  refreshS  : Nat := 10
  pubHoldMax : Nat := 768
  deriving DecidableEq, Repr

/-- The Holvous image (R718 to R721). `id` is IMAGE_ID. -/
structure Image where
  id        : BitVec 64 := 0
  fwMin     : Nat := 0
  fwMax     : Nat := 0xFFFFFFFF
  buildWeek : Nat := 0
  pins      : ImgPins := {}
  clocks    : ImgClocks := {}
  time      : ImgTime := {}
  rtc       : ImgRtc := {}
  gnss      : Option ImgGnss := none
  filters   : Option ImgFilters := none
  streams   : ImgStreams := {}
  fusion    : ImgFusion := {}
  control   : ImgControl := {}
  alloc     : ImgAlloc := {}
  servo     : ImgServo := {}
  twin      : ImgTwin := {}
  events    : ImgEvents := {}
  bus       : ImgBus := {}
  net       : ImgNet := {}
  deriving DecidableEq, Repr


end Sys2Proof
end

