-- ==== Sys2Proof/Machine/Blocks.lean ====
section
/-! DEFINITION. The blocks of the LN9616 as plain data, with what leaves the part and what a Carry frame holds. A default in a structure is the value at reset. -/

namespace Sys2Proof.Machine

open Sys2Proof

/-- A mark of an event recorded at most once a second, with what was counted since. -/
structure Mark where
  last : Option Nat := none
  log  : List Nat := []
  deriving DecidableEq, Repr

/-- SYS block (R25 to R30, R51 to R57, R61). -/
structure Sys where
  state       : DevState := .off
  level       : Nat := 0
  /-- The level evaluated in the last SYS cycle of the tick, taking effect at the edge (R56). -/
  levelNext   : Option Nat := none
  healthSeq   : Nat := 0
  eccUncorr   : Bool := false
  eccCorrCnt  : Nat := 0
  eccUncorrAddr : Word := 0
  scrubAddr   : Nat := 0
  /-- Instant of the last SYS_ECC_CORR record of each region (R60), and the corrections since it. -/
  eccMarks    : List EccMark := []
  deriving DecidableEq, Repr

/-- CLK block: the domains and reference inputs of the monitors (R32, R620). -/
structure Clk where
  lost     : BitVec 14 := 0
  running  : BitVec 14 := 0x0004
  gateBad  : List Nat := List.replicate 14 0
  gateGood : List Nat := List.replicate 14 0
  lostAt   : List Nat := List.replicate 14 0
  deriving DecidableEq, Repr

/-- TKS block: the tick scheduler (R33 to R50, R61). Instants are in ns. -/
structure Tks where
  running    : Bool := false
  /-- TICK_EXT, 48 bits (R41). -/
  tickExt    : Nat := 0
  /-- Time since reset release at the last tick edge; it never steps. -/
  upEdge     : Nat := 0
  /-- The tick edge before it. -/
  prevEdge   : Nat := 0
  /-- The instant of the command in progress, after the last tick edge (or after reset release). -/
  sinceEdge  : Nat := 0
  phase      : Nat := 7
  phaseOpen  : Bool := false
  /-- Participants of the open phase that will not have posted by the end of its window (bits of TKS_MISS). -/
  stalled    : BitVec 15 := 0
  /-- Masters found missing at the tick edge, for which TKS does not wait (R615). -/
  excluded   : BitVec 17 := 0
  /-- Phases of this tick to be abandoned after a miss; bit 5: P5 queues the commands of the tick before (R42). -/
  abandon    : BitVec 8 := 0
  /-- A deadline miss has happened in this tick (R47). -/
  tickMissed : Bool := false
  /-- The last complete tick had a deadline miss (SYS_HEALTH.MISS). -/
  missLast   : Bool := false
  missRun    : Nat := 0
  lastMiss   : Nat := 0
  missCnt    : List Nat := List.replicate 8 0
  phaseMax   : List Nat := List.replicate 8 0
  periodNs   : Nat := 0
  /-- Phase offset of the tick edges still to be removed, ns (R104). -/
  phaseErr   : Int := 0
  opened     : Nat := 0
  closed     : Nat := 0
  missed     : Nat := 0
  abandoned  : Nat := 0
  /-- The Reckoner was requested at 418 µs and belongs to the main solve (R49, R50). -/
  reckoner   : Bool := false
  /-- TKS_TICK_HI frozen by a read of TKS_TICK_NO, by access path. -/
  frozenHi   : List (Path × Nat) := []
  deriving DecidableEq, Repr

/-- One time domain, A or B (R62, R80 to R101, R118). Times and offsets in ns, `freq` in 2^-16 ppm. -/
structure Dom where
  ctr         : Nat := 0
  state       : DomState := .none
  gm          : Bool := false
  port        : Nat := 0
  /-- The grandmaster the domain follows, or its own data set while it is grandmaster. -/
  gmClass     : Nat := 0
  gmAcc       : Nat := 0
  gmVar       : Nat := 0
  gmId        : BitVec 64 := 0
  masterSrc   : Option PortIdentity := none
  /-- Instant from which the time in HOLDOVER or FREERUN counts, on the time since reset release (HOLD_S, R94, R99). -/
  holdFrom    : Int := 0
  stepPending : Option Int := none
  /-- A second source has returned while a step waits; it is taken after the step (R107). -/
  secondWaits : Bool := false
  /-- Slew in progress: the amount and the instant it began. -/
  slew        : Option SlewRun := none
  offset      : Int := 0
  freq        : Int := 0
  /-- The offsets measured since the source returned, at most 5 (R100). -/
  med         : List Int := []
  /-- Consecutive offset measurements below LOCK_THRESH (R82). -/
  lockRun     : Nat := 0
  steppedAt   : Option Nat := none
  lockedEver  : Bool := false
  /-- HOLDOVER was entered at S9 from a saved correction (R94). -/
  heldAtS9    : Option Int := none
  /-- Changes of the frequency correction while locked, newest first, within 60 s (R94). -/
  freqHist    : List FreqMark := []
  lockedAt    : Nat := 0
  leftLockAt  : Nat := 0
  /-- The rate held when the source returned (R100). -/
  heldFreq    : Int := 0
  foreign     : List ForeignMaster := []
  lastSyncUp  : Option Nat := none
  /-- No Sync has come from the master since a Sync timeout (R83). -/
  syncLost    : Bool := false
  /-- Master to slave difference of the last Sync, ns (R72). -/
  lastMs      : Int := 0
  syncSeq     : Nat := 0
  annSeq      : Nat := 0
  lastSyncTx  : Option Nat := none
  lastAnnTx   : Option Nat := none
  pendSync    : Option PendingSync := none
  delay       : DelayState := {}
  lastSaveUp  : Nat := 0
  deriving DecidableEq, Repr

/-- One EVT_IN input (R113 to R115, R118). -/
structure EvtIn where
  lost     : Nat := 0
  count    : Nat := 0
  lastSs   : Word := 0
  lastSec  : Nat := 0
  lastFall : Bool := false
  lastStepped : Bool := false
  /-- Captures held since the last drain in P0, at most 16. -/
  held     : List EvtCapture := []
  lostTick : Nat := 0
  ovfMark  : Option Nat := none
  lostLog  : List Nat := []
  deriving DecidableEq, Repr

/-- TIM block (R62 to R118). -/
structure Tim where
  a         : Dom := {}
  b         : Dom := {}
  /-- The backup counter of R66, ns, and its frequency correction. -/
  backup    : Nat := 0
  backupFreq : Int := 0
  backupState : DomState := .none
  backupFrom : Int := 0
  /-- Tick source: 0 A, 1 B, 2 backup counter, 3 none (TIM_STATUS.SEL). -/
  sel       : Nat := 3
  /-- Since when the other domain has been better (R91). -/
  betterSince : Option Nat := none
  /-- The tick source has fallen in rank 1 of the order of quality (R91). -/
  selFell   : Bool := false
  residual  : Int := 0
  residSlew : Option SlewRun := none
  /-- A residual of STEP_LIMIT or more waits for the next whole second (R93). -/
  residStep : Bool := false
  abDiff    : Int := 0
  /-- System time at the last tick edge, ns since the PTP epoch (R65). -/
  latSys    : Nat := 0
  /-- The counters have been loaded at S9 (R640). -/
  loaded    : Bool := false
  steppedAt : Option Nat := none
  utc       : Utc := {}
  tp        : List TpOut := [{}, {}]
  evt       : List EvtIn := List.replicate 8 {}
  gnssValid : Bool := false
  gnssMiss  : Nat := 0
  peerDelay : List DelayState := List.replicate 4 {}
  /-- Seconds of system time frozen by a read of TIM_NOW_NS, by access path; and a frozen last capture, by path and input (R118). -/
  shadow    : List (Path × Nat) := []
  evtFrozen : List ((Path × Nat) × (Word × Word)) := []
  deriving DecidableEq, Repr

/-- SAF block: the safety partition (R607 to R638). -/
structure Saf where
  spOk          : Bool := false
  safeOk        : Bool := false
  claimsLocked  : Bool := false
  fwLocked      : Bool := false
  /-- S1 has passed: the fault outputs are driven by R629's table. -/
  s1Passed      : Bool := false
  /-- The checker of R619 has acted. -/
  checker       : Bool := false
  /-- SP toggles the keep-alive of the gates (R609, R611). -/
  keepAlive     : Bool := false
  gatePwm       : BitVec 16 := 0
  gateMbc       : BitVec 8 := 0
  gatePdiv      : BitVec 4 := 0
  gateSync      : BitVec 8 := 0
  /-- MBC gates that close at the end of the frame in transmission (R470, R611). -/
  mbcClosing    : BitVec 8 := 0
  outenDrive    : Bool := false
  /-- Level an external source holds OUT_EN_MON at, against the driven level (R631). -/
  outenHeld     : Option Bool := none
  frozen        : BitVec 17 := 0
  freeze        : List FreezeInfo := List.replicate 17 {}
  present       : BitVec 22 := 0
  latch         : BitVec 22 := 0
  unack         : BitVec 22 := 0
  /-- Faults raised to HANDOVER at detection under R623. -/
  raised        : BitVec 22 := 0
  roleConfirmed : Bool := false
  roleCause     : Nat := 0
  roleRefusals  : Nat := 0
  vmon          : List Nat := List.replicate 5 0
  tempBand      : Nat := 0
  tj            : Int := 0
  pfailLow      : Bool := false
  pfailRoseUp   : Option Nat := none
  wdg           : List Watchdog := List.replicate 17 {}
  deriving DecidableEq, Repr

/-- The Tally store outside the part (R647 to R653). It keeps its content through resets and loss of power. -/
structure Store where
  attached  : Bool := false
  /-- A valid header copy is present. -/
  valid     : Bool := false
  gen       : Nat := 0
  slots     : Nat := 0
  freeNext  : Nat := 0
  nextSeq   : Nat := 0
  written   : Nat := 0
  stored    : Nat := 0
  overwritten : Nat := 0
  dropped   : Nat := 0
  drop      : List Nat := List.replicate 8 0
  pendingSev : List Nat := List.replicate 8 0
  imageId   : BitVec 64 := 0
  /-- The entries of the eight severity lists in age order. -/
  entries   : List StoreEntry := []
  /-- A page cut short by loss of power: its GEN and its records, each with whether it reached its slot. -/
  torn      : Option TornPage := none
  deriving DecidableEq, Repr

/-- EVR block: the Tally (R639 to R661). -/
structure Evr where
  ring      : List Rec := []
  /-- Pending records, oldest first, each with the instant of its admission. -/
  pend      : List PendRec := []
  inFlight  : List Rec := []
  /-- Sequence numbers are being given (the end of S6 has passed). -/
  numbered  : Bool := false
  nextSeq   : Nat := 0
  /-- EVR_STATUS.STORE: 0 ring only, 1 opening, 2 in use, 3 failed. -/
  storeState : Nat := 0
  urgent    : Option UrgentRun := none
  /-- Books of the ring-only working, and of the records not yet in a store (R650, R654). -/
  written   : Nat := 0
  stored    : Nat := 0
  overwritten : Nat := 0
  dropped   : Nat := 0
  drop      : List Nat := List.replicate 8 0
  flushMax  : Nat := 0
  dropLog   : List DropMark := []
  dropRec   : List (Option Nat) := List.replicate 8 none
  readSeq   : List (Path × Word) := []
  books     : List (Path × EvrBooks) := []
  store     : Store := {}
  deriving DecidableEq, Repr

/-- RTC block and backup domain (R662 to R697). -/
structure Rtc where
  cal        : Calendar := {}
  trim       : Int := 0
  localOfs   : Int := 0
  leapArmed  : LeapArm := .none
  leapFlag   : Bool := false
  valid      : Bool := false
  hwArm      : Bool := false
  wakeEn     : Bool := false
  wakePeriod : Nat := 0
  merged     : Nat := 0
  startCause : StartCause := .backupReset
  /-- The backup reset has happened since the last start (R684). -/
  bkupSince  : Bool := true
  onCell     : Bool := false
  pwrOn      : Bool := true
  bkupRst    : Bool := false
  wakePending : Bool := false
  switchCnt  : Nat := 0
  vbuSeconds : Nat := 0
  startRecs  : List StartRec := List.replicate 8 {}
  save       : Option TimeSave := none
  leapToReport : Option LeapReport := none
  /-- Start watchdog resets not yet recorded (BOOT_START_TIMEOUT). -/
  timeoutToReport : Option (Nat × Nat) := none
  hwRound    : Nat := 0
  stageTime  : Word := 0
  stageDate  : Word := 0x20000101
  commit     : Option Nat := none
  dateErr    : Bool := false
  trimRun    : Option TrimRun := none
  /-- Calendar shadows, with the instants of their freeze (R676). -/
  shadow     : List (Path × (Calendar × Nat)) := []
  /-- Instant of the last second of the calendar, on the time since reset release. -/
  secUp      : Nat := 0
  hwRunning  : Bool := false
  hwHeld     : Bool := false
  hwHeldRec  : Bool := false
  hwT0       : Nat := 0
  hwT0Up     : Nat := 0
  hwReleasedUp : Option Nat := none
  hwUnacked  : Bool := false
  deriving DecidableEq, Repr

/-- BOOT block (R698 to R717, R731). -/
structure Boot where
  step      : Nat := 0
  halted    : Bool := false
  haltCause : Nat := 0
  fwSlot    : Bool := false
  cfgSlot   : Bool := false
  readyMs   : Nat := 0
  ready     : Bool := false
  imageId   : BitVec 64 := 0
  fwVersion : Word := 0
  /-- Steps of this start taken by their alternative from the outset (R707). -/
  altSteps  : BitVec 12 := 0
  /-- The vendor firmware has started at S4 (R775). -/
  fwRuns    : Bool := false
  /-- The run on SAFE of R702. -/
  onSafe    : Bool := false
  /-- Row of the table of role at start, decided at S8 (R571). -/
  roleRow   : Nat := 2
  /-- Instants at which S8 and S9 began. -/
  s8Up      : Nat := 0
  s9Up      : Nat := 0
  rewriteDue : Bool := false
  progAddr  : Word := 0
  progBusy  : Option ProgRun := none
  progResult : Nat := 0
  progLast  : Word := 0
  pageBuf   : List Word := List.replicate 64 0
  pageFill  : Nat := 0
  /-- A restart waits for the programming command in progress (R729). -/
  restartDue : Bool := false
  deriving DecidableEq, Repr

/-- PIN block: straps and claims (R551, R723 to R728, R731). -/
structure Pin where
  strapRole : Nat := 0
  strapHome : Bool := false
  accepted  : BitVec 256 := 0
  rejected  : BitVec 256 := 0
  claims    : List Claim := []
  timers    : List Nat := List.replicate 8 0
  /-- The test port's controller and what TDO drives, none while it drives nothing (R634, R745). -/
  tap       : Tap := .testLogicReset
  tdo       : Option Bool := none
  deriving DecidableEq, Repr

/-- Maintenance SPI port (R757, R758). -/
structure Mspi where
  result : Nat := 0xFF
  addr   : Nat := 0
  data   : Word := 0
  deriving DecidableEq, Repr

/-- A tracking channel (R124 to R140, R167). -/
structure Chan where
  state    : ChanState := .idle
  prn      : Nat := 0
  cn0      : Nat := 0
  pli      : Int := 0
  aided    : Bool := false
  sinceUp  : Nat := 0
  lockMs   : Nat := 0
  /-- Consecutive ms in which both conditions of R136 hold. -/
  goodMs   : Nat := 0
  lowCn0Ms : Nat := 0
  lowPliMs : Nat := 0
  promptNeg : Bool := false
  msCount  : Nat := 0
  /-- Sign changes at each of the 20 ms positions (R137). -/
  flips    : List Nat := List.replicate 20 0
  bitSync  : Bool := false
  bitEdge  : Nat := 0
  half     : Bool := false
  data     : Bool := false
  txMs     : Nat := 0
  codeChip : Nat := 0
  codeFrac : Word := 0
  adr      : BitVec 48 := 0
  /-- Carrier phase and integrated Doppler since the last epoch, 2^-16 cycle (R139). -/
  adrSince : Int := 0
  dopSince : Int := 0
  doppler  : Int := 0
  slips    : Nat := 0
  slip     : Bool := false
  slipMark : Option Nat := none
  deriving DecidableEq, Repr

/-- An antenna (R121, R122, R164, R167). -/
structure Antenna where
  magI     : Nat := 0
  magQ     : Nat := 0
  feFail   : Bool := false
  stuck    : Bool := false
  interf   : Bool := false
  lost     : Bool := false
  baseFixed : Bool := false
  noCommonSince : Option Nat := none
  searched : BitVec 32 := 0
  deriving DecidableEq, Repr

/-- GNB block (R119 to R167). -/
structure Gnb where
  chans    : List Chan := List.replicate 64 {}
  ants     : List Antenna := List.replicate 4 {}
  acq      : Option Search := none
  coldHeld : Option Search := none
  aidedReq : List (Nat × Nat) := []
  hdr      : EpochHdr := {}
  /-- The 64 channel records of 8 words (R145). -/
  recs     : List (List Word) := List.replicate 64 (List.replicate 8 0)
  sol      : NavSol := {}
  ephs     : List Ephemeris := []
  parts    : List EphParts := []
  almanac  : List (Nat × List Word) := []
  week     : Option Nat := none
  utcA0    : Word := 0
  utcA1    : Word := 0
  station  : Nat := 0
  stationPos : Option (Nat × Int × Int × Int) := none
  obs      : Option ObsAt := none
  held     : Option ObsAt := none
  obsAged  : Bool := false
  errCnt   : Nat := 0
  ignCnt   : Nat := 0
  errLog   : List Nat := []
  last1004 : Option Nat := none
  /-- Epochs whose solutions are due, oldest first. -/
  epochs   : List EpochMark := []
  deriving DecidableEq, Repr

/-- A record of the filter output window (R199). -/
structure DfcOut where
  value     : Int := 0
  valid     : Bool := false
  unsettled : Bool := false
  fading    : Bool := false
  stuck     : Bool := false
  sat       : Bool := false
  step      : Bool := false
  bank      : Nat := 0
  settleLeft : Nat := 0
  delay     : Nat := 0
  deriving DecidableEq, Repr

/-- A filter channel (R173 to R194). -/
structure DfcCh where
  /-- Integrators and combs of the third-order CIC decimator, and its count of 64 (R174). -/
  int1 : Int := 0
  int2 : Int := 0
  int3 : Int := 0
  comb1 : Int := 0
  comb2 : Int := 0
  comb3 : Int := 0
  phase : Nat := 0
  /-- The grid restarts with a point on the next tick edge (R186). -/
  gridWait : Bool := false
  gridAt   : Option Nat := none
  /-- Sinc samples in Q1.23, newest first, at most 1,536 (R177). -/
  hist : List Int := []
  /-- Instant of the newest sinc sample, on the time since reset release, ns. -/
  newest : Int := 0
  lastBit : Bool := false
  bitRun : Nat := 0
  /-- A stuck run has been seen since the last tick edge. -/
  runInTick : Bool := false
  stuck : Bool := false
  stuckTicks : Nat := 0
  cleanTicks : Nat := 0
  bank : Nat := 0
  target : Nat := 0
  fadeLen : Nat := 0
  fadeI : Nat := 0
  fading : Bool := false
  queued : Option SwapReq := none
  settle : Nat := 0
  step : Bool := false
  resetPending : Bool := false
  reqs : List SwapReq := []
  satCnt : Nat := 0
  stepMark : Option Nat := none
  satMark : Option Nat := none
  satLog : List Nat := []
  deriving DecidableEq, Repr

/-- DFC block (R168 to R199). -/
structure Dfc where
  chEn      : BitVec 32 := 0
  sdClkRun  : BitVec 4 := 0
  chs       : List DfcCh := List.replicate 32 {}
  /-- Outputs of the round in progress, placed in the window at its end (R181). -/
  next      : Option (Nat × List DfcOut) := none
  roundTick : Nat := 0
  roundEnd  : Nat := 0
  win       : List DfcOut := List.replicate 32 {}
  /-- The window latched in P0 with its round (R181). -/
  latTick   : Nat := 0
  lat       : List DfcOut := List.replicate 32 {}
  deriving DecidableEq, Repr

/-- The state of a stream context (R200 to R218, R243). -/
structure Ctx where
  /-- LAT_EST in ns; the register shows µs. -/
  latNs     : Nat := 0
  latAlarm  : Bool := false
  mask      : BitVec 5 := 0
  /-- Instant from which the samples good for each cause have run without a break (R216). -/
  holdSince : List (Option Nat) := List.replicate 5 none
  invalidRun : Nat := 0
  /-- The last sample carried a bad quality from its source. -/
  badLast   : Bool := false
  clockOdd  : Bool := false
  conf      : Nat := 0
  confFrac  : Nat := 0
  lastTick  : Nat := 0
  lastUp    : Option Nat := none
  samples   : Nat := 0
  unmatched : Nat := 0
  duplicate : Nat := 0
  rejectMark : Option Nat := none
  /-- Fates of the last 10 accepted samples, newest first; true: discarded as late (R258). -/
  fates     : List Bool := []
  /-- The latest projected sample: its instant, its values, and whether it was masked. -/
  meas      : Option (Int × List Int × Bool) := none
  lateMark  : Option Nat := none
  lateLog   : List Nat := []
  /-- Samples placed at their instants, newest instant first. -/
  buf       : List Sample := []
  deriving DecidableEq, Repr

/-- The state of an alignment group (R219 to R230). -/
structure Group where
  pending   : List GroupInstant := []
  /-- Miss ticks, the last 10 ticks, newest first (R224, R225). -/
  misses    : List Bool := List.replicate 10 false
  missNow   : Bool := false
  triggered : Bool := false
  /-- The path in effect since the group's last instant: true while it is the triggered one (R230). -/
  path      : Bool := false
  trigSince : Nat := 0
  lagMs     : Nat := 0
  overflow  : Nat := 0
  toMark    : Option Nat := none
  deriving DecidableEq, Repr

/-- STR block (R200 to R243). -/
structure Str where
  ctxs    : List Ctx := List.replicate 256 {}
  groups  : List Group := List.replicate 32 {}
  /-- Samples collected since the last P0 (R21). -/
  inbox   : List RawSample := []
  uartAcc : List Nat := List.replicate 12 0
  uartRej : List Nat := List.replicate 12 0
  uartIgn : List Nat := List.replicate 12 0
  /-- Measurements released and waiting for the projector (R235, R238). -/
  wait    : List Meas := []
  /-- Measurements projected for P2. -/
  proj    : List Meas := []
  deferMark : Option Nat := none
  deriving DecidableEq, Repr


/-- A reference of the fusion section as it stands (R263 to R273, R281, R292). -/
structure RefSt where
  suspended : Bool := false
  outlier   : Bool := false
  d         : Nat := 0
  outCnt    : Nat := 0
  /-- The latest sample: its instant, its value (north and east, or heading), and the context it came from. -/
  last      : Option (Int × List Int × Nat) := none
  /-- Anchor of a taut wire, north and east (R281). -/
  anchor    : Option (Int × Int) := none
  deriving DecidableEq, Repr

/-- Arbitration of a quantity (R267 to R276). `state` is the code of R267. -/
structure Arb where
  state    : Nat := 0
  refA     : Nat := 0
  refB     : Nat := 0
  contra   : Nat := 0
  agree    : Nat := 0
  /-- Start of dead reckoning, or of the dispute. -/
  drSince  : Option Nat := none
  /-- TICK_NO of the last outlier mask. -/
  outTick  : Option Nat := none
  conf     : Nat := 0
  deriving DecidableEq, Repr

/-- A track (R278 to R282, R288). `state` is the code of FUS_TRK_STATUS. -/
structure Track where
  state    : Nat := 0
  anchored : Bool := false
  drAnchor : Bool := false
  refNo    : Nat := 0
  conf     : Nat := 0
  /-- Associations of the last 5 scans, newest first. -/
  hits     : List Bool := []
  missRun  : Nat := 0
  target   : Nat := 0
  n        : Int := 0
  e        : Int := 0
  vn       : Int := 0
  ve       : Int := 0
  anchorN  : Int := 0
  anchorE  : Int := 0
  relN     : Int := 0
  relE     : Int := 0
  lived    : Nat := 0
  deriving DecidableEq, Repr

/-- The state record of fusion (R287). -/
structure FusRec where
  tickNo   : Nat := 0
  north    : Int := 0
  east     : Int := 0
  heading  : Int := 0
  surge    : Int := 0
  sway     : Int := 0
  yawRate  : Int := 0
  biasN    : Int := 0
  biasE    : Int := 0
  biasMz   : Int := 0
  waveN    : Int := 0
  waveE    : Int := 0
  waveHdg  : Int := 0
  sigN     : Nat := 0
  sigE     : Nat := 0
  sigHdg   : Nat := 0
  posConf  : Nat := 0
  hdgConf  : Nat := 0
  retro    : Bool := false
  posArb   : Nat := 0
  hdgArb   : Nat := 0
  sat      : Bool := false
  far      : Bool := false
  held     : Bool := false
  retroAge : Nat := 0
  deriving DecidableEq, Repr

/-- FUS block (R244 to R292). -/
structure Fus where
  est       : Est := {}
  /-- Instant the estimate stands at, and the tick of the last state given out. -/
  estUp     : Int := 0
  given     : Option Nat := none
  /-- Snapshots, newest first, at most 128, and the estimate a snapshot of this tick will hold. -/
  snaps     : List Snap := []
  cand      : Option Snap := none
  atts      : List AttPoint := []
  /-- Samples of an abandoned tick (R261). -/
  kept      : List Meas := []
  state     : FusRec := {}
  /-- Filtered mean draught and trim with 32 fraction bits, none before the first fit (R284). -/
  mean      : Option Int := none
  trim      : Int := 0
  massFactor : Int := 0
  slotDraught : List Int := List.replicate 16 0
  draughtHeld : Bool := false
  draughtOut  : Bool := false
  lateDrop  : Nat := 0
  replays   : Nat := 0
  maxDepth  : Nat := 0
  maxSamples : Nat := 0
  refs      : List RefSt := List.replicate 16 {}
  arb       : List Arb := [{}, {}]
  trks      : List Track := List.replicate 64 {}
  /-- The running scan of each reference: its start and its detections. -/
  scans     : List (Option (Nat × List Detection)) := List.replicate 16 none
  fullMark  : List (Option Nat) := List.replicate 16 none
  fullCnt   : List (List Nat) := List.replicate 16 []
  /-- The latest draught and trim values of the contexts, by context. -/
  draughts  : List (Nat × Int) := []
  /-- Achieved force and moment of the previous tick's allocation (R246). -/
  achieved  : List Int := [0, 0, 0]
  deriving DecidableEq, Repr

/-- The demand record (R343). Forces in N and N·m. -/
structure Demand where
  tickNo : Nat := 0
  f      : List Int := [0, 0, 0]
  spN    : Int := 0
  spE    : Int := 0
  spH    : Int := 0
  vN     : Int := 0
  vE     : Int := 0
  rate   : Int := 0
  mode   : Nat := 0
  sat    : BitVec 3 := 0
  freeze : BitVec 3 := 0
  outer  : Bool := false
  blend  : Bool := false
  trackEnd : Bool := false
  xtrack : Int := 0
  deriving DecidableEq, Repr

/-- A blend or ramp (R334): the demand it starts from, its axes, whether it ends at 0, and its ticks. -/
structure BlendRun where
  from_  : List Int
  axes   : BitVec 3
  stop   : Bool
  k      : Nat := 0
  len    : Nat
  deriving DecidableEq, Repr

/-- One axis of the reference model, with 32 fraction bits: target, prefiltered target, set-point, its velocity and acceleration, per s (R314 to R316). -/
structure RmAxis where
  r  : Int := 0
  xf : Int := 0
  x  : Int := 0
  v  : Int := 0
  a  : Int := 0
  deriving DecidableEq, Repr

/-- A fade of the wind feed-forward: when it began, the values it began from, and whether it rises (R312). -/
structure WindFade where
  since : Nat
  from_ : List Int
  rise  : Bool
  deriving DecidableEq, Repr

/-- A joystick axis: its last settled output and when it was had (R318, R319). -/
structure JoyAxis where
  val  : Int := 0
  last : Option Nat := none
  deriving DecidableEq, Repr

/-- PCL block (R293 to R347). -/
structure Pcl where
  mode     : Nat := 0
  rm       : List RmAxis := [{}, {}, {}]
  integ    : List Int := [0, 0, 0]
  err      : List Int := [0, 0, 0]
  kp       : List Nat := [0, 0, 0]
  dLast    : List Int := [0, 0, 0]
  dPrev    : List Int := [0, 0, 0]
  /-- TICK_EXT of the latest outer loop. -/
  lastOuter : Nat := 0
  outerDue : Bool := false
  /-- The demand of this P3 waits for its outer loop. -/
  outerWait : Bool := false
  /-- A mode was entered since the last outer loop, and what its rule does to each integral: 0 update, 1 unchanged, 2 back-calculation, 3 from the bias (R332). -/
  entered  : Bool := false
  preset   : List Nat := [0, 0, 0]
  /-- Axes with slack reported since the previous outer tick, and whether the fallback was in use (R306). -/
  slackSeen : BitVec 3 := 0
  fbSeen   : Bool := false
  /-- PCL_GAIN_SCALE in force, and as it reads: a write takes effect at the next outer tick (R304). -/
  gainReg  : Word := 0x00404040
  freeze   : BitVec 3 := 0
  sat      : BitVec 3 := 0
  outerSat : BitVec 3 := 0
  /-- Filtered relative wind, ahead and to starboard, mm/s with 32 fraction bits; none before the first sample. -/
  wind     : Option (Int × Int) := none
  windOn   : Bool := false
  w        : List Int := [0, 0, 0]
  windFade : Option WindFade := none
  joy      : List JoyAxis := [{}, {}, {}]
  joyValid : Bool := false
  joyCentred : Bool := false
  joyLost  : BitVec 3 := 0
  hwLast   : Option Int := none
  /-- The track in use, its index, the current waypoint, the waypoint before it, and since when both conditions of R325 hold. -/
  track    : List Waypoint := []
  trackNo  : Nat := 0
  wp       : Nat := 0
  prevWp   : Int × Int := (0, 0)
  atWp     : Option Nat := none
  trackEnd : Bool := false
  /-- The track loaded by a station command (R324). -/
  loaded   : Option (List Waypoint) := none
  target   : Nat := 0
  offN     : Int := 0
  offE     : Int := 0
  blend    : Option BlendRun := none
  dem      : Demand := {}
  exc      : Nat := 0
  degraded : Bool := false
  degMark  : Option Nat := none
  /-- P3 windows missed since the last one (R342). -/
  missed   : Nat := 0
  deriving DecidableEq, Repr

/-- A structure slot of the Reckoner (R363): 0 FREE, 1 LOADING, 2 READY, 3 ACTIVE. -/
structure AlsSlot where
  state : Nat := 0
  num   : Nat := 0
  used  : Nat := 0
  deriving DecidableEq, Repr

/-- The allocation record (R390) with the fields of ALS_STATUS. -/
structure AlsRec where
  tickNo  : Nat := 0
  source  : Nat := 3
  outcome : Nat := 4
  cold    : Bool := false
  ovf     : Bool := false
  clamped : Bool := false
  slackBits : BitVec 3 := 0
  struct_ : Nat := 0
  iter    : Nat := 0
  yield   : Bool := false
  ach     : List Int := [0, 0, 0]
  slack   : List Int := [0, 0, 0]
  thrust  : List Int := List.replicate 16 0
  az      : List Int := List.replicate 16 0
  deriving DecidableEq, Repr

/-- A load of a structure in progress (R365): slot, structure, start. -/
structure AlsLoad where
  slot  : Nat
  num   : Nat
  since : Nat
  deriving DecidableEq, Repr

/-- The problem AP2 forms in P3 (R351 to R361): structure and slots, the rows, the demand, and the references of each slot. -/
structure AlsProblem where
  num    : Nat := 0
  mask   : BitVec 16 := 0
  exact  : Bool := true
  rows   : List AlsRow := []
  tau    : List Int := [0, 0, 0]
  t0     : List Int := List.replicate 16 0
  phi0   : List Int := List.replicate 16 0
  left   : List Int := List.replicate 16 0
  right  : List Int := List.replicate 16 0
  upper  : List Int := List.replicate 16 0
  lower  : List Int := List.replicate 16 0
  tmax   : List Nat := List.replicate 16 0
  tmaxRev : List Nat := List.replicate 16 0
  yield  : Bool := false
  deriving DecidableEq, Repr

/-- The snapshot of a consequence round (R392). -/
structure CaSnap where
  num   : Nat := 0
  mask  : BitVec 16 := 0
  tau   : List Int := [0, 0, 0]
  tmax  : List Nat := []
  tmaxRev : List Nat := []
  az    : List Int := []
  pwr   : List Nat := []
  edgeNs : Nat := 0
  deriving DecidableEq, Repr

/-- The result of a group (R396, R397, ALS_CA_RESULT, ALS_CA_FLAGS). -/
structure CaResult where
  m     : List Nat := [0, 0, 0]
  util  : Nat := 0
  slack : BitVec 3 := 0
  state : Nat := 3
  alarm : Bool := false
  warn  : Bool := false
  round : Nat := 0
  deriving DecidableEq, Repr

/-- ALS block (R348 to R406). -/
structure Als where
  fallback : Bool := false
  fbSince  : Nat := 0
  slots    : List AlsSlot := List.replicate 8 {}
  loading  : Option AlsLoad := none
  loadReq  : Option Nat := none
  prob     : AlsProblem := {}
  /-- The structure P3 selected differs from the one in use; exchanged at 420 µs (R366). -/
  switch_  : Option Nat := none
  delta    : Nat := 0
  applied  : Nat := 0
  resident : List (Nat × Int) := []
  /-- A delta list waits for 420 µs: what the Reckoner will hold after it. -/
  next     : List (Nat × Int) := []
  carried  : List Nat := []
  needCold : Bool := true
  solving  : Bool := false
  /-- The Reckoner is requested for the main solve, until P4 ends (R49, R50). -/
  reckonerHeld : Bool := false
  /-- The result of a main solve made while the fallback is in use (R388). -/
  held     : Option AlsRec := none
  record   : AlsRec := {}
  missRun  : Nat := 0
  goodRun  : Nat := 0
  endNs    : Nat := 0
  coldNs   : Nat := 0
  endMax   : Nat := 0
  missIter : Nat := 0
  missDead : Nat := 0
  coldCnt  : Nat := 0
  depCnt   : Nat := 0
  ovfCnt   : Nat := 0
  lagging  : BitVec 16 := 0
  disabled : BitVec 16 := 0
  yieldMark : List (Option Nat) := List.replicate 16 none
  depMark  : Option Nat := none
  depLog   : List Nat := []
  ovfMark  : Option Nat := none
  coldMark : Option Nat := none
  clampMark : Option Nat := none
  /-- Last good power of each board and when it was last good, and whether PWR_HOLD has passed (R359). -/
  pwrGood  : List (Option (Nat × Nat)) := List.replicate 8 none
  pwrOut   : BitVec 8 := 0
  caRound  : Nat := 0
  caCase   : Nat := 0
  caRun    : Bool := false
  caStale  : Bool := false
  caLate   : Bool := false
  /-- A new round follows the case in progress: 0 no, 1 stale, 2 by command (R401). -/
  caAgain  : Nat := 0
  /-- The next round is due and waits for the end of this one (R400). -/
  caDue    : Bool := false
  /-- The structure has changed since the round's snapshot. -/
  caOld    : Bool := false
  /-- A round began at this edge and its cases are formed after P4 (R392). -/
  caForm   : Bool := false
  caSnap   : CaSnap := {}
  caRes    : List CaResult := List.replicate 32 {}
  deriving DecidableEq, Repr

/-- A capture copied by an encoder channel (R427). -/
structure EncCapture where
  count : Word
  speed : Int
  edge  : Word
  stamp : Word
  deriving DecidableEq, Repr

/-- A latch of an encoder channel (R425): COUNT, SPEED, the instant of the last edge on the time since reset release and as a short stamp, and the status word. -/
structure EncLatch where
  count  : Word := 0
  speed  : Int := 0
  edgeUp : Option Nat := none
  edgeNs : Word := 0
  status : Word := 0
  deriving DecidableEq, Repr

/-- An encoder channel (R407 to R428). -/
structure EncCh where
  a        : Bool := false
  b        : Bool := false
  count    : Word := 0
  dir      : Bool := false
  speed    : Int := 0
  standstill : Bool := false
  starting : Bool := false
  indexed  : Bool := false
  fault    : Bool := false
  overspeed : Bool := false
  spdSat   : Bool := false
  presetDone : Bool := false
  lastClass : Nat := 0
  /-- Direction and instant of the last counted edge. -/
  lastDir  : Bool := false
  lastUp   : Option Nat := none
  /-- RUN edges that count for SPEED, and the edge that opens the first of their intervals (R417). -/
  runV     : Nat := 0
  openUp   : Nat := 0
  edgeSeen : Bool := false
  indexPos : Word := 0
  qerr     : Nat := 0
  capLost  : Nat := 0
  qerrMark : Option Nat := none
  qerrLog  : List Nat := []
  capMark  : Option Nat := none
  capLog   : List Nat := []
  caps     : List EncCapture := []
  preset   : Option Word := none
  ssiBusy  : Option Nat := none
  ssiWord  : Option Nat := none
  ssiErrRun : Nat := 0
  ssiGoodRun : Nat := 0
  ssiOpp   : Nat := 0
  ssiMark  : Option Nat := none
  ssiLog   : List Nat := []
  deriving DecidableEq, Repr

/-- A pulse-division pair (R429 to R432). -/
structure Pdiv where
  acc   : Int := 0
  owed  : Int := 0
  phase : Nat := 0
  lost  : Nat := 0
  lastUp : Option Nat := none
  lostMark : Option Nat := none
  /-- Steps lost: instants and numbers. -/
  lostLog : List (Nat × Nat) := []
  /-- State latched at the tick edge: accumulator, owed steps, phase; and the counts of the source since. -/
  latAcc : Int := 0
  latOwed : Int := 0
  latPhase : Nat := 0
  since : Int := 0
  /-- The latch of the edge before it, and the counts between the two. -/
  oldAcc : Int := 0
  oldOwed : Int := 0
  oldPhase : Nat := 0
  oldSince : Int := 0
  deriving DecidableEq, Repr

/-- A servo axis (R433 to R443). The integral and, on a thrust axis, the rate-limited set-point have 16 fraction bits. -/
structure SrvAxis where
  enabled : Bool := false
  fbLost  : Bool := false
  sat     : Bool := false
  follow  : Bool := false
  longWay : Bool := false
  sp      : Int := 0
  fb      : Int := 0
  out     : Int := 0
  integ   : Int := 0
  limited : Int := 0
  err     : Int := 0
  aboveSince : Option Nat := none
  satMark : Option Nat := none
  deriving DecidableEq, Repr

/-- A PWM output (R445): the newest high time and the one in use, ns. -/
structure Pwm where
  next : Nat := 0
  cur  : Nat := 0
  deriving DecidableEq, Repr

/-- SRV, ENC and PDIV (R407 to R451). -/
structure Srv where
  encs  : List EncCh := List.replicate 16 {}
  lat   : List EncLatch := List.replicate 16 {}
  latTick : Nat := 0
  win   : List EncLatch := List.replicate 16 {}
  winTick : Nat := 0
  pdivs : List Pdiv := List.replicate 4 {}
  axes  : List SrvAxis := List.replicate 32 {}
  pwms  : List Pwm := List.replicate 16 {}
  engineOk : BitVec 4 := 0
  /-- Azimuths of the allocation record P5 took in the tick before (R438). -/
  prevAz : List Int := List.replicate 16 0
  /-- First write of ENC_PRESET, by access path (R414). -/
  presetVal : List (Path × Word) := []
  deriving DecidableEq, Repr

/-- A transmit frame of a controller (R466 to R471): its entry, its home buffer and controller, the frame, the tick at which its TTL runs out, its counts, whether it is cancelled once it ends, and the frame in its staging with its own expiry. -/
structure CanTx where
  entry   : Nat
  buf     : Nat
  home    : Nat
  frame   : CanFrame
  expire  : Nat
  arbLost : Nat := 0
  errs    : Nat := 0
  cancel  : Bool := false
  staged  : Option (CanFrame × Nat) := none
  deriving DecidableEq, Repr

/-- A receive buffer (R482 to R485), or the status of a transmit buffer. -/
structure MBuf where
  frame   : Option (CanFrame × Word) := none
  unread  : Bool := false
  lock    : Option (Path × Nat) := none
  shadow  : Option (CanFrame × Word) := none
  overrun : Bool := false
  outcome : Nat := 0
  arbLost : Nat := 0
  errs    : Nat := 0
  mapSat  : Bool := false
  deriving DecidableEq, Repr

/-- A CAN FD controller (R452 to R501). Modes and error states as in MBC_STATUS and MBC_ERR_STATE. -/
structure Mbc where
  mode     : Nat := 0
  tec      : Nat := 0
  rec_     : Nat := 0
  errState : Nat := 0
  busOffUp : Nat := 0
  recovering : Option Nat := none
  goodSince : Option Nat := none
  failedOver : Option Nat := none
  /-- The entry whose frame has won arbitration, as last known. -/
  wire     : Option Nat := none
  txq      : List CanTx := []
  bufs     : List MBuf := List.replicate 64 {}
  fifo     : List (CanFrame × Word) := []
  fifoLock : Option (Path × Nat) := none
  fifoDropped : Nat := 0
  queued   : Nat := 0
  /-- Frames moved here that count as queued from the next tick edge (R496). -/
  freshIn  : Nat := 0
  sent     : Nat := 0
  cancelled : Nat := 0
  expired  : Nat := 0
  moved    : Nat := 0
  accepted : Nat := 0
  read     : Nat := 0
  overwritten : Nat := 0
  ignored  : Nat := 0
  seqSkips : Nat := 0
  errBit   : Nat := 0
  errStuff : Nat := 0
  errCrc   : Nat := 0
  errForm  : Nat := 0
  wake     : Nat := 0
  expMark  : Mark := {}
  ovrMark  : Mark := {}
  fifoMark : Mark := {}
  foreignMark : Option Nat := none
  deriving DecidableEq, Repr

/-- What the controllers share: the frame counter and its latches (R489, R490), the SEQ counts of the drive maps (R463), the SEQ values last taken (R487). -/
structure Bus where
  /-- Time the BUS domain was lost, ns, and since when it is lost. -/
  stopped : Nat := 0
  lostAt  : Option Nat := none
  latTick : Nat := 0
  latCnt  : Word := 0
  latA    : Nat := 0
  latUp   : Nat := 0
  /-- The latch before it: counter and instant. -/
  prevCnt : Word := 0
  prevUp  : Nat := 0
  /-- The latch frozen by a read of MBC_TSYNC_TICK, by path and controller: counter and instant of system time. -/
  frozen  : List ((Path × Nat) × (Word × Nat)) := []
  seqs    : List (Nat × Nat) := []
  /-- The last frame encoded for each entry (R43). -/
  last    : List (Nat × CanFrame) := []
  seqIn   : List (Nat × Nat) := []
  satMarks : List (Nat × Nat) := []
  deriving DecidableEq, Repr

/-- A session (R520 to R524). -/
structure Session where
  number  : Nat
  source  : Nat
  node    : Bool
  rights  : BitVec 4
  onActive : Bool
  h       : Nat := 0
  map     : BitVec 64 := 0
  txSeq   : Nat := 0
  lastUp  : Nat := 0
  subs    : BitVec 2048 := 0
  full    : BitVec 2048 := 0
  deriving DecidableEq, Repr

/-- A source in the duplicate table of PRP (R512): its recent sequence numbers with their instants. -/
structure PrpSource where
  mac  : BitVec 48
  seqs : List (Nat × Nat) := []
  used : Nat := 0
  deriving DecidableEq, Repr

/-- Counts of a LAN (NET_PRP_CNT). -/
structure LanCnt where
  received  : Nat := 0
  duplicate : Nat := 0
  wrong     : Nat := 0
  deriving DecidableEq, Repr

/-- NET block (R502 to R533). -/
structure Net where
  link    : BitVec 4 := 0
  heard   : List (Option Nat) := List.replicate 4 none
  lanOk   : BitVec 4 := 0
  ingress : List (List NetFrame) := List.replicate 4 []
  dp      : List DpFrame := []
  turn    : Nat := 0
  held    : List HeldFrame := []
  drops   : List (List Nat) := List.replicate 5 [0, 0, 0, 0]
  dropMarks : List (Nat × Mark) := []
  addrs   : List (BitVec 48 × Nat × Nat) := []
  prpSeq  : List Nat := [0, 0]
  prpTab  : List PrpSource := []
  lans    : List LanCnt := List.replicate 4 {}
  supUp   : Nat := 0
  auth    : List Nat := List.replicate 7 0
  authMarks : List (Word × Mark) := []
  sessions : List Session := []
  rates   : List (Nat × List Nat) := []
  activeIp : Bool := false
  /-- Commands collected in the present window, those due in the next P3, and replies owed in P6 (R526, R779). -/
  cmdsIn  : List CmdEntry := []
  cmdsDue : List CmdEntry := []
  owed    : List (Nat × Reply) := []
  deriving DecidableEq, Repr

/-- A point that differs from its start record (R534), with the tick its freshness timer started from. -/
structure PointSt where
  record : PointRec
  fresh  : Nat
  deriving DecidableEq, Repr

/-- A node as heard (R532). -/
structure NodeSt where
  last  : Option Nat := none
  lost  : Bool := false
  cycle : Nat := 0
  sentUp : Nat := 0
  deriving DecidableEq, Repr

/-- PIM block (R534 to R550). -/
structure Pim where
  /-- Points written, by rising number. -/
  pts     : List (Nat × PointSt) := []
  /-- TICK_EXT at READY, from which the freshness timers run (R537). -/
  readyTick : Nat := 0
  /-- Changed points of each rod. -/
  marks   : List (Nat × BitVec 64) := []
  /-- Rods whose refresh is still to be sent (R543, R546). -/
  refresh : List Nat := []
  nextRod : Nat := 0
  deferred : Bool := false
  lastRecords : Nat := 0
  pubCnt  : Nat := 0
  rejWriter : Nat := 0
  rejStandby : Nat := 0
  writerMark : Option Nat := none
  staleMarks : List (Nat × Mark) := []
  deferMark : Option Nat := none
  page    : List (Path × Nat) := []
  frozen  : List (Path × Nat × PointRec × Nat) := []
  /-- External writes waiting, and those accepted in the present tick (R564, R779). -/
  wait    : List ExtWrite := []
  accepted : List (Nat × PointRec) := []
  nodes   : List NodeSt := List.replicate 64 {}
  deriving DecidableEq, Repr

/-- The INPUTS section (R559): the samples collected in P0, the encoder latches, the filter window, the GNSS window on an epoch and the EVT_IN captures. Instants are on the receiver's time since reset release; the sender gives its own. -/
structure CarryInputs where
  samples : List RawSample := []
  encTick : Nat := 0
  encs    : List EncLatch := []
  dfcTick : Nat := 0
  dfc     : List DfcOut := []
  gnss    : Option (EpochHdr × List (List Word)) := none
  evts    : List (Nat × EvtCapture) := []
  /-- Contexts whose source is lost. -/
  lost    : List Nat := []
  deriving DecidableEq, Repr

/-- The RESULTS section (R559). Tick numbers and instants of a unit's own clock stand at 0 in it. -/
structure CarryResults where
  health   : Word := 0
  fus      : FusRec := {}
  est      : Est := {}
  mean     : Option Int := none
  trim     : Int := 0
  massFactor : Int := 0
  slotDraught : List Int := []
  refs     : List RefSt := []
  arb      : List Arb := []
  trks     : List Track := []
  pcl      : Pcl := {}
  als      : AlsRec := {}
  carried  : List Nat := []
  missRun  : Nat := 0
  goodRun  : Nat := 0
  fallback : Bool := false
  axes     : List SrvAxis := []
  pdivs    : List (Int × Int × Nat) := []
  seqs     : List (Nat × Nat) := []
  caRound  : Nat := 0
  caCase   : Nat := 0
  caRun    : Bool := false
  deriving DecidableEq, Repr

/-- A state block of the RESYNC sections (R591, R592): the point image, the replay history, the stream contexts, the tracks, the structure slots. -/
inductive ResyncBlock where
  | points (pts : List (Nat × PointSt))
  | history (snaps : List Snap) (atts : List AttPoint) (est : Est) (estUp : Int)
  | contexts (ctxs : List Ctx) (groups : List Group)
  | tracks (trks : List Track) (refs : List RefSt) (scans : List (Option (Nat × List Detection)))
  | slots (slots : List AlsSlot) (resident : List (Nat × Int))
  deriving DecidableEq, Repr

/-- A section of a Carry frame (R559). -/
inductive CarrySection where
  | inputs (v : CarryInputs)
  | commands (l : List CmdEntry)
  | points (l : List (Nat × PointRec))
  | sessions (l : List Session)
  | results (r : CarryResults)
  | resync (b : ResyncBlock)
  deriving DecidableEq, Repr

/-- A Carry frame as it arrives: its header, the own TICK_EXT when it began, its sections, the links whose copy has broken off, and whether its points and sessions have been taken. -/
structure CarryRx where
  hdr      : CarryHdr
  ownTick  : Nat
  inputs   : Option CarryInputs := none
  commands : Option (List CmdEntry) := none
  points   : Option (List (Nat × PointRec)) := none
  sessions : Option (List Session) := none
  results  : Option CarryResults := none
  resync   : Option ResyncBlock := none
  broken   : BitVec 2 := 0
  taken    : Bool := false
  due      : Bool := false
  deriving DecidableEq, Repr

/-- TWN block (R551 to R606). -/
structure Twn where
  epoch       : Word := 0
  peers       : List Peer := List.replicate 3 {}
  /-- ROLE of the active unit; 3 for none known. -/
  activeRole  : Nat := 3
  dupUp       : Option Nat := none
  synced      : Bool := false
  shadowFault : Bool := false
  yielded     : Bool := false
  /-- A command frame of another role has been seen since the last window, and the ticks without any sign (R581). -/
  busSeen     : Bool := false
  quietTicks  : Nat := 0
  holdReturn  : Bool := false
  handover    : Option HandoverPlan := none
  /-- A request for a planned handover that waits for its acceptance (R593). -/
  request     : Option HandoverCause := none
  /-- TICK_EXT of the entry by cause 0 while PROBATION runs (R579). -/
  probation   : Option Nat := none
  join        : JoinStep := .none
  joinUp      : Nat := 0
  matchRun    : Nat := 0
  blocksHeld  : BitVec 5 := 0
  /-- SEQ of the tick (R560). -/
  seq         : Word := 0
  carryTx     : Word := 0
  carryRx     : Word := 0
  lostCnt     : Nat := 0
  incomplete  : Nat := 0
  relayed     : Nat := 0
  comparedRc  : Nat := 0
  mismatchRc  : Nat := 0
  shadowMatch : Bool := false
  mismatch    : Bool := false
  /-- CRC of the shadow RESULTS last computed; on the active unit of the RESULTS of its last two ticks, newest first (R588). -/
  shadowCrc   : Word := 0
  ownCrc      : List Word := [0, 0]
  /-- Comparisons made, their counts at the mismatches of the last 1,000, and the instants of the mismatches of the last 3,600 s. -/
  compared    : Nat := 0
  recentMis   : List Nat := []
  hourMis     : List Nat := []
  cleanRun    : Nat := 0
  sinceCmp    : Nat := 0
  links       : List CarryLink := List.replicate 2 {}
  /-- Instant from which RETURN_DELAY counts without a break (R597). -/
  returnFrom  : Option Nat := none
  /-- Instant from which ROLE_XCHG_PERIOD counts (R593). -/
  xchgUp      : Nat := 0
  entry       : Option EntryPlan := none
  sighting    : Option Sighting := none
  /-- A sighting of the tick before, to be acted on at this edge (R580). -/
  sightDue    : Option Sighting := none
  layup       : Option Nat := none
  /-- HB_WINDOW of this tick has closed, and CARRY_DUE has passed. -/
  windowDone  : Bool := false
  dueDone     : Bool := false
  /-- Instants of the last records of TWN_PEER_REFUSED, by role and cause. -/
  refusedAt   : List ((Nat × Nat) × Nat) := []
  deferMark   : Mark := {}
  /-- Carry frames arriving or held, newest first, at most two. -/
  rx          : List CarryRx := []
  /-- The shadow runs in this tick, on this frame (R583). -/
  shadow      : Option CarryRx := none
  /-- TICK_EXT of the last tick shadowed or adopted, none before the first. -/
  shadowed    : Option Nat := none
  /-- A tick was not compared: the next RESULTS are adopted (R586). -/
  needAdopt   : Bool := false
  /-- The stream contexts as the standby's own input side holds them, with the samples collected since the shadow (R584). -/
  ownCtxs     : List Ctx := []
  /-- The INPUTS of the present tick on the active unit. -/
  p0          : CarryInputs := {}
  /-- The next state block of the rotation (R592). -/
  resyncNext  : Nat := 0
  deriving DecidableEq, Repr

/-- What leaves the part in a command: frames, pulses and pin levels. -/
inductive Emit where
  /-- A PTP message: kind, domain (0 A, 1 B, otherwise another domain's), port, sequence number, the timestamp it carries and its correctionField in 2^-16 ns. -/
  | ptp (kind : PtpKind) (dom port seq : Nat) (stamp : Nat) (corr : Int)
  /-- An Announce of a grandmaster domain with its data set (R79). -/
  | announce (dom port : Nat) (ann : Announce)
  /-- A pulse on TP_OUT[n]: width in µs and level (R108, R109). -/
  | timePulse (n widthUs : Nat) (high : Bool)
  /-- A heartbeat on every path in use (R568). -/
  | heartbeat (hb : Heartbeat)
  /-- A pulse on SYNC_OUT[k] (R227). -/
  | syncPulse (k widthUs : Nat) (high : Bool)
  /-- A reply to a station, by session, with its SEQ (R525). -/
  | reply (session seq : Nat) (r : Reply)
  /-- Rod blocks to a subscriber (R541). -/
  | pointUpdate (session seq : Nat) (blocks : List RodBlock)
  /-- An OUTPUTS frame to a node: cycle and entries (R530). -/
  | ioOutputs (node cycle : Nat) (entries : List (Nat × Word × Nat))
  /-- An ARP answer or a gratuitous ARP (R515, R516), and an ICMP echo reply. -/
  | arp (gratuitous : Bool) (ip : Word) (mac : BitVec 48) (ports : BitVec 4)
  | icmpEcho (id seq : Nat)
  /-- A PRP supervision frame on a LAN (R513). -/
  | prpSupervision (lan : Nat)
  /-- A frame leaves a port: its length, and the short stamp of its first bit after the start frame delimiter (R506, R518). -/
  | portFrame (port bytes : Nat) (departure : Word)
  /-- A CAN frame sent by a controller (R469). -/
  | canFrame (n : Nat) (f : CanFrame)
  /-- One step of a pulse-division pair: phase after it (R431). -/
  | pdivStep (p phase : Nat)
  /-- A PWM period: its high time and its length, ns (R445). -/
  | pwmPeriod (k highNs periodNs : Nat)
  /-- The clock burst of an SSI frame (R420). -/
  | ssiFrame (n : Nat)
  /-- The Carry frame of a tick, on the links of the mask (R558). -/
  | carry (links : BitVec 2) (hdr : CarryHdr) (sections : List CarrySection)
  /-- What MSPI_MISO returns in a frame of so many bits: RESULT, ADDR, data and CRC of the frame before (R757). -/
  | mspiReply (bits result addr : Nat) (data : Word) (crc : Nat)
  /-- A section forwarded on a link, with RELAYED set (R563). -/
  | carryRelay (link : Nat) (hdr : CarryHdr) (sec : CarrySection)
  deriving DecidableEq, Repr

end Sys2Proof.Machine
end

