-- ==== Sys2Proof/Syntax.lean ====
section
/-! DEFINITION. The commands of the LN9616: one constructor of `Instr` per row of the table of operations and events. -/

namespace Sys2Proof

open Sys2Proof.Machine

-- INSTR BEGIN
/-- The commands, one constructor for each row of the table; `t` is the instant of the command in ns after the last tick edge, or after reset release before the first edge. -/
inductive Instr where
  /-- RESET_RELEASE (R743). -/
  | resetRelease (t : Nat) (v : StartIn)
  /-- RST_N_PULSE (R743). -/
  | rstNPulse (t : Nat) (lowNs : Nat)
  /-- LOSS_OF_POWER (R51). -/
  | lossOfPower (t : Nat) (reached : List Bool)
  /-- DISCOVERY_END (R571). -/
  | discoveryEnd (t : Nat) (v : S10In)
  /-- MASTER_WAIT_EXPIRY (R99). -/
  | masterWaitExpiry (t : Nat) (v : S10In)
  /-- START_WATCHDOG_EXPIRY (R704). -/
  | startWatchdogExpiry (t : Nat)
  /-- DIRECTORY_REWRITE (R715). -/
  | directoryRewrite (t : Nat)
  /-- TICK_EDGE (R33). -/
  | tickEdge (t : Nat) (drift : Int)
  /-- PHASE_OPEN (R37). -/
  | phaseOpen (t : Nat) (p : Nat) (stalled : BitVec 15) (onWire : BitVec 8)
  /-- PHASE_CLOSE (R38). -/
  | phaseClose (t : Nat) (p : Nat)
  /-- DEADLINE_MISS (R39). -/
  | deadlineMiss (t : Nat) (p : Nat)
  /-- TKS_FAILED (R47). -/
  | tksFailed (t : Nat)
  /-- LEVEL_EVALUATION (R56). -/
  | levelEvaluation (t : Nat)
  /-- RECKONER_REQUEST (R49). -/
  | reckonerRequest (t : Nat)
  /-- SCRUB_READ (R27). -/
  | scrubRead (t : Nat) (found : EccFound)
  /-- LOCKSTEP_DISAGREEMENT (R23). -/
  | lockstepDisagreement (t : Nat) (pair : Nat) (pc : Word)
  /-- CLK_MONITOR_GATE (R620). -/
  | clkMonitorGate (t : Nat) (d : Nat) (hz : Nat)
  /-- CLK_PLL_UNLOCK (R624). -/
  | clkPllUnlock (t : Nat) (d : Nat)
  /-- PTP_SYNC_RECEIVED (R72). -/
  | ptpSyncReceived (t : Nat) (d port : Nat) (src : PortIdentity) (seq origin : Nat) (corr : Int) (twoStep : Bool)
  /-- PTP_FOLLOW_UP_RECEIVED (R72). -/
  | ptpFollowUpReceived (t : Nat) (d port : Nat) (src : PortIdentity) (seq origin : Nat) (corr : Int)
  /-- PTP_DELAY_REQ_RECEIVED (R72). -/
  | ptpDelayReqReceived (t : Nat) (d port seq : Nat) (corr : Int)
  /-- PTP_DELAY_RESP_RECEIVED (R72). -/
  | ptpDelayRespReceived (t : Nat) (d port : Nat) (req : PortIdentity) (seq t4 : Nat) (corr : Int)
  /-- PTP_PDELAY_REQ_RECEIVED (R72). -/
  | ptpPdelayReqReceived (t : Nat) (d port seq turnNs : Nat) (corr : Int)
  /-- PTP_PDELAY_RESP_RECEIVED (R72). -/
  | ptpPdelayRespReceived (t : Nat) (d port : Nat) (req : PortIdentity) (seq t2 : Nat) (corr : Int) (twoStep : Bool)
  /-- PTP_PDELAY_RESP_FOLLOW_UP_RECEIVED (R72). -/
  | ptpPdelayRespFollowUpReceived (t : Nat) (port : Nat) (req : PortIdentity) (seq t3 : Nat) (corr : Int)
  /-- PTP_ANNOUNCE_RECEIVED (R72). -/
  | ptpAnnounceReceived (t : Nat) (d port : Nat) (a : Announce)
  /-- PTP_OTHER_MESSAGE (R72). -/
  | ptpOtherMessage (t : Nat)
  /-- PTP_SYNC_SEND (R73). -/
  | ptpSyncSend (t : Nat) (d : Nat)
  /-- PTP_ANNOUNCE_SEND (R79). -/
  | ptpAnnounceSend (t : Nat) (d : Nat)
  /-- PTP_DELAY_REQ_SEND (R72). -/
  | ptpDelayReqSend (t : Nat) (d port : Nat)
  /-- ANNOUNCE_TIMEOUT (R83). -/
  | announceTimeout (t : Nat) (d : Nat)
  /-- SYNC_TIMEOUT (R83). -/
  | syncTimeout (t : Nat) (d : Nat)
  /-- SOURCE_RETURN (R100). -/
  | sourceReturn (t : Nat) (d : Nat)
  /-- DOMAIN_LOCK (R82). -/
  | domainLock (t : Nat) (d : Nat)
  /-- TIME_STEP (R102). -/
  | timeStep (t : Nat) (which : Nat)
  /-- SLEW_DONE (R101). -/
  | slewDone (t : Nat) (which : Nat)
  /-- HOLDOVER_LIMIT (R95). -/
  | holdoverLimit (t : Nat) (d : Nat)
  /-- TICK_SOURCE_CHANGE (R91). -/
  | tickSourceChange (t : Nat)
  /-- TIME_SAVE (R98). -/
  | timeSave (t : Nat)
  /-- TIME_PULSE (R108). -/
  | timePulse (t : Nat)
  /-- TP1_PULSE (R109). -/
  | tp1Pulse (t : Nat)
  /-- UTC_LEAP_INSTANT (R151). -/
  | utcLeapInstant (t : Nat)
  /-- EVT_IN_CAPTURE (R113). -/
  | evtInCapture (t : Nat) (n : Nat) (fall : Bool)
  /-- ANTENNA_DUTY_PERIOD (R122). -/
  | antennaDutyPeriod (t : Nat) (a n magI magQ sgnI sgnQ : Nat)
  /-- ACQ_SEARCH_DONE (R130). -/
  | acqSearchDone (t : Nat) (durUs : Nat) (peaks : List AcqPeak)
  /-- ACQ_AIDED_REQUEST (R132). -/
  | acqAidedRequest (t : Nat) (a prn : Nat)
  /-- PULL_IN_TIMEOUT (R129). -/
  | pullInTimeout (t : Nat) (c : Nat)
  /-- CHANNEL_TRACK_1MS (R136). -/
  | channelTrack1ms (t : Nat) (c : Nat)
  /-- BIT_SYNC (R137). -/
  | bitSync (t : Nat) (c : Nat)
  /-- GNSS_LOOP_PASS (R24). -/
  | gnssLoopPass (t : Nat) (ms : List LoopMeas)
  /-- CHANNEL_LOSS_OF_LOCK (R138). -/
  | channelLossOfLock (t : Nat) (c : Nat)
  /-- MEASUREMENT_EPOCH (R141). -/
  | measurementEpoch (t : Nat) (feFreq : Int) (ms : List EpochMeas)
  /-- LNAV_SUBFRAME (R148). -/
  | lnavSubframe (t : Nat) (c : Nat) (inverted : Bool) (tx : Option Nat) (body : LnavBody)
  /-- EPHEMERIS_EXPIRY (R149). -/
  | ephemerisExpiry (t : Nat) (prn : Nat)
  /-- RTCM_1004 (R156). -/
  | rtcm1004 (t : Nat) (src : RtcmSrc) (o : Obs1004)
  /-- RTCM_1005 (R154). -/
  | rtcm1005 (t : Nat) (src : RtcmSrc) (station : Nat) (x y z : Int)
  /-- RTCM_1006 (R154). -/
  | rtcm1006 (t : Nat) (src : RtcmSrc) (station : Nat) (x y z height : Int)
  /-- RTCM_1019 (R155). -/
  | rtcm1019 (t : Nat) (src : RtcmSrc) (e : Ephemeris)
  /-- RTCM_OTHER_TYPE (R154). -/
  | rtcmOtherType (t : Nat) (src : RtcmSrc)
  /-- RTCM_HOLD_EXPIRY (R156). -/
  | rtcmHoldExpiry (t : Nat)
  /-- NAV_SOLUTION_DELIVERY (R157). -/
  | navSolutionDelivery (t : Nat) (r : NavResult)
  /-- GNSS_TIME_LOST (R87). -/
  | gnssTimeLost (t : Nat)
  /-- ANTENNA_LOST (R164). -/
  | antennaLost (t : Nat) (a : Nat)
  /-- DFC_CHANNEL_STUCK (R173). -/
  | dfcChannelStuck (t : Nat) (f : BitFeed)
  /-- DFC_CHANNEL_RECOVER (R173). -/
  | dfcChannelRecover (t : Nat) (k : Nat)
  /-- SINC_STEP (R176). -/
  | sincStep (t : Nat) (f : BitFeed)
  /-- FIR_ROUND (R180). -/
  | firRound (t : Nat) (fs : List BitFeed)
  /-- FIR_ROUND_END (R181). -/
  | firRoundEnd (t : Nat)
  /-- DFC_SYNC_RESET (R188). -/
  | dfcSyncReset (t : Nat) (p : Path) (v : Word)
  /-- DFC_SWAP_REQ (R190). -/
  | dfcSwapReq (t : Nat) (p : Path) (v : Word)
  /-- SENTENCE_HDT (R211). -/
  | sentenceHdt (t : Nat) (tg : Telegram)
  /-- SENTENCE_THS (R211). -/
  | sentenceThs (t : Nat) (tg : Telegram)
  /-- SENTENCE_ROT (R211). -/
  | sentenceRot (t : Nat) (tg : Telegram)
  /-- SENTENCE_HRM (R211). -/
  | sentenceHrm (t : Nat) (tg : Telegram)
  /-- SENTENCE_MWV (R211). -/
  | sentenceMwv (t : Nat) (tg : Telegram)
  /-- SENTENCE_GGA (R211). -/
  | sentenceGga (t : Nat) (tg : Telegram)
  /-- SENTENCE_GNS (R211). -/
  | sentenceGns (t : Nat) (tg : Telegram)
  /-- SENTENCE_VTG (R211). -/
  | sentenceVtg (t : Nat) (tg : Telegram)
  /-- SENTENCE_TTM (R212). -/
  | sentenceTtm (t : Nat) (tg : Telegram)
  /-- SENTENCE_OTHER (R211). -/
  | sentenceOther (t : Nat) (tg : Telegram)
  /-- TEMPLATE_TELEGRAM (R214). -/
  | templateTelegram (t : Nat) (tm : Nat) (tg : Telegram)
  /-- CONTEXT_STALE (R215). -/
  | contextStale (t : Nat) (c : Nat)
  /-- CONTEXT_UNMASK (R216). -/
  | contextUnmask (t : Nat) (c : Nat)
  /-- GROUP_INSTANT (R219). -/
  | groupInstant (t : Nat) (g : Nat)
  /-- GROUP_RELEASE_TIMEOUT (R221). -/
  | groupReleaseTimeout (t : Nat) (g : Nat)
  /-- GROUP_TO_TRIGGERED (R225). -/
  | groupToTriggered (t : Nat) (g : Nat)
  /-- GROUP_TO_MAIN (R225). -/
  | groupToMain (t : Nat) (g : Nat)
  /-- SYNC_OUT_PULSE (R227). -/
  | syncOutPulse (t : Nat) (g : Nat)
  /-- CTX_CMD_SET_OPERATOR (R215). -/
  | ctxCmdSetOperator (t : Nat) (p : Path) (c : Nat)
  /-- CTX_CMD_CLEAR_OPERATOR (R215). -/
  | ctxCmdClearOperator (t : Nat) (p : Path) (c : Nat)
  /-- REPLAY_SNAPSHOT (R254). -/
  | replaySnapshot (t : Nat)
  /-- FUS_STREAM_LATE (R258). -/
  | fusStreamLate (t : Nat) (c : Nat)
  /-- FLAT_CONTRADICTION (R271). -/
  | flatContradiction (t : Nat) (q : Nat)
  /-- OUTLIER_MASK (R270). -/
  | outlierMask (t : Nat) (q : Nat)
  /-- DISPUTE_END (R272). -/
  | disputeEnd (t : Nat) (q : Nat)
  /-- DR_LIMIT_EXPIRY (R272). -/
  | drLimitExpiry (t : Nat) (q : Nat)
  /-- REF_CMD_SELECT (R272). -/
  | refCmdSelect (t : Nat) (p : Path) (r : Nat)
  /-- REF_CMD_REDEPLOY (R281). -/
  | refCmdRedeploy (t : Nat) (p : Path) (r : Nat)
  /-- REF_CMD_CLEAR_TRACKS (R292). -/
  | refCmdClearTracks (t : Nat) (p : Path) (r : Nat)
  /-- SCAN_CLOSE (R278). -/
  | scanClose (t : Nat) (r : Nat)
  /-- OUTER_LOOP (R300). -/
  | outerLoop (t : Nat)
  /-- JOYSTICK_INVALID (R319). -/
  | joystickInvalid (t : Nat)
  /-- WAYPOINT_REACHED (R325). -/
  | waypointReached (t : Nat)
  /-- BLEND_END (R334). -/
  | blendEnd (t : Nat)
  /-- WIND_FADE_END (R312). -/
  | windFadeEnd (t : Nat)
  /-- PCL_GAIN_SCALE_WRITE (R304). -/
  | pclGainScaleWrite (t : Nat) (p : Path) (v : Word)
  /-- COMMAND_MODE (R332). -/
  | commandMode (t : Nat) (h : StnHdr) (m slot : Nat) (given : Bool) (track : Nat) (n e : Int)
  /-- COMMAND_SETPOINT (R323). -/
  | commandSetpoint (t : Nat) (h : StnHdr) (n e hdg : Int)
  /-- COMMAND_ACK (R527). -/
  | commandAck (t : Nat) (h : StnHdr) (point : Nat)
  /-- COMMAND_REFERENCE (R527). -/
  | commandReference (t : Nat) (h : StnHdr) (action ref : Nat)
  /-- COMMAND_CONTEXT (R527). -/
  | commandContext (t : Nat) (h : StnHdr) (action ctx : Nat)
  /-- COMMAND_TRACK (R324). -/
  | commandTrack (t : Nat) (h : StnHdr) (wps : List Waypoint)
  /-- COMMAND_SLOT (R360). -/
  | commandSlot (t : Nat) (h : StnHdr) (slot action : Nat)
  /-- COMMAND_BUS_RECOVER (R473). -/
  | commandBusRecover (t : Nat) (h : StnHdr) (n : Nat)
  /-- COMMAND_HANDOVER (R593). -/
  | commandHandover (t : Nat) (h : StnHdr)
  /-- SOLVE_OUTCOME (R377). -/
  | solveOutcome (t : Nat)
  /-- SOLVE_DEADLINE (R377). -/
  | solveDeadline (t : Nat)
  /-- FALLBACK_ON (R386). -/
  | fallbackOn (t : Nat)
  /-- FALLBACK_OFF (R388). -/
  | fallbackOff (t : Nat)
  /-- STRUCTURE_LOADED (R365). -/
  | structureLoaded (t : Nat)
  /-- PWR_HOLD_EXPIRY (R359). -/
  | pwrHoldExpiry (t : Nat) (b : Nat)
  /-- CA_ROUND_START (R391). -/
  | caRoundStart (t : Nat)
  /-- CA_CASE_DONE (R396). -/
  | caCaseDone (t : Nat)
  /-- CA_ROUND_LATE (R400). -/
  | caRoundLate (t : Nat)
  /-- CA_CMD_START (R401). -/
  | caCmdStart (t : Nat) (p : Path)
  /-- ENCODER_EDGE (R409). -/
  | encoderEdge (t : Nat) (n : Nat) (a b : Bool)
  /-- ENCODER_INDEX (R412). -/
  | encoderIndex (t : Nat) (n : Nat)
  /-- STANDSTILL (R418). -/
  | standstill (t : Nat) (n : Nat)
  /-- SSI_FRAME_START (R420). -/
  | ssiFrameStart (t : Nat) (n : Nat)
  /-- SSI_FRAME_DONE (R422). -/
  | ssiFrameDone (t : Nat) (n : Nat) (raw : Word) (idleHigh finalLow : Bool)
  /-- ENC_PRESET_VALUE (R414). -/
  | encPresetValue (t : Nat) (p : Path) (v : Word)
  /-- ENC_PRESET_CHANNEL (R414). -/
  | encPresetChannel (t : Nat) (p : Path) (n : Nat)
  /-- PDIV_STEP (R431). -/
  | pdivStep (t : Nat) (p : Nat)
  /-- FEEDBACK_LOST (R437). -/
  | feedbackLost (t : Nat) (x : Nat)
  /-- AZ_FOLLOW (R439). -/
  | azFollow (t : Nat) (x : Nat)
  /-- PWM_PERIOD_START (R445). -/
  | pwmPeriodStart (t : Nat) (k : Nat)
  /-- TX_DONE (R469). -/
  | txDone (t : Nat) (n : Nat)
  /-- ARBITRATION_LOST (R468). -/
  | arbitrationLost (t : Nat) (n : Nat)
  /-- TX_ERROR (R468). -/
  | txError (t : Nat) (n : Nat) (k : CanError) (exempt : Bool)
  /-- MBC_TX_CANCEL (R469). -/
  | mbcTxCancel (t : Nat) (n : Nat) (v : Word) (won : Bool)
  /-- TX_EXPIRED (R471). -/
  | txExpired (t : Nat) (n : Nat)
  /-- BUS_RECOVERED (R473). -/
  | busRecovered (t : Nat) (n : Nat)
  /-- MBC_RECOVER (R473). -/
  | mbcRecover (t : Nat) (n : Nat) (v : Word)
  /-- FAILBACK (R477). -/
  | failback (t : Nat) (n : Nat)
  /-- INTEGRATION_DONE (R454). -/
  | integrationDone (t : Nat) (n : Nat)
  /-- RX_FRAME (R481). -/
  | rxFrame (t : Nat) (n : Nat) (f : CanFrame) (sofAgo : Nat)
  /-- RX_BUFFER_LOCK (R483). -/
  | rxBufferLock (t : Nat) (p : Path) (n b : Nat)
  /-- RX_BUFFER_RELEASE (R485). -/
  | rxBufferRelease (t : Nat) (p : Path) (n b : Nat)
  /-- RX_LOCK_TIMEOUT (R483). -/
  | rxLockTimeout (t : Nat) (n b : Nat)
  /-- WAKE_EDGE (R493). -/
  | wakeEdge (t : Nat) (n ns : Nat)
  /-- WAKE_FRAME (R493). -/
  | wakeFrame (t : Nat) (n : Nat) (f : CanFrame)
  /-- PHY_LINK_CHANGE (R502). -/
  | phyLinkChange (t : Nat) (p mbps : Nat) (full : Bool)
  /-- PORT_FRAME_RECEIVED (R503). -/
  | portFrameReceived (t : Nat) (p : Nat) (f : NetFrame)
  /-- FRAME_ADMISSION (R507). -/
  | frameAdmission (t : Nat)
  /-- FRAME_TRANSMITTED (R506). -/
  | frameTransmitted (t : Nat) (p : Nat)
  /-- ADDRESS_AGEING (R504). -/
  | addressAgeing (t : Nat)
  /-- PRP_SUPERVISION_SEND (R513). -/
  | prpSupervisionSend (t : Nat)
  /-- PRP_LAN_LOST (R513). -/
  | prpLanLost (t : Nat) (l : Nat)
  /-- ARP_REQUEST (R515). -/
  | arpRequest (t : Nat) (p : Nat) (ip : Word)
  /-- ICMP_ECHO (R516). -/
  | icmpEcho (t : Nat) (ip : Word) (id seq : Nat)
  /-- HELLO_OPEN (R521). -/
  | helloOpen (t : Nat) (h : StnHdr) (rights : BitVec 4) (nonceHi nonceLo : Word)
  /-- HELLO_STATUS (R521). -/
  | helloStatus (t : Nat) (h : StnHdr) (nonceHi nonceLo : Word)
  /-- SUBSCRIBE_ADD (R543). -/
  | subscribeAdd (t : Nat) (h : StnHdr) (action first count : Nat)
  /-- SUBSCRIBE_REMOVE (R543). -/
  | subscribeRemove (t : Nat) (h : StnHdr) (first count : Nat)
  /-- SUBSCRIBE_FULL (R543). -/
  | subscribeFull (t : Nat) (h : StnHdr) (first count : Nat)
  /-- POINT_UPDATE_RECEIVED (R544). -/
  | pointUpdateReceived (t : Nat) (h : StnHdr) (recs : List (Nat × PointRec))
  /-- IO_FRAME_INPUTS (R531). -/
  | ioFrameInputs (t : Nat) (h : StnHdr) (sample : Word) (entries : List (Nat × Word × Nat))
  /-- IO_FRAME_BYTES (R531). -/
  | ioFrameBytes (t : Nat) (h : StnHdr) (channel : Nat) (bytes : List Byte)
  /-- IO_OUTPUTS_SEND (R530). -/
  | ioOutputsSend (t : Nat) (k : Nat)
  /-- IO_NODE_LOST (R532). -/
  | ioNodeLost (t : Nat) (k : Nat)
  /-- REG_READ (R528). -/
  | regRead (t : Nat) (h : StnHdr) (addr : Word) (count : Nat)
  /-- REG_WRITE (R528). -/
  | regWrite (t : Nat) (h : StnHdr) (addr value : Word)
  /-- EVENT_FETCH (R529). -/
  | eventFetch (t : Nat) (h : StnHdr) (from_ count : Nat)
  /-- STATION_FRAME_DISCARD (R519). -/
  | stationFrameDiscard (t : Nat) (h : StnHdr) (need : Nat)
  /-- SESSION_TIMEOUT (R522). -/
  | sessionTimeout (t : Nat) (n : Nat)
  /-- POINT_STALE (R537). -/
  | pointStale (t : Nat) (p : Nat)
  /-- POINT_WINDOW_FREEZE (R545). -/
  | pointWindowFreeze (t : Nat) (p : Path) (k : Nat)
  /-- POINT_WINDOW_RELEASE (R545). -/
  | pointWindowRelease (t : Nat) (p : Path) (k : Nat)
  /-- POINT_FREEZE_TIMEOUT (R545). -/
  | pointFreezeTimeout (t : Nat) (p : Path) (pt : Nat)
  /-- PIM_PAGE_WRITE (R545). -/
  | pimPageWrite (t : Nat) (p : Path) (v : Word)
  /-- CARRY_FRAME_RECEIVED (R561). -/
  | carryFrameReceived (t : Nat) (link : Nat) (h : CarryHdr) (sec : CarrySection) (crcOk : Bool)
  /-- CARRY_DUE (R566). -/
  | carryDue (t : Nat)
  /-- CARRY_LINK_DOWN (R554). -/
  | carryLinkDown (t : Nat) (l : Nat)
  /-- CARRY_LINK_UP (R554). -/
  | carryLinkUp (t : Nat) (l : Nat)
  /-- HEARTBEAT_SEND (R568). -/
  | heartbeatSend (t : Nat)
  /-- HEARTBEAT_RECEIVED (R570). -/
  | heartbeatReceived (t : Nat) (path : Nat) (hb : Heartbeat) (ofs : Int) (crcOk : Bool)
  /-- HEARTBEAT_WINDOW_END (R570). -/
  | heartbeatWindowEnd (t : Nat)
  /-- DUPLICATE_CLEAR (R556). -/
  | duplicateClear (t : Nat)
  /-- ACTIVE_ENTRY (R576). -/
  | activeEntry (t : Nat)
  /-- YIELD (R580). -/
  | yield (t : Nat)
  /-- PROBATION_END (R579). -/
  | probationEnd (t : Nat)
  /-- JOIN_SYNCED (R591). -/
  | joinSynced (t : Nat)
  /-- ROLE_EXCHANGE_DUE (R593). -/
  | roleExchangeDue (t : Nat)
  /-- RETURN_DUE (R597). -/
  | returnDue (t : Nat)
  /-- HANDOVER_ACCEPT (R595). -/
  | handoverAccept (t : Nat)
  /-- HANDOVER_EDGE (R595). -/
  | handoverEdge (t : Nat)
  /-- HANDOVER_ABORT (R596). -/
  | handoverAbort (t : Nat)
  /-- TWN_CMD_HANDOVER (R593). -/
  | twnCmdHandover (t : Nat) (p : Path)
  /-- TWN_CMD_HOLD_RETURN (R597). -/
  | twnCmdHoldReturn (t : Nat) (p : Path)
  /-- TWN_CMD_RELEASE_RETURN (R597). -/
  | twnCmdReleaseReturn (t : Nat) (p : Path)
  /-- LAYUP_FOLLOW (R600). -/
  | layupFollow (t : Nat)
  /-- WATCHDOG_KICK (R617). -/
  | watchdogKick (t : Nat) (writer m : Nat) (v : Word)
  /-- WATCHDOG_EXPIRY (R617). -/
  | watchdogExpiry (t : Nat) (m : Nat)
  /-- FIREWALL_VIOLATION (R612). -/
  | firewallViolation (t : Nat) (m : Nat) (addr : Word) (write : Bool)
  /-- SAF_REQ_ACK (R632). -/
  | safReqAck (t : Nat) (writer : Nat) (maint : Bool)
  /-- SAF_REQ_SW_FAULT (R612). -/
  | safReqSwFault (t : Nat) (writer : Nat) (code : Nat)
  /-- SAFE_LOST (R619). -/
  | safeLost (t : Nat) (kHz : Nat)
  /-- SUPPLY_BAND_CHANGE (R621). -/
  | supplyBandChange (t : Nat) (rail band mV : Nat)
  /-- TEMP_BAND_CHANGE (R621). -/
  | tempBandChange (t : Nat) (band : Nat) (tj : Int)
  /-- OUTEN_MISMATCH (R631). -/
  | outenMismatch (t : Nat) (level : Bool)
  /-- PFAIL_FALL (R624). -/
  | pfailFall (t : Nat) (lowNs : Nat)
  /-- PFAIL_RISE (R645). -/
  | pfailRise (t : Nat)
  /-- FLUSH_PAGE_START (R644). -/
  | flushPageStart (t : Nat)
  /-- PAGE_COMMIT (R648). -/
  | pageCommit (t : Nat) (ok : Bool)
  /-- URGENT_FLUSH_DONE (R645). -/
  | urgentFlushDone (t : Nat)
  /-- EVR_READ_SEQ_WRITE (R657). -/
  | evrReadSeqWrite (t : Nat) (p : Path) (v : Word)
  /-- EVR_BOOKS_FREEZE (R655). -/
  | evrBooksFreeze (t : Nat) (p : Path)
  /-- EVR_BOOKS_RELEASE (R655). -/
  | evrBooksRelease (t : Nat) (p : Path)
  /-- CALENDAR_SECOND (R666). -/
  | calendarSecond (t : Nat)
  /-- TRIM_ADJUST (R667). -/
  | trimAdjust (t : Nat)
  /-- CALENDAR_SYNC (R669). -/
  | calendarSync (t : Nat)
  /-- RTC_COMMIT (R673). -/
  | rtcCommit (t : Nat) (source : Nat) (v : Word)
  /-- RTC_COMMIT_CHECK (R674). -/
  | rtcCommitCheck (t : Nat)
  /-- RTC_LOCAL_OFS_WRITE (R668). -/
  | rtcLocalOfsWrite (t : Nat) (v : Word)
  /-- DATE_ERR_CLEAR (R697). -/
  | dateErrClear (t : Nat) (v : Word)
  /-- CALENDAR_SHADOW_FREEZE (R676). -/
  | calendarShadowFreeze (t : Nat) (p : Path) (reg : Nat)
  /-- CALENDAR_SHADOW_RELEASE (R676). -/
  | calendarShadowRelease (t : Nat) (p : Path)
  /-- CALENDAR_SHADOW_TIMEOUT (R676). -/
  | calendarShadowTimeout (t : Nat) (p : Path)
  /-- SUPPLY_SWITCH_TO_VBU (R677). -/
  | supplySwitchToVbu (t : Nat) (io vbu : Nat)
  /-- SUPPLY_SWITCH_TO_MAIN (R677). -/
  | supplySwitchToMain (t : Nat) (io vbu : Nat)
  /-- BACKUP_RESET (R680). -/
  | backupReset (t : Nat) (lowNs : Nat)
  /-- WAKE_TIMER (R685). -/
  | wakeTimer (t : Nat)
  /-- HW_ROUND_SAMPLE (R689). -/
  | hwRoundSample (t : Nat)
  /-- HW_POWER_HELD (R691). -/
  | hwPowerHeld (t : Nat)
  /-- TIME_SHADOW_FREEZE (R118). -/
  | timeShadowFreeze (t : Nat) (p : Path) (a : Nat)
  /-- TIME_SHADOW_RELEASE (R118). -/
  | timeShadowRelease (t : Nat) (p : Path) (a : Nat)
  /-- READ_CLEAR (R18). -/
  | readClear (t : Nat) (p : Path) (a : Nat)
  /-- BOOT_CMD_CLEAR_RECORD (R708). -/
  | bootCmdClearRecord (t : Nat) (p : Path)
  /-- BOOT_CMD_RESTART (R710). -/
  | bootCmdRestart (t : Nat) (p : Path)
  /-- BOOT_PROG_ADDR_WRITE (R717). -/
  | bootProgAddrWrite (t : Nat) (p : Path) (v : Word)
  /-- BOOT_PROG_DATA_WRITE (R717). -/
  | bootProgDataWrite (t : Nat) (p : Path) (v : Word)
  /-- PROG_ERASE (R717). -/
  | progErase (t : Nat) (p : Path)
  /-- PROG_PROGRAM (R717). -/
  | progProgram (t : Nat) (p : Path)
  /-- PROG_SET_PREFER (R717). -/
  | progSetPrefer (t : Nat) (p : Path) (arg : Nat)
  /-- PROG_READ (R717). -/
  | progRead (t : Nat) (p : Path)
  /-- PROG_DONE (R716). -/
  | progDone (t : Nat)
  /-- MSPI_FRAME (R757). -/
  | mspiFrame (t : Nat) (bits : Nat) (f : BitVec 72)
  /-- REGISTER_WRITE (R768). -/
  | registerWrite (t : Nat) (p : Path) (a v : Word)
  /-- RX_ERROR (R472). -/
  | rxError (t : Nat) (n : Nat) (k : CanError) (by8 : Bool)
  /-- RTCM_FRAME_ERROR (R153). -/
  | rtcmFrameError (t : Nat) (src : RtcmSrc) (badLength : Bool)
  /-- STEPPED_CLEAR (R102). -/
  | steppedClear (t : Nat)
  /-- PFAIL_FAULT_CLEAR (R621). -/
  | pfailFaultClear (t : Nat)
  /-- TCK_EDGE (R634). -/
  | tckEdge (t : Nat) (tms tdi trst : Bool)
  deriving DecidableEq, Repr
-- INSTR END

end Sys2Proof
end

