-- ==== Sys2Proof/Config.lean ====
section
/-! DEFINITION. What the spec leaves open: free values and functions with no body, which no proof can see into. -/

namespace Sys2Proof.Config

open Sys2Proof.Machine

/-- A 32-bit value the spec leaves open, drawn by a count of the state. -/
opaque freeWord : Nat → Word

/-- The code SYS_STATE_CHANGE gives the state OFF, for which SYS_HEALTH.STATE has none (R59, R61). -/
opaque offStateCode : Nat

/-- Steering the discipline loop applies for a measurement: SERVO_BW in 0.01 Hz, the correction applied, the offset, and the count of draws (R63, R116). -/
opaque steer : Nat → Int → Int → Nat → Int

/-- The offsetScaledLogVariance the unit advertises (R79). -/
opaque ownVariance : Nat

/-- Elevation of a satellite in 0.1° from the almanac held, at a GPS time in s (R125, R131). -/
opaque elevation : List (Nat × List Word) → Nat → Nat → Int

/-- Propagation of the estimate over an interval in ns, with the mass factor and the force and moment achieved (R246). -/
opaque propagate : ImgFusion → Int → List Int → Int → Est → Est

/-- One scalar update of the estimate (R247, R248). -/
opaque update : ImgFusion → Scalar → Est → Est

/-- The normalised innovation of the scalars of a sample against the estimate, in 0.1 σ (R274). -/
opaque innovation : ImgFusion → List Scalar → Est → Nat

/-- Add a late scalar to the information of an interval; the innovation is formed against the estimate propagated from its snapshot (R255, R257). -/
opaque addInfo : ImgFusion → Scalar → Est → List Int → List Int

/-- Combine the information of an interval into the estimate at its end (R255). -/
opaque combine : ImgFusion → List Int → Est → Est

/-- Fused pitch, roll and their rates from the attitude samples of a tick and those before (R235). -/
opaque fusedAttitude : List (Nat × Int × List Int) → List AttPoint → Int → List Int

/-- Two binary32 values lie within a DEADBAND of each other (R536). -/
opaque floatWithin : Nat → Word → Word → Bool

/-- A binary32 value as the integer to which a stream's SCALE applies, which the spec does not state (R202). -/
opaque floatValue : Word → Int

/-- The minimum of the objective on the equality rows alone, for the slots of a mask and a demand (R349, R350): the solver's start. -/
opaque equalityMin : ImgAlloc → List Int → BitVec 16 → List Int → SolvePoint

/-- The primal and dual directions of a row against the active rows, and its pivot, from the stored factors (R371 to R374). -/
opaque direction : ImgAlloc → List Int → BitVec 16 → List AlsRow → AlsRow → SolveDir

/-- A step along a direction by num / den; the last multiplier of the point is the new row's (R371). -/
opaque advance : ImgAlloc → SolveDir → Int → Int → SolvePoint → SolvePoint

/-- The point that meets the carried rows, with their multipliers (R382). -/
opaque carriedPoint : ImgAlloc → List Int → BitVec 16 → List AlsRow → List Int → SolvePoint

/-- A word of an accepted claim in the claim window, whose layout the spec does not give (R731). -/
opaque claimWord : Claim → Nat → Word

/-- The Carry format of the unit's firmware, and the formats it supports (R558, R567). -/
opaque carryFormat : Nat
opaque formatOk : Nat → Bool

/-- CRC-32 of a RESULTS section, whose layout the spec does not give (R568, R588). -/
opaque resultsCrc : CarryResults → Word

/-- The first word in which two RESULTS sections differ: its offset, the own word and the carried word (R586). -/
opaque firstDiff : CarryResults → CarryResults → Nat × Word × Word

/-- The version of the firmware image of a number of bytes at an address of the configuration memory, none where its length, signature or version check fails (R714). -/
opaque firmware : List (Nat × Byte) → Nat → Nat → Option Word

/-- The Holvous image of a number of bytes at an address, none where a check of R720 other than that of the firmware range fails. -/
opaque holvous : List (Nat × Byte) → Nat → Nat → Option Image

end Sys2Proof.Config
end

