-- ==== Sys2Proof/Machine/Bits.lean ====
section
/-! DEFINITION. Bit fields, saturation, list update, checks and the fixed-point trigonometry that several blocks share. -/

namespace Sys2Proof.Machine

open Sys2Proof

/-- The element at an index, or a default beyond the end. -/
def nth {α : Type} (l : List α) (i : Nat) (d : α) : α := l.getD i d

/-- Replace the element at an index; a list too short is left as it is. -/
def put {α : Type} : List α → Nat → α → List α
  | [], _, _ => []
  | _ :: xs, 0, a => a :: xs
  | x :: xs, n + 1, a => x :: put xs n a

/-- Change the element at an index. -/
def upd {α : Type} : List α → Nat → (α → α) → List α
  | [], _, _ => []
  | x :: xs, 0, f => f x :: xs
  | x :: xs, n + 1, f => x :: upd xs n f

/-- The value at a key of an association list. -/
def assoc {κ α : Type} [DecidableEq κ] : List (κ × α) → κ → Option α
  | [], _ => none
  | (k, a) :: xs, q => if k = q then some a else assoc xs q

/-- Set the value at a key of an association list. -/
def assocSet {κ α : Type} [DecidableEq κ] : List (κ × α) → κ → α → List (κ × α)
  | [], q, a => [(q, a)]
  | (k, b) :: xs, q, a => if k = q then (q, a) :: xs else (k, b) :: assocSet xs q a

/-- Remove a key of an association list. -/
def assocDel {κ α : Type} [DecidableEq κ] : List (κ × α) → κ → List (κ × α)
  | [], _ => []
  | (k, b) :: xs, q => if k = q then assocDel xs q else (k, b) :: assocDel xs q

/-- Bit i of a mask. -/
def bitAt {w : Nat} (m : BitVec w) (i : Nat) : Bool := m.getLsbD i

/-- Set or clear bit i of a mask. -/
def setBit {w : Nat} (m : BitVec w) (i : Nat) (b : Bool) : BitVec w :=
  if b then m ||| (BitVec.ofNat w (2 ^ i)) else m &&& ~~~(BitVec.ofNat w (2 ^ i))

/-- The mask of the indices below w that satisfy a test. -/
def maskOf (w : Nat) (f : Nat → Bool) : BitVec w :=
  (List.range w).foldl (fun m i => if f i then m ||| BitVec.ofNat w (2 ^ i) else m) 0

/-- The number of bits set. -/
def popCount {w : Nat} (m : BitVec w) : Nat :=
  (List.range w).foldl (fun n i => if m.getLsbD i then n + 1 else n) 0

/-- The indices of the bits set, rising. -/
def bitsOf {w : Nat} (m : BitVec w) : List Nat := (List.range w).filter (fun i => m.getLsbD i)

/-- A Boolean as 0 or 1. -/
def b2n (b : Bool) : Nat := if b then 1 else 0

/-- A register word from its fields: each a low bit position, a width and a value. -/
def packWord : List (Nat × Nat × Nat) → Word
  | [] => 0
  | (lo, w, v) :: fs => BitVec.ofNat 32 ((v % 2 ^ w) * 2 ^ lo) ||| packWord fs

/-- The field of a word, from bit lo, of width w. -/
def fieldOf (x : Word) (lo w : Nat) : Nat := (x.toNat / 2 ^ lo) % 2 ^ w

/-- A count that saturates. -/
def satAdd (n k top : Nat) : Nat := min (n + k) top

/-- Saturation of a signed value to the magnitude 2^31 − 1 used by the registers. -/
def sat31 (x : Int) : Int := max (-2147483647) (min 2147483647 x)

/-- Clamp to an interval. -/
def clampI (lo hi x : Int) : Int := max lo (min hi x)

/-- A signed value as a register word, two's complement. -/
def wordI (x : Int) : Word := BitVec.ofInt 32 x

/-- A count as a register word. -/
def wordN (x : Nat) : Word := BitVec.ofNat 32 x

/-- The signed difference a − b of two 32-bit counts (R40). -/
def sdiff32 (a b : Word) : Int := (a - b).toInt

/-- Rounding to nearest, ties towards +∞ (R182). -/
def roundUpHalf (n : Int) (d : Nat) : Int := (2 * n + d) / (2 * (d : Int))

/-- Rounding to nearest, ties away from 0 (R234, R248). -/
def roundAway (n : Int) (d : Nat) : Int :=
  if 0 ≤ n then (2 * n + d) / (2 * (d : Int)) else -((2 * (-n) + d) / (2 * (d : Int)))

/-- The integer square root, by bisection on a number of bits. -/
def isqrtAux : Nat → Nat → Nat → Nat
  | 0, _, r => r
  | b + 1, n, r => if (r + 2 ^ b) * (r + 2 ^ b) ≤ n then isqrtAux b n (r + 2 ^ b) else isqrtAux b n r

/-- The largest r with r² ≤ n, for n below 2^256. -/
def isqrt (n : Nat) : Nat := isqrtAux 128 n 0

/-- Scale of the internal trigonometry. -/
def trigOne : Int := 2 ^ 80

/-- π at the scale of the internal trigonometry: ⌊π × 2^80⌋. -/
def trigPi : Int := 3797952473636338580787993

/-- Taylor series of the sine at the internal scale. -/
def sinSeries : Nat → Nat → Int → Int → Int → Int
  | 0, _, _, _, acc => acc
  | f + 1, k, x2, term, acc =>
    sinSeries f (k + 2) x2 (-(term * x2 / trigOne) / ((k + 1) * (k + 2) : Int)) (acc + term)

/-- Sine of an angle in radians at the internal scale, for a magnitude up to π/2. -/
def sinRad (x : Int) : Int := sinSeries 20 1 (x * x / trigOne) x 0

/-- Sine of n turns of 1/d, at the internal scale. -/
def sinTurn (n : Int) (d : Nat) : Int :=
  let q := n % (d : Int)
  let q := if 2 * q > d then q - d else q
  let q := if 4 * q > d then (d : Int) / 2 - q else if 4 * q < -(d : Int) then -((d : Int) / 2) - q else q
  sinRad (2 * trigPi * q / d)

/-- Sine of a binary angle in Q2.30, rounded to nearest (R234). -/
def sinQ30 (a : Word) : Int := roundAway (sinTurn a.toNat (2 ^ 32)) (2 ^ 50)

/-- Cosine of a binary angle in Q2.30, rounded to nearest (R234). -/
def cosQ30 (a : Word) : Int := roundAway (sinTurn (a.toNat + 2 ^ 30) (2 ^ 32)) (2 ^ 50)

/-- The binary angle of (x, y), by bisection on the angle over a half plane: the angle whose direction is nearest below (y ≥ 0). -/
def atanAux : Nat → Nat → Int → Int → Nat
  | 0, a, _, _ => a
  | b + 1, a, x, y =>
    let m := a + 2 ^ b
    -- the direction m lies at or before (x, y) when sin(θ − m) ≥ 0
    if y * cosQ30 (BitVec.ofNat 32 m) - x * sinQ30 (BitVec.ofNat 32 m) ≥ 0 then atanAux b m x y else atanAux b a x y

/-- The binary angle of a vector (x, y), 0 for the null vector. -/
def atan2W (y x : Int) : Word :=
  if x = 0 ∧ y = 0 then 0
  else if 0 ≤ y then (if y = 0 ∧ x < 0 then BitVec.ofNat 32 (2 ^ 31) else BitVec.ofNat 32 (atanAux 31 0 x y))
  else BitVec.ofNat 32 (2 ^ 31 + atanAux 31 0 (-x) (-y))

/-- One bit of a reflected CRC. -/
def crcBitR (poly : Nat) (c : Nat) : Nat := if c % 2 = 1 then (c / 2) ^^^ poly else c / 2

/-- One byte of the CRC-32 of IEEE 802.3. -/
def crc32Byte (c b : Nat) : Nat :=
  (List.range 8).foldl (fun c _ => crcBitR 0xEDB88320 c) (c ^^^ b)

/-- The CRC-32 of IEEE 802.3 over bytes (R559, R647, R712, R718). -/
def crc32 (bs : List Byte) : Nat := (bs.foldl (fun c b => crc32Byte c b.toNat) 0xFFFFFFFF) ^^^ 0xFFFFFFFF

/-- One byte of a CRC of width w, most significant bit first. -/
def crcMsbByte (w poly : Nat) (c b : Nat) : Nat :=
  (List.range 8).foldl
    (fun c _ => if c / 2 ^ (w - 1) % 2 = 1 then ((c * 2) % 2 ^ w) ^^^ poly else (c * 2) % 2 ^ w)
    (c ^^^ (b * 2 ^ (w - 8)))

/-- A CRC of width w, most significant bit first, from an initial value. -/
def crcMsb (w poly init : Nat) (bs : List Byte) : Nat :=
  bs.foldl (fun c b => crcMsbByte w poly c b.toNat) init

/-- CRC-8 with polynomial 0x07 (R758). -/
def crc8 (bs : List Byte) : Nat := crcMsb 8 0x07 0 bs

/-- CRC-16 with polynomial 0x1021 from 0xFFFF (R214). -/
def crc16 (bs : List Byte) : Nat := crcMsb 16 0x1021 0xFFFF bs

/-- A big-endian number of bytes. -/
def beNat (bs : List Byte) : Nat := bs.foldl (fun n b => n * 256 + b.toNat) 0

/-- The big-endian bytes of a number. -/
def beBytes : Nat → Nat → List Byte
  | 0, _ => []
  | k + 1, n => BitVec.ofNat 8 (n / 256 ^ k) :: beBytes k n

/-- A little-endian number of bytes. -/
def leNat : List Byte → Nat
  | [] => 0
  | b :: bs => b.toNat + 256 * leNat bs

/-- Insert into a list sorted by a key. -/
def insertBy {α : Type} (key : α → Int) (a : α) : List α → List α
  | [] => [a]
  | b :: bs => if key a < key b then a :: b :: bs else b :: insertBy key a bs

/-- Stable insertion sort by a key, lowest first. -/
def sortBy {α : Type} (key : α → Int) (l : List α) : List α := l.foldl (fun acc a => insertBy key a acc) []

/-- The median of five values (R100). -/
def median5 (l : List Int) : Int := (sortBy id l).getD 2 0

end Sys2Proof.Machine
end

