-- ==== Sys2Proof/Machine/State.lean ====
section
/-! DEFINITION. The state of the LN9616 as plain data: every register, buffer, counter, mode and pin the spec gives the part, and the queue of commands that wait. A default in a structure is the value at reset. -/

namespace Sys2Proof.Machine

open Sys2Proof

/-- Why a command stops the machine. No meaning of this model faults: every command of the table has an effect in the spec. -/
inductive Fault where
  /-- Raised by no command (safe: the machine stops where the hardware goes on). -/
  | none
  deriving DecidableEq, Repr

/-- Why the model gives a command no meaning. -/
inductive Refusal where
  /-- The command's meaning has not been written (safe: a stop). Raised only by an arm of `exec`. -/
  | notModelled (mnemonic : String)
  deriving DecidableEq, Repr

-- STATE BEGIN
/-- The state of the LN9616. -/
structure State where
  sys   : Sys := {}
  clk   : Clk := {}
  tks   : Tks := {}
  tim   : Tim := {}
  gnb   : Gnb := {}
  dfc   : Dfc := {}
  str   : Str := {}
  fus   : Fus := {}
  saf   : Saf := {}
  evr   : Evr := {}
  rtc   : Rtc := {}
  boot  : Boot := {}
  pin   : Pin := {}
  mspi  : Mspi := {}
  twn   : Twn := {}
  pcl   : Pcl := {}
  als   : Als := {}
  srv   : Srv := {}
  mbcs  : List Mbc := List.replicate 8 {}
  bus   : Bus := {}
  net   : Net := {}
  pim   : Pim := {}
  /-- The configuration memory beside the part (R711): bytes other than the erased 0xFF, addresses rising. -/
  flash : List Host.Cell := []
  /-- The image in use, from S5 (R720). -/
  image : Image := {}
  imageOk : Bool := false
  /-- Values the spec leaves open are drawn from Config at this count. The model's own field. -/
  draws : Nat := 0
  /-- What left the part in the last command, oldest first. The model's own field. -/
  out   : List Emit := []
  /-- The commands that wait, first in, first out. -/
  pending : List Instr := []
  deriving DecidableEq, Repr

/-- The machine right after reset, before reset release (R51, R767). -/
def State.reset : State := {}

end Sys2Proof.Machine
end

