-- ==== Sys2Proof/Machine/Ops.lean ====
section
/-! DEFINITION. The operations every block shares: the instant of a command, what leaves the part, records of the Tally and their admission, the level, faults and their reactions, the freeze of a master, the output gates, and the passage between device states. -/

namespace Sys2Proof.Machine

open Sys2Proof

/-! ## Instants -/

/-- The state as a command finds it: the instant is taken, and nothing has left the part yet. -/
def start (t : Nat) (s : State) : State := { s with tks.sinceEdge := t, out := [] }

/-- Time since reset release, ns. It never steps. -/
def State.up (s : State) : Nat := s.tks.upEdge + s.tks.sinceEdge

/-- System time, ns since the PTP epoch (R64). -/
def State.sysNow (s : State) : Nat := s.tim.latSys + s.tks.sinceEdge

/-- TICK_NO, the low 32 bits of TICK_EXT (R41). -/
def State.tickNo (s : State) : Nat := s.tks.tickExt % 2 ^ 32

/-- Add to what leaves the part. -/
def emit (e : Emit) (s : State) : State := { s with out := s.out ++ [e] }

/-- A 32-bit value the spec leaves open, and the state with the draw counted. -/
def State.draw (s : State) : Word × State := (Config.freeWord s.draws, { s with draws := s.draws + 1 })

/-- One second in ns. -/
def nsPerS : Nat := 1000000000

/-- One millisecond in ns. -/
def nsPerMs : Nat := 1000000

/-- Whether a second has passed since an instant, or the instant is none (rules of the form at most once per second). -/
def oncePerSecond (mark : Option Nat) (up : Nat) : Bool :=
  match mark with
  | none => true
  | some m => m + nsPerS ≤ up

/-! ## The calendar as a number of seconds (R640, R664, R665) -/

/-- A leap year of the calendar (R665). -/
def leapYear (y : Nat) : Bool := y % 4 == 0 && (y % 100 != 0 || y % 400 == 0)

/-- Days in a month (R665). -/
def daysInMonth (y m : Nat) : Nat :=
  if m = 2 then (if leapYear y then 29 else 28)
  else if m = 4 ∨ m = 6 ∨ m = 9 ∨ m = 11 then 30 else 31

/-- Leap years before y, counted from 2000. -/
def leapsBefore (y : Nat) : Nat :=
  let k := y - 2000
  (k + 3) / 4 - (k + 99) / 100 + (k + 399) / 400

/-- Days from 2000-01-01 to a date. -/
def dayNumber (y m d : Nat) : Nat :=
  (y - 2000) * 365 + leapsBefore y + ((List.range (m - 1)).foldl (fun n i => n + daysInMonth y (i + 1)) 0) + (d - 1)

/-- Seconds from 1970-01-01 00:00:00 to a calendar reading, counting every day as 86,400 s. -/
def calSeconds (c : Calendar) : Nat :=
  (10957 + dayNumber c.year c.month c.day) * 86400 + c.hour * 3600 + c.min * 60 + c.sec

/-- The calendar as nanoseconds, with its cycles of XTAL32. -/
def calNs (c : Calendar) : Nat := calSeconds c * nsPerS + c.subsec * nsPerS / 32768

/-- The calendar as it reads now, with the cycles of XTAL32 counted in the current second (R666). -/
def State.calNow (s : State) : Calendar :=
  { s.rtc.cal with subsec := if s.clk.lost.getLsbD 11 then s.rtc.cal.subsec else min 32767 (s.rtc.cal.subsec + (s.up - s.rtc.secUp) * 32768 / nsPerS) }

/-! ## Records of the Tally (R639 to R643, R650, R775) -/

/-- Ring-only working: the ring itself is the store (R650). -/
def Evr.ringOnly (e : Evr) : Bool := e.storeState == 0 || e.storeState == 3

/-- Capacity of the ring (R643 to R650). -/
def ringSize : Nat := 8192

/-- The most records that are ever pending (R643). -/
def pendMax : Nat := 1024

/-- The lowest severity, at most `top`, that occurs in a list of severities. -/
def lowestSev : List Nat → Nat → Option Nat
  | [], _ => none
  | x :: xs, top =>
    match lowestSev xs top with
    | none => if x ≤ top then some x else none
    | some v => if x ≤ top ∧ x < v then some x else some v

/-- Remove the first element a test picks. -/
def dropFirst {α : Type} (p : α → Bool) : List α → List α
  | [] => []
  | x :: xs => if p x then xs else x :: dropFirst p xs

/-- Remove the last element a test picks. -/
def dropLast {α : Type} (p : α → Bool) (l : List α) : List α := (dropFirst p l.reverse).reverse

/-- Counts modulo 2^32. -/
def inc32 (n : Nat) : Nat := (n + 1) % 2 ^ 32

/-- Count a record dropped under its severity (R643, R649). -/
def Evr.countDrop (e : Evr) (sev : Nat) (up : Nat) : Evr :=
  { e with dropped := inc32 e.dropped, drop := upd e.drop sev inc32,
           dropLog := ({ severity := sev, up := up } : DropMark) :: e.dropLog.filter (fun m => up < m.up + nsPerS) }

/-- Place a record in the ring as the store itself: R649 applied to the ring slots (R650). -/
def Evr.placeRing (e : Evr) (r : Rec) (up : Nat) : Evr :=
  if e.ring.length < ringSize then { e with ring := e.ring ++ [r], stored := inc32 e.stored }
  else
    match lowestSev (e.ring.map Rec.severity) r.severity with
    | none => e.countDrop r.severity up
    | some v => { e with ring := dropFirst (fun x => x.severity == v) e.ring ++ [r], overwritten := inc32 e.overwritten }

/-- Put a record into the ring of the newest records. -/
def Evr.pushRing (e : Evr) (r : Rec) : Evr :=
  { e with ring := (if e.ring.length < ringSize then e.ring else e.ring.drop 1) ++ [r] }

/-- Make a record pending, displacing or dropping when 1,024 are pending (R643). -/
def Evr.pushPending (e : Evr) (r : Rec) (up : Nat) : Evr :=
  if e.pend.length < pendMax then { e with pend := e.pend ++ [⟨r, up⟩] }
  else
    match (if r.severity = 0 then none else lowestSev (e.pend.map (fun p => p.record.severity)) (r.severity - 1)) with
    | none => e.countDrop r.severity up
    | some v => { (e.countDrop v up) with pend := dropLast (fun p => p.record.severity == v) e.pend ++ [⟨r, up⟩] }

/-- Admission of a numbered record (R641, R643, R650). -/
def Evr.admitNumbered (e : Evr) (r : Rec) (up : Nat) : Evr :=
  let r := { r with seq := some e.nextSeq }
  let e := { e with nextSeq := inc32 e.nextSeq, written := inc32 e.written }
  if e.ringOnly then e.placeRing r up else (e.pushRing r).pushPending r up

/-- Admission: records before the end of S6 wait in the ring without a number (R641). -/
def Evr.receive (e : Evr) (r : Rec) (up : Nat) : Evr :=
  if e.numbered then e.admitNumbered r up else e.pushRing r

/-- SOURCE of an event (R775); p0 is its parameter 0. -/
def sourceOf (s : State) (code : Nat) (p0 : Nat) : Nat :=
  match code / 256 with
  | 1 => if code = 0x0103 ∨ code = 0x0104 then 48 else if s.saf.checker then 33 else 6
  | 2 => if s.saf.checker then 33 else 6
  | 3 => if s.saf.checker then 33 else 6
  | 4 => 38
  | 5 => 39
  | 6 => if code = 0x0604 then 7
         else if code = 0x0605 ∨ code = 0x0606 then (if p0 < 32 then 8 else 9) else 1
  | 7 => 10
  | 8 => if code = 0x0808 then 11 else 1
  | 9 => if code = 0x090C then 11 else 1
  | 10 => 0
  | 11 => if code = 0x0B02 ∨ code = 0x0B03 then 0
          else if code = 0x0B04 ∨ code = 0x0B09 ∨ code = 0x0B0A ∨ 0x0B0C ≤ code then 2 else 12
  | 12 => if 0x0C0A ≤ code then 13 + p0 / 8 else 49
  | 13 => if code = 0x0D0B then (if bitAt s.saf.frozen 3 then 0 else 3) else 40 + p0
  | 14 => if code ≤ 0x0E03 then 36 else 4
  | 15 => 4
  | 16 => 32
  | 17 => 35
  | 18 => 34
  | 19 => if s.boot.fwRuns then 5 else 37
  | _ => 5

/-- The state of the tick source (R66, R80). -/
def Tim.selState (m : Tim) : DomState :=
  match m.sel with
  | 0 => m.a.state
  | 1 => m.b.state
  | 2 => m.backupState
  | _ => .none

/-- TAI − UTC before the counters are loaded: the saved value, the image's default, or 37 s (R640). -/
def State.earlyTaiUtc (s : State) : Int :=
  match s.rtc.save with
  | some v => v.taiUtc
  | none => if s.imageOk then s.image.time.taiUtcDefault else 37

/-- Time of a record, ns since the PTP epoch: system time, or the calendar's before S9 (R640). -/
def State.recTime (s : State) : Nat :=
  if s.tim.loaded then s.sysNow
  else if s.rtc.valid then (calNs s.calNow + s.earlyTaiUtc * nsPerS).toNat
  else 0

/-- System time stepped within the last second (R102). -/
def State.stepped (s : State) : Bool :=
  match s.tim.steppedAt with
  | some u => decide (s.up < u + nsPerS)
  | none => false

/-- A record as it is made, before its number is given (R639, R775). -/
def mkRec (s : State) (code sev : Nat) (p0 p1 p2 p3 : Int) : Rec :=
  let tm := s.recTime
  { code := code, severity := sev, source := sourceOf s code p0.toNat, start := s.sys.state == .start,
    active := s.sys.state == .active, role := s.pin.strapRole,
    timeFree := !s.tim.loaded || s.tim.selState == .freerun, stepped := s.stepped, seq := none,
    seconds := tm / nsPerS % 2 ^ 32, ns := tm % nsPerS,
    p0 := wordI p0, p1 := wordI p1, p2 := wordI p2, p3 := wordI p3 }

/-- SEV_MIN of the block an event code belongs to (R642). -/
def State.sevMin (s : State) (code : Nat) : Nat := (assoc s.image.events.sevMin (code / 256)).getD 0

/-- Record EVR_DROP for a severity when none was recorded within a second (R660). -/
def noteDrop (sev whereIs : Nat) (s : State) : State :=
  if oncePerSecond (nth s.evr.dropRec sev none) s.up && decide (s.sevMin 0x1105 ≤ 3) then
    let n := (s.evr.dropLog.filter (fun m => m.severity == sev)).length
    let r := mkRec s 0x1105 3 sev n whereIs s.tickNo
    { s with evr := { (s.evr.receive r s.up) with dropRec := put s.evr.dropRec sev (some s.up) } }
  else s

/-- Record an event (R59, R642): nothing below SEV_MIN of its block, and nothing of fusion, control or allocation while the computation is a shadow (R583); a loss on admission is noted as EVR_DROP. -/
def record (code sev : Nat) (p0 p1 p2 p3 : Int) (s : State) : State :=
  if sev < s.sevMin code || (s.twn.shadow.isSome && (code / 256 == 9 || code / 256 == 10 || code / 256 == 11)) then s
  else
    let e' := s.evr.receive (mkRec s code sev p0 p1 p2 p3) s.up
    let s' := { s with evr := e' }
    if e'.dropped = s.evr.dropped then s'
    else
      match e'.dropLog with
      | m :: _ => noteDrop m.severity (if s.evr.ringOnly then 1 else 0) s'
      | [] => s'

/-- Record an event when a condition holds. -/
def recordIf (c : Bool) (code sev : Nat) (p0 p1 p2 p3 : Int) (s : State) : State :=
  if c then record code sev p0 p1 p2 p3 s else s

/-! ## Codes of states (R61, R80) -/

/-- SYS_HEALTH.STATE; OFF has no code of its own and reports nothing. -/
def devCode : DevState → Nat
  | .off => 0 | .start => 0 | .standby => 1 | .active => 2 | .harbourWatch => 3 | .failed => 4

/-- State codes of a time domain (R80). -/
def domCode : DomState → Nat
  | .none => 0 | .gnssLocked => 1 | .ptpLocked => 2 | .acquiring => 3 | .holdover => 4 | .freerun => 5

/-- A domain that is GNSS-locked or PTP-locked (R80). -/
def domLocked : DomState → Bool
  | .gnssLocked => true
  | .ptpLocked => true
  | _ => false

/-! ## Presence of masters and domains (R54, R608, R614, R773) -/

/-- A clock domain or reference input is lost (R32). -/
def State.clkLost (s : State) (d : Nat) : Bool := bitAt s.clk.lost d

/-- A clock domain runs and is not lost (R32, CLK_STATUS). -/
def State.domOk (s : State) (d : Nat) : Bool := bitAt s.clk.running d && !bitAt s.clk.lost d

/-- A master is clocked: every domain it runs on is running (engine table of the architecture chapter). -/
def State.clocked (s : State) (m : Nat) : Bool :=
  if m ≤ 5 then s.domOk 0
  else if m = 6 then s.domOk 2
  else if m = 7 then s.domOk 8 && s.domOk 1
  else if m ≤ 9 then s.domOk 8
  else if m = 10 then s.domOk 10
  else if m ≤ 12 then s.domOk 1
  else s.domOk 0

/-- A master works: clocked and not frozen. -/
def State.works (s : State) (m : Nat) : Bool := s.clocked m && !bitAt s.saf.frozen m

/-! ## Claims and gates (R609 to R611, R723 to R726) -/

/-- An accepted claim of the image holds the feature (R724). -/
def State.claimed (s : State) (f : Feature) : Bool :=
  (List.range s.pin.claims.length).any
    (fun i => bitAt s.pin.accepted i && (match s.pin.claims[i]? with | some c => c.feature == f | none => false))

/-- The gates of every claimed output (R610). -/
def State.claimedPwm (s : State) : BitVec 16 := maskOf 16 (fun k => s.claimed (.pwm k))
def State.claimedMbc (s : State) : BitVec 8 := maskOf 8 (fun n => s.claimed (.mbc n))
def State.claimedPdiv (s : State) : BitVec 4 := maskOf 4 (fun p => s.claimed (.pdiv p))
def State.claimedSync (s : State) : BitVec 8 := maskOf 8 (fun k => s.claimed (.syncOut k))

/-- SAF_GATE_0 (R638). -/
def Saf.gate0 (f : Saf) : Word :=
  packWord [(0, 16, f.gatePwm.toNat), (16, 8, f.gateMbc.toNat), (24, 4, f.gatePdiv.toNat)]

/-- SAF_GATE_1 (R638). -/
def Saf.gate1 (f : Saf) : Word := packWord [(0, 8, f.gateSync.toNat)]

/-- The level read on the OUT_EN_MON ball (R631). -/
def Saf.outenRead (f : Saf) : Bool := f.outenHeld.getD f.outenDrive

/-- Drive OUT_EN_MON; fault 10 is present while the ball differs (R629, R631). -/
def driveOuten (b : Bool) (s : State) : State :=
  let saf := { s.saf with outenDrive := b }
  { s with saf := { saf with present := setBit saf.present 10 (bitAt saf.present 10 && saf.outenRead != b) } }

/-- SP opens the gates of every claimed output (R611). -/
def openGates (s : State) : State :=
  let s := { s with saf := { s.saf with
                              gatePwm := s.claimedPwm, gateMbc := s.claimedMbc,
                              gatePdiv := s.claimedPdiv, gateSync := s.claimedSync, mbcClosing := 0, keepAlive := true } }
  let s := driveOuten true s
  record 0x0209 4 1 s.saf.gate0.toNat s.saf.gate1.toNat s.tickNo s

/-- Exit from ACTIVE other than by OUTPUTS OFF: PWM, PDIV and SYNC gates close now, an MBC gate at the end of a frame in transmission (R611). `sending` are the controllers with a frame in transmission. -/
def closeGates (sending : BitVec 8) (s : State) : State :=
  let s := { s with saf := { s.saf with
                              gatePwm := 0, gatePdiv := 0, gateSync := 0,
                              gateMbc := s.saf.gateMbc &&& sending, mbcClosing := s.saf.gateMbc &&& sending,
                              roleConfirmed := false } }
  let s := driveOuten false s
  record 0x0209 4 0 s.saf.gate0.toNat s.saf.gate1.toNat s.tickNo s

/-- OUTPUTS OFF: both gate registers clear and the keep-alive stops in one SAFE cycle (R611). -/
def cutGates (s : State) : State :=
  let s := { s with saf := { s.saf with
                              gatePwm := 0, gatePdiv := 0, gateSync := 0, gateMbc := 0, mbcClosing := 0,
                              keepAlive := false, roleConfirmed := false } }
  driveOuten false s

/-! ## Service level (R54 to R57, R614, R773) -/

/-- An MBC counts towards level 2, or the image enables none and drives its axes by PWM (R55). -/
def State.busNeed (s : State) : Bool :=
  if s.image.bus.mbcEn = 0 then s.claimedPwm != 0
  else s.domOk 9 && (List.range 8).any (fun n => bitAt s.image.bus.mbcEn n && (nth s.mbcs n {}).errState != 3)

/-- A time base of any quality runs (level 3). -/
def State.timeRuns (s : State) : Bool := s.tim.sel != 3

/-- The maintenance SPI port or port P0 is served (R55); the port is always served at level 0. -/
def State.portServed (s : State) : Bool := s.image.clocks.spiMaintEn || (s.domOk 3 && s.domOk 13)

/-- The highest level whose units are all present, clocked and not frozen (R54, R614). -/
def State.levelUnits (s : State) : Nat :=
  if !(s.domOk 0 && s.domOk 12 && s.domOk 3 && s.domOk 13 && s.works 4 && s.works 5) then 0
  else if !(s.works 0 && s.works 10 && s.works 13 && s.works 14 && s.works 15 && s.works 16 && s.domOk 10
            && !s.clkLost 9 && s.busNeed) then 1
  else if !(s.works 1 && s.works 2 && s.works 3 && s.works 11 && s.works 12 && s.timeRuns) then 2
  else 3

/-- The level the device state permits (table of device states, R688). -/
def State.levelNow (s : State) : Nat :=
  match s.sys.state with
  | .off | .start | .failed => 0
  | .harbourWatch => min 1 s.levelUnits
  | .standby | .active => s.levelUnits

/-- The mask of missing units (R773). -/
def State.missingMask (s : State) : Nat :=
  (maskOf 17 (fun m => !s.works m)).toNat + (s.clk.lost.toNat) * 2 ^ 17
    + b2n (!s.portServed || !s.busNeed || !s.timeRuns) * 2 ^ 31

/-! ## The heartbeat and the health word (R61, R568, R616) -/

/-- Any fault of effective class HANDOVER is present: HANDOVER_REQ (R622). -/
def faultClass0 (fid : Nat) : Nat := if fid ≤ 6 then 3 else if fid ≤ 12 then 2 else if fid ≤ 18 then 1 else 0

/-- The class of a fault with the image's REACT_RAISE (R624, R626). -/
def State.faultClassImg (s : State) (fid : Nat) : Nat :=
  if fid < 7 then faultClass0 fid else max (faultClass0 fid) ((assoc s.image.pins.reactRaise fid).getD 0)

/-- The class in force, with the raising of R623 at detection. -/
def State.faultClass (s : State) (fid : Nat) : Nat :=
  if bitAt s.saf.raised fid then max 2 (s.faultClassImg fid) else s.faultClassImg fid

/-- The highest class present (SAF_STATUS.CLASS). -/
def State.classPresent (s : State) : Nat :=
  (bitsOf s.saf.present).foldl (fun c f => max c (s.faultClass f)) 0

/-- HANDOVER_REQ: a fault of class HANDOVER is present (R622, R627). -/
def State.handoverReq (s : State) : Bool := (bitsOf s.saf.present).any (fun f => s.faultClass f == 2)

/-- FAULT_N is asserted (R629). -/
def State.faultOut (s : State) : Bool := !s.saf.s1Passed || s.sys.state == .failed || s.saf.checker

/-- ALARM_N is asserted (R629). -/
def State.alarmOut (s : State) : Bool :=
  s.faultOut || (bitsOf s.saf.present).any (fun f => s.faultClass f == 1 || s.faultClass f == 2)
    || (bitsOf s.saf.unack).any (fun f => s.faultClass f == 1 || s.faultClass f == 2)

/-- DUPLICATE (R556). -/
def Twn.duplicate (w : Twn) : Bool := w.dupUp.isSome

/-- SYS_HEALTH (R61). -/
def State.healthWord (s : State) : Word :=
  packWord [(24, 8, s.sys.healthSeq), (19, 1, b2n (s.clk.lost != 0)), (18, 1, b2n s.sys.eccUncorr),
    (17, 1, b2n (s.saf.frozen != 0)), (16, 1, b2n s.als.fallback), (14, 2, s.tks.missRun),
    (13, 1, b2n s.tks.missLast), (12, 1, b2n s.twn.shadowMatch), (11, 1, b2n (s.gnb.sol.solType != 0)),
    (10, 1, b2n (domLocked s.tim.selState)), (9, 1, b2n (s.imageOk && s.image.twin.triad)), (8, 1, b2n s.pin.strapHome),
    (6, 2, s.pin.strapRole), (3, 3, devCode s.sys.state), (0, 3, s.sys.level)]

/-- LAYUP: in HARBOUR WATCH or holding HW_ARM (R568). -/
def State.layupFlag (s : State) : Bool := s.sys.state == .harbourWatch || s.rtc.hwArm

/-- The role at the other end of a Carry link (table of Carry link wiring). -/
def peerOfLink (triad : Bool) (role l : Nat) : Nat := if triad then (role + 1 + l) % 3 else 1 - role

/-- A Carry link in use is up (R554, R603). -/
def State.linkUp (s : State) (l : Nat) : Bool := bitAt s.image.twin.linkUse l && (nth s.twn.links l {}).up

/-- No link that joins this unit and the active unit is up (LINKS bit 2 of the heartbeat). -/
def State.directDown (s : State) : Bool :=
  decide (s.twn.activeRole < 3) && s.twn.activeRole != s.pin.strapRole
    && !(List.range 2).any (fun l => peerOfLink s.image.twin.triad s.pin.strapRole l == s.twn.activeRole && s.linkUp l)

/-- Consecutive ticks missed for the active unit (TWN_STATUS.HB_MISS). -/
def State.hbMiss (s : State) : Nat := if s.twn.activeRole = s.pin.strapRole then 0 else (nth s.twn.peers s.twn.activeRole {}).miss

/-- PROBATION: the first 2 ticks as ACTIVE after a takeover under cause 0 (R579). -/
def State.inProbation (s : State) : Bool := match s.twn.probation with | some k => decide (s.tks.tickExt < k + 2) | none => false

/-- The heartbeat the unit sends (R568). -/
def State.heartbeat (s : State) (urgent takeover : Bool) : Heartbeat :=
  { format := Config.carryFormat, triad := s.image.twin.triad, role := s.pin.strapRole, health := s.healthWord, state := s.sys.state, level := s.sys.level,
    home := s.pin.strapHome, synced := s.twn.synced, shadowFault := s.twn.shadowFault, handoverReq := s.handoverReq,
    duplicate := s.twn.duplicate, urgent := urgent, holdReturn := s.twn.holdReturn, takeover := takeover,
    mismatch := s.twn.mismatch, layup := s.layupFlag, epoch := s.twn.epoch, tickNo := wordN s.tickNo,
    carryTx := s.twn.carryTx, carryRx := s.twn.carryRx,
    handoverAt := (match s.twn.handover with | some h => wordN h.at_ | none => 0),
    shadowCrc := if s.twn.synced then s.twn.shadowCrc else 0, imageId := s.image.id,
    seen := maskOf 3 (fun r => (nth s.twn.peers r {}).pathsLast != 0),
    links := packWord [(0, 1, b2n (nth s.twn.links 0 {}).up), (1, 1, b2n (nth s.twn.links 1 {}).up), (2, 1, b2n s.directDown)] |>.setWidth 3 }

/-- The unit sends heartbeats: in START from S8, and in STANDBY, ACTIVE, HARBOUR WATCH and FAILED (R568). -/
def State.sendsHeartbeat (s : State) : Bool :=
  match s.sys.state with
  | .off => false
  | .start => decide (8 ≤ s.boot.step)
  | _ => true

/-- An extra heartbeat with URGENT (R568). -/
def urgentHeartbeat (takeover : Bool) (s : State) : State :=
  if s.sendsHeartbeat then emit (.heartbeat (s.heartbeat true takeover)) s else s

/-! ## What the blocks do when the unit leaves ACTIVE or AP3 stops -/

/-- Controllers with a frame in transmission, as last known. -/
def State.sendingMask (s : State) : BitVec 8 := maskOf 8 (fun n => (nth s.mbcs n {}).wire.isSome)

def updMbc (n : Nat) (f : Mbc → Mbc) (s : State) : State := { s with mbcs := upd s.mbcs n f }
def State.mbc (s : State) (n : Nat) : Mbc := nth s.mbcs n {}

/-- Counts of the buses run modulo 65,536 (R501). -/
def inc16 (n : Nat) : Nat := (n + 1) % 65536

/-- Set the outcome and the counts of a transmit buffer from a frame. -/
def txOutcome (f : CanTx) (code : Nat) (s : State) : State :=
  updMbc f.home (fun m => { m with bufs := upd m.bufs f.buf (fun b => { b with outcome := code, arbLost := f.arbLost, errs := f.errs }) }) s

/-- A frame pending on controller n is cancelled: 3 by command or state, 6 RETRY, 7 SUPERSEDED (R468 to R470). -/
def txCancelled (n : Nat) (f : CanTx) (code : Nat) (s : State) : State :=
  txOutcome f code (updMbc n (fun m => { m with cancelled := inc16 m.cancelled, txq := m.txq.filter (fun g => !(g.entry == f.entry && g.home == f.home)) }) s)

/-- A frame staged behind one in transmission is cancelled with it. -/
def stagedCancelled (n : Nat) (f : CanTx) (s : State) : State :=
  match f.staged with
  | some _ => updMbc n (fun m => { m with cancelled := inc16 m.cancelled, txq := m.txq.map (fun g => if g.entry == f.entry && g.home == f.home then { g with staged := none } else g) }) s
  | none => s

/-- One controller cancels its pending frames; one in transmission completes unless the gate is cut (R469, R470). -/
def mbcCancel (cut : Bool) (s : State) (n : Nat) : State :=
  let m := s.mbc n
  let s := m.txq.foldl (fun s f =>
    let s := stagedCancelled n f s
    if m.wire = some f.entry ∧ ¬ cut then updMbc n (fun m => { m with txq := m.txq.map (fun g => if g.entry == f.entry then { g with cancel := true } else g) }) s
    else txCancelled n f 3 s) s
  if cut then updMbc n (fun m => { m with wire := none }) s else s

/-- Cancel the pending frames of every controller (R470). -/
def mbcCancelAll (s : State) : State := (List.range 8).foldl (mbcCancel false) s
/-- The same when the gates are cut: a frame in transmission is cut short (R470, R611). -/
def mbcCutAll (s : State) : State := (List.range 8).foldl (mbcCancel true) s

/-- Error state from the counters: 0 active, 1 warning, 2 passive, 3 bus-off (R472). -/
def errStateOf (tec rec_ : Nat) : Nat :=
  if 255 < tec then 3 else if 128 ≤ tec ∨ 128 ≤ rec_ then 2 else if 96 ≤ tec ∨ 96 ≤ rec_ then 1 else 0

/-- The mode of a controller for the device state (R454, R492): 0 OFF, 1 integration, 2 NORMAL, 3 bus monitoring, 4 SLEEP. A controller in integration stays so. -/
def State.mbcMode (s : State) (n : Nat) (d : DevState) : Nat :=
  let m := s.mbc n
  if ¬ bitAt s.image.bus.mbcEn n then 0
  else
    match d with
    | .off | .start => m.mode
    | .active => if m.mode = 1 then 1 else 2
    | .harbourWatch => if (nth s.image.bus.mbcs n {}).sleepHw then 4 else if m.mode = 1 then 1 else 3
    | _ => if m.mode = 1 then 1 else 3

/-- Controllers take the mode of a device state; in bus monitoring the transmit error counter stays at 0 (R454, R492, R501). -/
def mbcModes (d : DevState) (s : State) : State :=
  (List.range 8).foldl (fun s n =>
    let old := s.mbc n
    let mode := s.mbcMode n d
    let tec := if mode = 2 ∨ mode = old.mode then old.tec else 0
    let st := if mode = 2 ∨ mode = old.mode then old.errState else errStateOf 0 old.rec_
    let s := updMbc n (fun m => { m with mode := mode, tec := tec, errState := st, recovering := if st = 3 then m.recovering else none
                                         wake := if old.mode = 4 ∧ mode ≠ 4 then 3 else m.wake
                                         goodSince := if st < 2 ∧ 2 ≤ old.errState then some s.tks.tickExt else m.goodSince
                                         failedOver := if d = .active then m.failedOver else none }) s
    recordIf (st != old.errState) 0x0D01 4 n st tec old.rec_ s) s

/-- The network side of leaving ACTIVE: waiting external writes are dropped and counted (R564), commands not applied are forgotten without a reply (R526), ACTIVE_IP is released (R515). -/
def netLeaveActive (s : State) : State :=
  let s := { s with pim := { s.pim with wait := [], rejStandby := satAdd s.pim.rejStandby s.pim.wait.length 65535 }
                    net := { s.net with cmdsIn := [], cmdsDue := [] } }
  if s.net.activeIp then record 0x0E06 4 0 s.pin.strapRole 0 s.tickNo { s with net := { s.net with activeIp := false } } else s

/-! ## Passage between device states, faults and their reactions (R51, R612, R622 to R627, R772) -/

/-- Take a device state and record the change with its cause code (R51, R772). -/
def enterState (new : DevState) (cause : Nat) (s : State) : State :=
  let old := s.sys.state
  let code := fun (d : DevState) => if d = .off then (Config.offStateCode : Int) else (devCode d : Int)
  let s := mbcModes new { s with sys := { s.sys with state := new } }
  urgentHeartbeat false (record 0x0101 4 (code old) (code new) cause s.tickNo s)

/-- A planned handover is abandoned (R596): cause 0 target lost, 1 fault, 2 no target, 3 takeover. -/
def abortHandover (cause : Nat) (s : State) : State :=
  match s.twn.handover with
  | none => s
  | some h =>
    record 0x1004 4 cause h.target h.at_ s.tickNo { s with twn := { s.twn with handover := none } }

/-- The urgent flush begins, unless one runs already or the Tally is ring-only (R645, R650, R658). -/
def startUrgent (trigger : Nat) (s : State) : State :=
  if s.evr.ringOnly || s.evr.urgent.isSome then s
  else { s with evr := { s.evr with urgent := some { trigger := trigger, since := s.up, count := 0 } } }

/-- The watchdogs armed in a device state (R618). -/
def wdgArmed (d : DevState) (m : Nat) : Bool :=
  match d with
  | .standby | .active => m != 6
  | .harbourWatch => m == 4 || m == 5
  | _ => false

/-- Arm and disarm the watchdogs for the device state; a watchdog newly armed waits for its first kick (R617, R618, R613). -/
def armWatchdogs (s : State) : State :=
  let f := fun (m : Nat) (w : Watchdog) =>
    if wdgArmed s.sys.state m && !bitAt s.saf.frozen m then (if w.armed then w else { armed := true, lastKick := none, second := false })
    else {}
  { s with saf := { s.saf with wdg := (List.range 17).map (fun m => f m (nth s.saf.wdg m {})) } }

/-- Entry to FAILED: level 0 in the same word, watchdogs disarmed, urgent flush; during START the outcome is written (R51, R56, R618, R645, R729). -/
def enterFailed (cause : Nat) (s : State) : State :=
  if s.sys.state = .failed ∨ s.sys.state = .off then s
  else
    let wasStart := s.sys.state == .start
    let wasActive := s.sys.state == .active
    let s := if wasStart then { s with rtc := { s.rtc with startRecs := upd s.rtc.startRecs 0 (fun r => { r with outcome := .failed }) } } else s
    let s := { s with sys := { s.sys with level := 0, levelNext := none } }
    let s := armWatchdogs (enterState .failed cause s)
    let s := if wasActive then (if s.saf.gateMbc = 0 then mbcCutAll (netLeaveActive s) else mbcCancelAll (netLeaveActive s)) else s
    let s := { s with tim := { s.tim with tp := s.tim.tp.map (fun t => { t with run := false }) } }
    startUrgent 2 s

/-- The gates' reaction and entry to FAILED of class OUTPUTS OFF (R611, R622). -/
def outputsOff (fid : Nat) (s : State) : State :=
  let open_ := s.saf.gate0 != 0 || s.saf.gate1 != 0
  let s := cutGates s
  let s := recordIf open_ 0x0209 4 0 0 0 s.tickNo s
  enterFailed (0x0600 + fid) s

/-- Some peer is a SYNCED standby at a level above the one this unit will have (R623). -/
def State.betterStandby (s : State) : Bool :=
  (List.range 3).any (fun r =>
    let p := nth s.twn.peers r {}
    p.known && p.state == .standby && p.synced && decide (s.levelNow < p.level))

/-- The reaction to a fault, after its event and any freeze (R622 to R627). -/
def raiseFault (fid : Nat) (s : State) : State :=
  let up623 := s.faultClassImg fid == 1 && s.sys.state == .active && s.betterStandby
  let s := { s with saf := { s.saf with
      present := setBit s.saf.present fid true, latch := setBit s.saf.latch fid true,
      raised := setBit s.saf.raised fid (bitAt s.saf.raised fid || up623) } }
  let c := s.faultClass fid
  if c = 0 then s
  else
    let s := { s with saf := { s.saf with unack := setBit s.saf.unack fid true } }
    let s := record 0x0203 (4 + c) fid c (b2n (decide (faultClass0 fid < c))) s.tickNo s
    let s := startUrgent (if fid = 9 then 1 else 0) (abortHandover 1 s)
    if c = 3 then outputsOff fid s
    else if c = 2 then urgentHeartbeat false s
    else s

/-- A fault is no longer present (R625). -/
def clearFault (fid : Nat) (s : State) : State :=
  { s with saf := { s.saf with present := setBit s.saf.present fid false, raised := setBit s.saf.raised fid false } }

/-- SP gates a master's clock (R612, R613); a master already frozen stays as it is. -/
def freezeMaster (m cause : Nat) (write : Bool) (detail : Word) (s : State) : State :=
  if bitAt s.saf.frozen m || m = 6 then s
  else
    let s := { s with saf := { s.saf with
        frozen := setBit s.saf.frozen m true,
        freeze := put s.saf.freeze m { cause := cause, write := write, tick := s.tickNo % 2 ^ 28, detail := detail },
        wdg := put s.saf.wdg m {} } }
    record 0x0202 6 m cause detail.toInt s.tickNo s

/-- The fault of a frozen master: freeze and reaction (faults 13 to 17 of R624). -/
def freezeFault (fid m cause : Nat) (write : Bool) (detail : Word) (s : State) : State :=
  if bitAt s.saf.frozen m then s else raiseFault fid (freezeMaster m cause write detail s)

/-! ## The computation of a tick as a shadow -/

/-- Run a computation as the shadow of the tick before: at that tick's number and edge, with the active unit's level and its encoder latches, and with no record and nothing sent (R583). -/
def quietly (f : State → State) (s : State) : State :=
  let win := match s.twn.shadow with | some x => (match x.inputs with | some v => v.encs | none => s.srv.win) | none => s.srv.win
  let s1 := f { s with
    tks := { s.tks with tickExt := s.tks.tickExt - 1, upEdge := s.tks.prevEdge }
    tim := { s.tim with latSys := s.tim.latSys - (s.tks.upEdge - s.tks.prevEdge) }
    sys := { s.sys with level := (nth s.twn.peers s.twn.activeRole {}).level }
    srv := { s.srv with win := win, winTick := (s.tks.tickExt - 1) % 2 ^ 32 } }
  { s1 with
    tks := { s1.tks with tickExt := s.tks.tickExt, upEdge := s.tks.upEdge }
    tim := { s1.tim with latSys := s.tim.latSys }
    sys := { s1.sys with level := s.sys.level }
    srv := { s1.srv with win := s.srv.win, winTick := s.srv.winTick }
    net := { s1.net with owed := s.net.owed }
    evr := s.evr, out := s.out }

/-- The part of a tick's work a command of its own does: as a shadow while one runs. -/
def inTick (f : State → State) (s : State) : State := if s.twn.shadow.isSome then quietly f s else f s

/-! ## The final role decision (R572, R628) -/

/-- The first refusal cause that holds for an entry to ACTIVE; planned tells a planned handover or return. -/
def State.refusalCause (s : State) (planned : Bool) : Option Nat :=
  if s.sys.state = .failed then some 0
  else if s.pin.strapRole = 3 ∨ (s.pin.strapRole = 2 ∧ !s.image.twin.triad) then some 1
  else if s.twn.duplicate then some 2
  else if s.sys.level < 2 then some 3
  else if !s.saf.claimsLocked ∨ !s.saf.fwLocked then some 4
  else if planned && s.handoverReq then some 5
  else if s.saf.outenRead && s.saf.gate0 == 0 && s.saf.gate1 == 0 then some 6
  else none

/-- SP's answer to a request to enter ACTIVE: request 0 start, 1 takeover, 2 planned handover (R628, SAF_ROLE). -/
def confirmActive (request : Nat) (s : State) : Bool × State :=
  match s.refusalCause (request == 2) with
  | none => (true, { s with saf := { s.saf with roleConfirmed := true } })
  | some c =>
    let s := { s with saf := { s.saf with roleConfirmed := false, roleCause := c, roleRefusals := satAdd s.saf.roleRefusals 1 255 } }
    (false, record 0x0208 5 c request 0 s.tickNo s)

end Sys2Proof.Machine
end

