-- ==== Sys2Proof/Machine/Filter.lean ====
section
/-! DEFINITION. The filter and decimation chain: the sinc stage, the FIR round, coefficient banks, swaps and fades (R168 to R199). -/

namespace Sys2Proof.Machine

open Sys2Proof

/-- The image's filter fields. -/
def State.filters (s : State) : ImgFilters := s.image.filters.getD {}

/-- A coefficient bank of the image. -/
def State.bankOf (s : State) (b : Nat) : Option Bank := nth s.filters.banks b none

/-- Channels enabled and present: 24 to 31 only when bank X is claimed for them (R172). -/
def State.dfcPresent (s : State) : BitVec 32 :=
  maskOf 32 (fun k => bitAt s.filters.chEn k && (decide (k < 24) || s.claimed .sdBankX))

def updCh (k : Nat) (f : DfcCh → DfcCh) (s : State) : State := { s with dfc := { s.dfc with chs := upd s.dfc.chs k f } }

/-! ## The sinc stage (R171, R173, R174, R176) -/

/-- Sinc samples kept (R177). -/
def histMax : Nat := 1536

/-- Length of a stuck run, in sampling clocks (R173). -/
def stuckRun : Nat := 4096

/-- Saturation to Q1.23 (R174). -/
def satQ23 (x : Int) : Int := clampI (-8388608) 8388607 x

/-- The sinc sample at a grid point: the combs on the third integrator, at a DC gain of 1 (R174). -/
def sincSample (instant : Int) (lim : Nat) (c : DfcCh) : DfcCh × Option Int :=
  let d1 := c.int3 - c.comb1
  let d2 := d1 - c.comb2
  let d3 := d2 - c.comb3
  let v := satQ23 (d3 * 32)
  let diff := v - nth c.hist 0 0
  let step := lim != 0 && decide (lim < diff.natAbs)
  ({ c with comb1 := c.int3, comb2 := d1, comb3 := d2, phase := 0, hist := (v :: c.hist).take histMax, newest := instant,
            step := c.step || step }, if step then some diff else none)

/-- One bit of the stream: run length, integrators, and a sample every 64 clocks; after a synchronising reset the grid restarts with a point on the tick edge (R174, R186). -/
def feedBit (lim : Nat) (instant : Int) (b : Bool) (c : DfcCh) : DfcCh × Option Int :=
  let run := if b = c.lastBit then c.bitRun + 1 else 1
  let i1 := c.int1 + (if b then 1 else -1)
  let i2 := c.int2 + i1
  let i3 := c.int3 + i2
  let c := { c with lastBit := b, bitRun := run, runInTick := c.runInTick || decide (stuckRun ≤ run), int1 := i1, int2 := i2, int3 := i3 }
  if c.gridWait then
    match c.gridAt with
    | some g => if (g : Int) ≤ instant then sincSample instant lim { c with gridWait := false, gridAt := none } else (c, none)
    | none => (c, none)
  else if c.phase + 1 = 64 then sincSample instant lim c
  else ({ c with phase := c.phase + 1 }, none)

/-- Bits of a channel in order, with the instant of each; the step differences seen. -/
def feedBits (lim : Nat) : List Bool → Int → DfcCh × List Int → DfcCh × List Int
  | [], _, r => r
  | b :: bs, at_, r =>
    let x := feedBit lim at_ b r.1
    feedBits lim bs (at_ + 100) (x.1, match x.2 with | some d => r.2 ++ [d] | none => r.2)

/-- Feed a channel while the sampling clock runs; DFC_STEP at most once a second, and STUCK after a run of 4,096 equal bits (R168, R169, R173, R176). -/
def feed (f : BitFeed) (s : State) : State :=
  let k := f.ch
  if ¬ bitAt s.dfc.chEn k ∨ f.bits = [] ∨ ¬ s.clocked 10 then s
  else
    let first := (s.tks.upEdge : Int) + f.lastNs - 100 * ((f.bits.length : Int) - 1)
    let r := feedBits (nth s.filters.chStepLim k 0) f.bits first (nth s.dfc.chs k {}, [])
    let s := updCh k (fun _ => r.1) s
    let s := match r.2 with
      | d :: _ =>
        if oncePerSecond r.1.stepMark s.up then record 0x0707 2 k d 0 s.tickNo (updCh k (fun c => { c with stepMark := some s.up }) s) else s
      | [] => s
    if r.1.runInTick && !r.1.stuck then
      record 0x0701 4 k (b2n r.1.lastBit) 0 s.tickNo (updCh k (fun c => { c with stuck := true, stuckTicks := 0, cleanTicks := 0 }) s)
    else s

def execSincStep (t : Nat) (f : BitFeed) (s : State) : Host.Outcome State Fault Refusal := .next (feed f (start t s))

/-- The same feed, at the clock that completes a stuck run. -/
def channelStuck (f : BitFeed) (s : State) : State := feed f s

def execDfcChannelStuck (t : Nat) (f : BitFeed) (s : State) : Host.Outcome State Fault Refusal := .next (channelStuck f (start t s))

/-! ## Synchronising resets and swap requests (R186, R188, R190, R195) -/

/-- Post a synchronising reset to channels: cause 0 start, 1 register, 2 IO restored, 3 stuck recovery (R188). -/
def syncReset (mask : BitVec 32) (cause : Nat) (s : State) : State :=
  let m := mask &&& s.dfc.chEn
  if m = 0 then s
  else
    let s := { s with dfc := { s.dfc with chs := (List.range 32).map (fun k =>
        let c := nth s.dfc.chs k {}
        if bitAt m k then { c with resetPending := true } else c) } }
    record 0x0703 2 m.toNat cause 0 s.tickNo s

/-- A channel recovers after 16 ticks without a stuck run, and takes a synchronising reset (R173). -/
def channelRecover (k : Nat) (s : State) : State :=
  let c := nth s.dfc.chs k {}
  if c.stuck && decide (16 ≤ c.cleanTicks) then
    let s := record 0x0702 2 k c.stuckTicks 0 s.tickNo (updCh k (fun c => { c with stuck := false }) s)
    syncReset (maskOf 32 (· == k)) 3 s
  else s

def execDfcChannelRecover (t k : Nat) (s : State) : Host.Outcome State Fault Refusal := .next (channelRecover k (start t s))

/-- Post a swap request; one for an absent channel or an undefined bank is rejected (R190, R195). A fade length outside 1 to 64 rejects it (R199). -/
def postSwap (k bank fade : Nat) (s : State) : State :=
  if fade = 0 ∨ 64 < fade then s
  else if ¬ bitAt s.dfc.chEn k then record 0x0706 3 k bank 0 s.tickNo s
  else if (s.bankOf bank).isNone then record 0x0706 3 k bank 1 s.tickNo s
  else updCh k (fun c => { c with reqs := c.reqs ++ [{ bank := bank, fade := fade }] }) s

/-- The swap rules of a position-control mode are posted on entry to it (R190). -/
def swapRules (mode : Nat) (s : State) : State :=
  (s.filters.swapRules.filter (fun r => r.mode == mode)).foldl
    (fun s r => (bitsOf r.mask).foldl (fun s k => postSwap k r.bank r.fade s) s) s

/-- What the tick edge does: the stuck books of R173 and the grid point of R186. -/
def dfcEdge (up : Nat) (c : DfcCh) : DfcCh :=
  let c := if c.stuck then { c with stuckTicks := c.stuckTicks + 1, cleanTicks := if c.runInTick then 0 else c.cleanTicks + 1 } else c
  { c with runInTick := false, gridAt := if c.gridWait && c.gridAt.isNone then some up else c.gridAt }

/-- The filter chain at start step S10: banks of the image and a synchronising reset of every channel (R188). -/
def dfcStart (s : State) : State :=
  let en := s.dfcPresent
  let s := { s with dfc := { s.dfc with
      chEn := en, sdClkRun := s.filters.sdClkEn
      chs := (List.range 32).map (fun k => { (nth s.dfc.chs k {}) with bank := nth s.filters.chBank k 0 }) } }
  syncReset en 0 s

/-! ## The FIR round (R177 to R183, R191 to R194) -/

/-- Outputs that carry UNSETTLED after a reset or a fade (R187). -/
def settleOf (b : Option Bank) : Nat := match b with | some x => (if x.type = .linear then 12 else 4) | none => 4

/-- Group delay of a bank's type and the channel's skew, 0.1 µs (R179). -/
def delayOf (b : Option Bank) (k : Nat) : Nat :=
  (match b with | some x => (if x.type = .linear then 29000 else 6000) | none => 6000) + 64 * k

/-- The sum of products of a bank with its newest tap at a position of the history; each tap takes the sum of its STRIDE samples (R177). -/
def tapSum : List Int → Nat → List Int → Int
  | [], _, _ => 0
  | c :: cs, stride, h => c * (h.take stride).foldl (· + ·) 0 + tapSum cs stride (h.drop stride)

/-- Rounding and saturation of an output to 32 bits (R182). -/
def satOut (n : Int) (d : Nat) : Int × Bool :=
  let v := roundUpHalf n d
  let w := clampI (-2147483648) 2147483647 v
  (w, w != v)

/-- A bank evaluated for channel k at its target instant: the two sinc positions that bracket it, interpolated linearly (R178, R182). -/
def evaluate (upEdge k : Nat) (b : Option Bank) (c : DfcCh) : Int × Bool :=
  match b with
  | none => (0, false)
  | some x =>
    let target : Int := (upEdge : Int) - 6400 * k - 10 * x.trim
    let back := (c.newest - target).toNat
    let i := back / 6400
    let r := back % 6400
    let e0 := tapSum x.coef x.stride (c.hist.drop i)
    let e1 := tapSum x.coef x.stride (c.hist.drop (i + 1))
    satOut ((6400 - r : Nat) * e0 + r * e1) (6400 * x.stride * 32768)

/-- The weight of output i of a fade over F (R191). -/
def fadeWeight (i f : Nat) : Nat := if i = f then 8388608 else i * 8388608 / f

/-- A slot's work before its output: the pending reset, then the requests in order; the events to record (R186, R190, R192, R194). -/
def slotReset (s : State) (c : DfcCh) : DfcCh :=
  if c.resetPending then
    let bank := match c.queued with | some q => q.bank | none => if c.fading then c.target else c.bank
    { c with hist := [], int1 := 0, int2 := 0, int3 := 0, comb1 := 0, comb2 := 0, comb3 := 0, phase := 0, gridWait := true, gridAt := none
             bank := bank, fading := false, queued := none, settle := settleOf (s.bankOf bank), resetPending := false }
  else c

/-- Start a fade on a channel (R190). -/
def beginFade (k : Nat) (r : SwapReq) (s : State) : State :=
  record 0x0704 1 k (nth s.dfc.chs k {}).bank r.bank r.fade
    (updCh k (fun c => { c with target := r.bank, fadeLen := r.fade, fadeI := 0, fading := true }) s)

/-- One request in a slot (R190, R192). -/
def slotRequest (k : Nat) (s : State) (r : SwapReq) : State :=
  let c := nth s.dfc.chs k {}
  if c.fading then
    let s := updCh k (fun c => { c with queued := some r }) s
    match c.queued with
    | some q => record 0x0705 2 k q.bank r.bank s.tickNo s
    | none => s
  else if r.bank ≠ c.bank then beginFade k r s
  else s

/-- The end of a fade: the target is in use, and a queued request for another bank starts (R192, R193). -/
def endFade (k : Nat) (s : State) : State :=
  let c := nth s.dfc.chs k {}
  let s := updCh k (fun c => { c with bank := c.target, fading := false, settle := settleOf (s.bankOf c.target), queued := none }) s
  match c.queued with
  | some q => if q.bank ≠ c.target then beginFade k q s else s
  | none => s

/-- Count a saturated output; DFC_SAT at most once a second per channel (R182, R198). -/
def noteSat (k : Nat) (s : State) : State :=
  let c := nth s.dfc.chs k {}
  let log := s.up :: c.satLog.filter (fun u => decide (s.up < u + nsPerS))
  let due := oncePerSecond c.satMark s.up
  let s := updCh k (fun c => { c with satCnt := satAdd c.satCnt 1 255, satLog := log, satMark := if due then some s.up else c.satMark }) s
  recordIf due 0x0708 3 k log.length 0 s.tickNo s

/-- What comes before a slot's output: the pending reset, then the requests in their order of arrival (R186, R190, R195). -/
def slotTake (k : Nat) (s : State) : State :=
  let s := updCh k (slotReset s) s
  (nth s.dfc.chs k {}).reqs.foldl (slotRequest k) (updCh k (fun c => { c with reqs := [] }) s)

/-- An output of a fade: the weighted sum of old and new bank, and the fade's next state (R191, R193, R194). -/
def slotFading (k : Nat) (s : State) : DfcOut × State :=
  let c := nth s.dfc.chs k {}
  let i := c.fadeI + 1
  let w := fadeWeight i c.fadeLen
  let old := evaluate s.tks.upEdge k (s.bankOf c.bank) c
  let new := evaluate s.tks.upEdge k (s.bankOf c.target) c
  let y := satOut (old.1 * 8388608 + (new.1 - old.1) * w) 8388608
  let d := roundUpHalf ((8388608 - w : Nat) * delayOf (s.bankOf c.bank) k + w * delayOf (s.bankOf c.target) k) 8388608
  let s := updCh k (fun c => { c with fadeI := i }) s
  ({ value := y.1, sat := y.2 || old.2 || new.2, unsettled := true, fading := true, bank := c.target, delay := d.toNat },
    if i = c.fadeLen then endFade k s else s)

/-- An output outside a fade: the bank's own, UNSETTLED while outputs after a reset or fade remain (R178, R187, R193). -/
def slotPlain (k : Nat) (s : State) : DfcOut × State :=
  let c := nth s.dfc.chs k {}
  let y := evaluate s.tks.upEdge k (s.bankOf c.bank) c
  ({ value := y.1, sat := y.2, unsettled := decide (0 < c.settle), bank := c.bank, delay := delayOf (s.bankOf c.bank) k },
    updCh k (fun c => { c with settle := c.settle - 1 }) s)

/-- The books of a slot: the step mark and what it leaves unsettled, the saturation count, and the outputs still to settle (R176, R182, R195). -/
def slotBooks (k : Nat) (step : Bool) (r : DfcOut × State) : DfcOut × State :=
  let c := nth r.2.dfc.chs k {}
  let longer := step && !c.fading
  let settle := if longer then max c.settle (settleOf (r.2.bankOf c.bank)) else c.settle
  let s := updCh k (fun c => { c with step := false, settle := settle }) r.2
  ({ r.1 with valid := !c.stuck, stuck := c.stuck, unsettled := r.1.unsettled || longer, step := step,
              settleLeft := if c.fading then (c.fadeLen - c.fadeI) + settleOf (r.2.bankOf c.target) else settle },
    if r.1.sat then noteSat k s else s)

/-- The slot of channel k (R180); an absent channel's slot stays idle (R172). -/
def slot (k : Nat) (s : State) : DfcOut × State :=
  if ¬ bitAt s.dfc.chEn k then ({}, s)
  else
    let s := slotTake k s
    slotBooks k (nth s.dfc.chs k {}).step (if (nth s.dfc.chs k {}).fading then slotFading k s else slotPlain k s)

/-- The slots of a round in fixed order. -/
def slots : List Nat → State → List DfcOut → List DfcOut × State
  | [], s, outs => (outs, s)
  | k :: ks, s, outs => let r := slot k s; slots ks r.2 (outs ++ [r.1])

/-- The filter engine runs a round: its domain runs and it is not frozen (R180, R189). -/
def State.dfcRuns (s : State) : Bool := s.tks.running && s.works 10

/-- The round of the tick: each channel is fed its bits, then served in its slot (R180, R194). -/
def firRound (fs : List BitFeed) (s : State) : State :=
  if s.dfcRuns then
    let s := fs.foldl (fun s f => feed f s) s
    let r := slots (List.range 32) s []
    { r.2 with dfc := { r.2.dfc with next := some (s.tickNo, r.1) } }
  else s

def execFirRound (t : Nat) (fs : List BitFeed) (s : State) : Host.Outcome State Fault Refusal := .next (firRound fs (start t s))

/-- The outputs are placed in the window as a whole at the end of the round (R181). -/
def firRoundEnd (s : State) : State :=
  match s.dfc.next with
  | some r =>
    if s.dfcRuns then { s with dfc := { s.dfc with win := r.2, roundTick := r.1, roundEnd := min 255 (s.tks.sinceEdge / 1000), next := none } } else s
  | none => s

def execFirRoundEnd (t : Nat) (s : State) : Host.Outcome State Fault Refusal := .next (firRoundEnd (start t s))

/-- P0 latches the window (R181). -/
def dfcLatch (s : State) : State := { s with dfc := { s.dfc with lat := s.dfc.win, latTick := s.dfc.roundTick } }

end Sys2Proof.Machine
end

