-- ==== Sys2Proof/Machine/TimeOps.lean ====
section
/-! DEFINITION. The two time domains and system time: data sets and the order of quality, loss and return of a source, the measurement of an offset, the change of tick source, and steps (R62 to R107, R776 to R778). -/

namespace Sys2Proof.Machine

open Sys2Proof

/-! ## The domains (R62, R65) -/

/-- Domain d: 0 is A, 1 is B. -/
def State.dom (s : State) (d : Nat) : Dom := if d = 0 then s.tim.a else s.tim.b

/-- The image's fields of domain d. -/
def State.imgDom (s : State) (d : Nat) : ImgDomain := if d = 0 then s.image.time.domA else s.image.time.domB

/-- Replace a domain. -/
def setDom (d : Nat) (v : Dom) (s : State) : State :=
  if d = 0 then { s with tim := { s.tim with a := v } } else { s with tim := { s.tim with b := v } }

/-- Change a domain. -/
def updDom (d : Nat) (f : Dom → Dom) (s : State) : State := setDom d (f (s.dom d)) s

/-- The domain counter now, ns since the PTP epoch (R67). Within a tick it advances with the command's instant. -/
def State.domNow (s : State) (d : Nat) : Nat := (s.dom d).ctr + s.tks.sinceEdge

/-- A stamp taken on a domain clock has 4 ns resolution (R68). -/
def stamp4 (n : Nat) : Nat := n / 4 * 4

/-- A time moved by a signed amount, not below the epoch. -/
def shift (n : Nat) (d : Int) : Nat := ((n : Int) + d).toNat

/-- Time in HOLDOVER or FREERUN, ns; 0 in the other states (HOLD_S). -/
def Dom.holdNs (m : Dom) (up : Nat) : Nat :=
  match m.state with
  | .holdover | .freerun => ((up : Int) - m.holdFrom).toNat
  | _ => 0

/-! ## Data sets (R78 to R81, R96) -/

/-- The clockIdentity formed from a MAC address (R78). -/
def clockIdentity (mac : BitVec 48) : BitVec 64 :=
  BitVec.ofNat 64 (mac.toNat / 2 ^ 24 * 2 ^ 40 + 0xFFFE * 2 ^ 24 + mac.toNat % 2 ^ 24)

/-- The unit's own MAC address (R514). -/
def State.ownMac (s : State) : BitVec 48 := match nth s.image.net.roles s.pin.strapRole none with | some a => a.mac | none => 0

/-- The unit's own clockIdentity. -/
def State.ownId (s : State) : BitVec 64 := clockIdentity s.ownMac

/-- The clockClass of the domain: as grandmaster by the domain states table (R80), as slave the own class of R81. -/
def State.ownClass (s : State) (d : Nat) : Nat :=
  let m := s.dom d
  if !(s.imgDom d).gmCand then 255
  else if m.gm then
    match m.state with
    | .gnssLocked => 6
    | .acquiring => if m.secondWaits then 7 else 6
    | .holdover => 7
    | _ => 248
  else if s.tim.gnssValid then 6
  else if m.state = .holdover ∨ (m.state = .ptpLocked ∧ (m.gmClass = 6 ∨ m.gmClass = 7)) then 7
  else 248

/-- Bounds of the clockAccuracy codes 0x17 to 0x2F, in 0.1 ps (IEEE 1588-2019). -/
def accBound (i : Nat) : Nat := (if i % 2 = 0 then 10 else 25) * 10 ^ (i / 2)

/-- The smallest clockAccuracy code that covers an error in 0.1 ps; 0xFE beyond 10 s (R96). -/
def accCode (err : Nat) : Nat :=
  match (List.range 25).find? (fun i => decide (err ≤ accBound i)) with
  | some i => 0x17 + i
  | none => if err ≤ 10 ^ 14 then 0x30 else 0xFE

/-- The clockAccuracy of the domain (R96). -/
def State.ownAcc (s : State) (d : Nat) : Nat :=
  let m := s.dom d
  match m.state with
  | .holdover | .freerun => accCode (m.holdNs s.up * s.image.time.holdRatePpb / 100000)
  | .gnssLocked => 0x21
  | .ptpLocked => if s.ownClass d = 6 then 0x21 else m.gmAcc
  | _ => 0xFE

/-- A leap second of a sign ends the current UTC day (TIM_UTC). -/
def State.leapNow (s : State) (positive : Bool) : Bool :=
  match s.tim.utc.leap with
  | some p => p.positive == positive && decide (p.at_ ≤ s.sysNow / nsPerS + 86401)
  | none => false

/-- The unit's own data set for a domain (R79, R81). -/
def State.ownSet (s : State) (d : Nat) : Announce :=
  { src := { clock := s.ownId, port := 1 }, gmId := s.ownId,
    priority1 := nth s.image.time.priority1 s.pin.strapRole 128, cls := s.ownClass d, acc := s.ownAcc d,
    var := Config.ownVariance, priority2 := nth s.image.time.priority2 s.pin.strapRole 128, steps := 0,
    taiUtc := s.tim.utc.taiUtc, utcValid := s.tim.utc.valid, leap61 := s.leapNow true, leap59 := s.leapNow false,
    timeSource := if (s.dom d).state = .gnssLocked then 0x20 else 0xA0, ptpTimescale := true }

/-- The first of two lists that is lower, reading left to right. -/
def lexLt : List Nat → List Nat → Bool
  | a :: as, b :: bs => if a < b then true else if b < a then false else lexLt as bs
  | _, _ => false

/-- The default data set comparison of IEEE 1588-2019: whether a is better than b (R72). -/
def betterSet (a b : Announce) : Bool :=
  if a.gmId = b.gmId then lexLt [a.steps, a.src.clock.toNat, a.src.port] [b.steps, b.src.clock.toNat, b.src.port]
  else lexLt [a.priority1, a.cls, a.acc, a.var, a.priority2, a.gmId.toNat]
             [b.priority1, b.cls, b.acc, b.var, b.priority2, b.gmId.toNat]

/-- An interval of 2^k seconds, ns. -/
def logNs (k : Int) : Nat := if 0 ≤ k then nsPerS * 2 ^ k.toNat else nsPerS / 2 ^ (-k).toNat

/-- A master is qualified when two of its Announces have come within four intervals (PRESUMED: IEEE 1588-2019). -/
def qualified (f : ForeignMaster) : Bool := decide (2 ≤ f.count ∧ f.ann.steps < 255)

/-- The best qualified master of a domain; the lowest-numbered of equal ports (R77). -/
def bestMaster (l : List ForeignMaster) : Option ForeignMaster :=
  (l.filter qualified).foldl
    (fun b f =>
      match b with
      | none => some f
      | some g => if betterSet f.ann g.ann || (!betterSet g.ann f.ann && decide (f.port < g.port)) then some f else some g)
    none

/-! ## The order of quality (R90) -/

/-- Rank 1 of the order of quality: lower is better. -/
def stateRank : DomState → Nat
  | .gnssLocked | .ptpLocked => 0
  | .acquiring => 1
  | .holdover => 2
  | .freerun => 3
  | .none => 4

/-- The ranks of a domain's quality. While this unit is grandmaster its own set stands for the grandmaster's. -/
def State.quality (s : State) (d : Nat) : List Nat :=
  let m := s.dom d
  if m.gm then [stateRank m.state, s.ownClass d, s.ownAcc d, Config.ownVariance, m.holdNs s.up]
  else [stateRank m.state, m.gmClass, m.gmAcc, m.gmVar, m.holdNs s.up]

/-- The better of A and B; a tie selects A. -/
def State.bestDom (s : State) : Nat := if lexLt (s.quality 1) (s.quality 0) then 1 else 0

/-- The other domain is better than the tick source. -/
def State.otherBetter (s : State) : Bool := decide (s.tim.sel < 2) && s.bestDom != s.tim.sel

/-- Keep the instant since which the other domain has been better (SEL_PENDING). -/
def watchSel (s : State) : State :=
  let b := s.otherBetter
  { s with tim := { s.tim with
      betterSince := if b then some (s.tim.betterSince.getD s.up) else none, selFell := s.tim.selFell && b } }

/-- Put a domain in a state, noting a fall of the tick source in rank 1. -/
def setDomState (d : Nat) (st : DomState) (s : State) : State :=
  let fell := s.tim.sel = d ∧ stateRank (s.dom d).state < stateRank st
  let s := updDom d (fun m => { m with state := st }) s
  { s with tim := { s.tim with selFell := s.tim.selFell || decide fell } }

/-! ## Loss of a source (R83, R87, R94, R107) -/

/-- Time-weighted sum of a frequency history, newest first, over the instants from lo to hi. -/
def freqSum : List FreqMark → Nat → Nat → Int
  | [], _, _ => 0
  | m :: ms, lo, hi => m.freq * ((hi - max lo m.at_ : Nat) : Int) + (if m.at_ ≤ lo then 0 else freqSum ms lo (min hi m.at_))

/-- The mean of the frequency correction over the last 60 s locked, or since the domain locked (R94). -/
def Dom.heldMean (m : Dom) (left : Nat) : Int :=
  let lo := max m.lockedAt (left - 60 * nsPerS)
  if left ≤ lo then m.freq else roundAway (freqSum m.freqHist lo left) (left - lo)

/-- Note a change of the frequency correction while locked. -/
def Dom.markFreq (m : Dom) (up : Nat) : Dom :=
  { m with freqHist := { at_ := up, freq := m.freq } ::
      (m.freqHist.takeWhile (fun x => decide (up < x.at_ + 60 * nsPerS))
        ++ ((m.freqHist.dropWhile (fun x => decide (up < x.at_ + 60 * nsPerS))).take 1)) }

/-- A domain that leaves a locked state. -/
def Dom.leaveLock (m : Dom) (up : Nat) : Dom := { m with leftLockAt := up }

/-- What a domain is once its source is lost (R94): locked, it holds the mean; in ACQUIRING, by the first case that applies. -/
def Dom.lose (m : Dom) (up : Nat) : Dom :=
  let m := { m with med := [], lockRun := 0, slew := none, stepPending := none, secondWaits := false }
  match m.state with
  | .gnssLocked | .ptpLocked =>
    { m with freq := m.heldMean up, holdFrom := (up : Int), leftLockAt := up }
  | .acquiring =>
    if m.lockedEver then { m with freq := m.heldMean m.leftLockAt, holdFrom := (m.leftLockAt : Int) }
    else match m.heldAtS9 with
      | some f => { m with freq := f }
      | none => { m with freq := 0, holdFrom := (up : Int) }
  | _ => m

/-- The state a domain takes when its source is lost (R94). -/
def Dom.lostState (m : Dom) : DomState :=
  match m.state with
  | .gnssLocked | .ptpLocked => .holdover
  | .acquiring => if m.lockedEver || m.heldAtS9.isSome then .holdover else .freerun
  | x => x

/-- A domain loses its source: TIM_LOST with its cause (R83, R84, R87, R94). -/
def loseSource (d cause : Nat) (s : State) : State :=
  let m := s.dom d
  if domLocked m.state || m.state == .acquiring then
    let s := setDomState d m.lostState (setDom d (m.lose s.up) s)
    watchSel (record 0x0403 5 d (domCode m.state) cause s.tickNo s)
  else s

/-! ## Return of a source (R100, R101, R777) -/

/-- A source returns to a domain: ACQUIRING, with the median of the next 5 offsets to come; the frequency correction is kept (R100, R777). -/
def beginReturn (d : Nat) (s : State) : State :=
  let locked := domLocked (s.dom d).state
  let s := updDom d (fun m => { (if locked then m.leaveLock s.up else m) with
    med := [], lockRun := 0, slew := none, stepPending := none, secondWaits := false, heldFreq := m.freq }) s
  watchSel (setDomState d .acquiring s)

/-- The bound of R63 on a frequency correction, 2^-16 ppm. -/
def freqMax : Int := 13107200

/-- 50 ppm in 2^-16 ppm (R100). -/
def slewMax : Int := 3276800

/-- Steering for a measurement: locked, the loop's; acquiring, at most 50 ppm above the held rate in the sense of the offset. The loop's value is open. -/
def steerFor (d : Nat) (off : Int) (s : State) : State :=
  let m := s.dom d
  let v := Config.steer s.image.time.servoBwCentiHz m.freq off s.draws
  let f := if domLocked m.state then clampI (-freqMax) freqMax v
    else clampI (-freqMax) freqMax (m.heldFreq + (if 0 ≤ off then 1 else -1) * clampI 0 slewMax v)
  let m := { m with freq := f }
  let m := if domLocked m.state then m.markFreq s.up else m
  { (setDom d m s) with draws := s.draws + 1 }

/-- An offset measurement of a domain in ACQUIRING: the median of the first 5 decides slew or step; then the run below LOCK_THRESH is counted (R82, R100, R777). -/
def measureAcquiring (d : Nat) (off : Int) (s : State) : State :=
  let m := s.dom d
  let lim : Int := s.image.time.stepLimitNs
  if m.stepPending.isSome then s
  else if m.med.length < 5 then
    let med := m.med ++ [off]
    let s := setDom d { m with med := med } s
    if med.length < 5 then s
    else
      let r := median5 med
      if r.natAbs < lim.natAbs then
        steerFor d off (updDom d (fun m => { m with slew := some { amount := r, since := s.up } }) s)
      else updDom d (fun m => { m with stepPending := some r }) s
  else if lim.natAbs ≤ off.natAbs then beginReturn d s
  else
    steerFor d off (setDom d { m with lockRun := if off.natAbs < s.image.time.lockThreshNs then m.lockRun + 1 else 0 } s)

/-- An offset measurement, source minus counter (R82, R100, R777, TIM_DOM_OFFSET). -/
def measure (d : Nat) (off : Int) (s : State) : State :=
  let s := updDom d (fun m => { m with offset := sat31 off }) s
  match (s.dom d).state with
  | .acquiring => measureAcquiring d off s
  | .gnssLocked | .ptpLocked => if s.image.time.stepLimitNs ≤ off.natAbs then beginReturn d s else steerFor d off s
  | _ => s

/-! ## Best master selection (R72, R77, R81, R84) -/

/-- Note the grandmaster a domain follows, recording TIM_GM_CHANGE when it is another. -/
def noteGm (d : Nat) (gm : BitVec 64) (cls acc var : Nat) (s : State) : State :=
  let other := (s.dom d).gmId ≠ gm
  let s := updDom d (fun m => { m with gmId := gm, gmClass := cls, gmAcc := acc, gmVar := var }) s
  recordIf (decide other) 0x0408 4 d (gm.toNat / 2 ^ 32) (gm.toNat % 2 ^ 32) cls s

/-- The domain becomes or stays grandmaster. Its internal GNSS is the returning source (R81, R85). -/
def takeGm (d : Nat) (s : State) : State :=
  if (s.dom d).gm then noteGm d s.ownId (s.ownClass d) (s.ownAcc d) Config.ownVariance s
  else
    let s := if s.tim.gnssValid then s else loseSource d 3 s
    let s := updDom d (fun m => { m with gm := true, masterSrc := none, lastSyncUp := none, pendSync := none, syncLost := false }) s
    let s := if s.tim.gnssValid && (s.dom d).state != .none then
        (if (s.dom d).stepPending.isSome then updDom d (fun m => { m with secondWaits := true }) s else beginReturn d s) else s
    noteGm d s.ownId (s.ownClass d) (s.ownAcc d) Config.ownVariance s

/-- The domain follows a master; a move to another master loses the source (R84). -/
def followMaster (d : Nat) (f : ForeignMaster) (s : State) : State :=
  let m := s.dom d
  let same := m.masterSrc = some f.ann.src && m.port == f.port && !m.gm
  let s := if same then s
    else
      let s := if m.masterSrc.isSome || m.gm then loseSource d 3 s else s
      updDom d (fun m => { m with gm := false, masterSrc := some f.ann.src, port := f.port, lastSyncUp := none, pendSync := none, syncLost := false, delay := { m.delay with sent := false, got := false } }) s
  noteGm d f.ann.gmId f.ann.cls f.ann.acc f.ann.var s

/-- Best master selection of a domain: grandmaster when its own set is better, slave of the best master otherwise; a slave-only domain without a master keeps as it is. -/
def selectMaster (d : Nat) (s : State) : State :=
  let best := bestMaster (s.dom d).foreign
  match best with
  | some f => if (s.imgDom d).gmCand && betterSet (s.ownSet d) f.ann then takeGm d s else followMaster d f s
  | none => if (s.imgDom d).gmCand then takeGm d s else s

/-! ## Tick source and steps (R91 to R93, R102 to R107) -/

/-- The counter of a tick source: 0 A, 1 B, 2 the backup counter. -/
def State.srcCtr (s : State) (n : Nat) : Nat :=
  match n with
  | 0 => s.tim.a.ctr
  | 1 => s.tim.b.ctr
  | _ => s.tim.backup

/-- Give the residual: below STEP_LIMIT it is slewed, otherwise a step waits (R93). -/
def setResidual (r : Int) (s : State) : State :=
  let big := s.image.time.stepLimitNs ≤ r.natAbs
  { s with tim := { s.tim with
      residual := r
      residStep := decide big
      residSlew := if big || r == 0 then none else some { amount := r, since := s.up } } }

/-- The tick source changes; the residual keeps system time continuous (R91, R92). Cause 0 better quality, 1 source degraded, 2 clock lost. -/
def changeSource (new cause : Nat) (s : State) : State :=
  let old := s.tim.sel
  let r := (s.tim.latSys : Int) - (s.srcCtr new : Int)
  let s := setResidual r { s with tim := { s.tim with sel := new, betterSince := none, selFell := false } }
  watchSel (record 0x0401 4 old new (sat31 r) cause s)

/-- The phase of the tick edges against whole milliseconds of system time, ns: what realignment must remove (R104). -/
def phaseOf (sys : Nat) : Int :=
  let p := sys % nsPerMs
  if p < 500000 then (p : Int) else (p : Int) - 1000000

/-- The correction of one period during realignment: 1 µs, and the last by the remainder (R104). -/
def periodCorr (e : Int) : Int := clampI (-1000) 1000 e

/-- System time steps: the residual is cleared, STEPPED is set for 1 s, and TKS realigns the tick (R102, R104, R105, R107). -/
def stepSystem (by_ : Int) (s : State) : State :=
  let lat := shift s.tim.latSys by_
  let ph := phaseOf lat
  let s := { s with
    tim := { s.tim with latSys := lat, residual := 0, residSlew := none, residStep := false, steppedAt := some s.up }
    tks := { s.tks with phaseErr := ph } }
  recordIf (decide (ph ≠ 0)) 0x0503 2 (-(periodCorr ph)) ph 0 s.tickNo s

/-- Record TIM_STEP: the offset as whole seconds and nanoseconds, and the second at which it was applied (R117). -/
def recordStep (which : Nat) (off : Int) (sec : Nat) (s : State) : State :=
  record 0x0405 5 which (off / 1000000000) (off % 1000000000) (sec % 2 ^ 32) s

/-- A pending step of a domain is applied at a whole second of its counter; system time steps with the tick source (R100, R102). -/
def stepDomain (d : Nat) (s : State) : State :=
  match (s.dom d).stepPending with
  | none => s
  | some off =>
    if s.domNow d % nsPerS ≠ 0 then s
    else
      let sec := s.domNow d / nsPerS
      let s := updDom d (fun m => { m with ctr := shift m.ctr off, stepPending := none, lockRun := 0, steppedAt := some s.up }) s
      let s := if s.tim.sel = d then stepSystem (off - s.tim.residual) s else s
      let s := recordStep d off sec s
      if (s.dom d).secondWaits then beginReturn d s else s

/-- A residual of STEP_LIMIT or more is cleared by a step of system time at its next whole second (R93). -/
def stepResidual (s : State) : State :=
  if s.tim.residStep && s.sysNow % nsPerS == 0 then
    let off := -s.tim.residual
    let sec := s.sysNow / nsPerS
    recordStep 2 off sec (stepSystem off s)
  else s

/-! ## TAI − UTC (R89, R117) -/

/-- TAI − UTC after a leap second. -/
def leapTai (tai : Int) (positive : Bool) : Int := if positive then tai + 1 else tai - 1

/-- Take TAI − UTC and the armed leap from a source: 0 GNSS, 1 PTP A, 2 PTP B, 3 backup domain, 4 image. TIM_UTC_CHANGE when the offset differs. -/
def takeUtc (src : Nat) (tai : Int) (leap : Option LeapPlan) (s : State) : State :=
  let old := s.tim.utc.taiUtc
  let s := { s with tim := { s.tim with utc := { valid := decide (src ≤ 2), leap := leap, source := src, taiUtc := tai } } }
  recordIf (decide (old ≠ tai)) 0x0409 4 old tai src 0 s

/-- The leap an Announce's flags arm: at the end of the current UTC day (R89). -/
def State.announcedLeap (s : State) (a : Announce) : Option LeapPlan :=
  let day := ((s.sysNow / nsPerS : Nat) - a.taiUtc) / 86400 + 1
  if a.leap61 then some { at_ := (day * 86400 + leapTai a.taiUtc true).toNat, positive := true }
  else if a.leap59 then some { at_ := (day * 86400 + leapTai a.taiUtc false).toNat, positive := false }
  else none

/-! ## Loading the counters (R66, R99, R776, R778) -/

/-- The calendar plus TAI − UTC, as a time on the PTP timescale now (R99). -/
def State.calTai (s : State) : Nat := shift (calNs s.calNow) (s.earlyTaiUtc * nsPerS)

/-- Load a domain with a time that holds now. -/
def loadDom (d now : Nat) (s : State) : State := updDom d (fun m => { m with ctr := now - s.tks.sinceEdge }) s

/-- Age of a time-base save by the calendar, ns. -/
def saveAge (now saved : Calendar) : Nat := calNs now - calNs saved

/-- A domain that no master has taken at S9 is loaded from the calendar (R99). -/
def loadFromCalendar (d : Nat) (s : State) : State :=
  let s := loadDom d s.calTai s
  let free := setDomState d .freerun (updDom d (fun m => { m with freq := 0, holdFrom := (s.up : Int) }) s)
  match s.rtc.save with
  | none => free
  | some v =>
    match (if d = 0 then v.freqA else v.freqB) with
    | none => free
    | some f =>
      let age := saveAge s.calNow (if d = 0 then v.calA else v.calB)
      if s.rtc.valid && decide (age < s.image.time.holdLimitS * nsPerS) then
        setDomState d .holdover (updDom d (fun m => { m with freq := f, heldAtS9 := some f, holdFrom := (s.up : Int) - age }) s)
      else free

/-- System time starts on the backup counter (R776). -/
def startBackup (s : State) : State :=
  let v := s.calTai - s.tks.sinceEdge
  { s with tim := { s.tim with
      backup := v, backupFreq := 0, backupState := .freerun, backupFrom := (s.up : Int), sel := 2, latSys := v, residual := 0, loaded := true } }

/-- System time starts on the better of the loaded domains (R90, R99). -/
def startSystem (s : State) : State :=
  let d := s.bestDom
  { s with tim := { s.tim with sel := d, latSys := (s.dom d).ctr, residual := 0, loaded := true } }

/-- A domain clock is lost: the domain is NONE until R778 (R66, R80). -/
def domClockLost (d : Nat) (s : State) : State :=
  let m := s.dom d
  if m.state = .none then s
  else
    let s := updDom d (fun m => { m.lose s.up with lastSyncUp := none }) s
    let s := recordIf (domLocked m.state || m.state == .acquiring) 0x0403 5 d (domCode m.state) 4 s.tickNo s
    let s := setDomState d .none s
    let other := 1 - d
    if s.tim.sel = d then
      if (s.dom other).state ≠ .none then changeSource other 2 s
      else
        let s := { s with tim := { s.tim with
            backup := s.tim.latSys, backupFreq := m.freq, backupState := .holdover, backupFrom := (s.up : Int) } }
        changeSource 2 2 s
    else watchSel s

/-- At the first tick edge after a domain clock returns, the domain is loaded from system time (R778). -/
def reloadDom (d : Nat) (s : State) : State :=
  let onBackup := s.tim.sel = 2
  let st := s.tim.selState
  let from_ : Int := if onBackup then s.tim.backupFrom else (s.dom s.tim.sel).holdFrom
  let freq := if onBackup then s.tim.backupFreq else (s.dom s.tim.sel).freq
  let held := st = .holdover ∨ st = .freerun
  let s := updDom d (fun m => { m with
    ctr := s.tim.latSys, freq := freq, holdFrom := if held then from_ else (s.up : Int), med := [], lockRun := 0
    slew := none, stepPending := none }) s
  let s := setDomState d (if st = .freerun then .freerun else .holdover) s
  if onBackup then changeSource d 0 s else watchSel s

end Sys2Proof.Machine
end

