-- ==== Sys2Proof/Machine/Time.lean ====
section
/-! DEFINITION. The commands of the time bases that no message brings: loss and return of sources, locks, steps, the change of tick source, saves and time pulses (R82 to R112). -/

namespace Sys2Proof.Machine

open Sys2Proof

/-- Drop the foreign masters not heard for announceReceiptTimeout intervals (R83). -/
def State.liveMasters (s : State) (d : Nat) : List ForeignMaster :=
  (s.dom d).foreign.filter (fun f => decide (s.up < f.lastUp + s.image.time.announceTimeout * logNs s.image.time.logAnnounce))

/-- Announce timeout: with no qualified master left the source is lost; otherwise best master selection runs on those left (R83, R84). -/
def announceTimeout (d : Nat) (s : State) : State :=
  let live := s.liveMasters d
  if live.length = (s.dom d).foreign.length then s
  else
    let s := updDom d (fun m => { m with foreign := live }) s
    let s := if (bestMaster live).isNone && (s.dom d).masterSrc.isSome then
        updDom d (fun m => { m with masterSrc := none }) (loseSource d 0 s) else s
    watchSel (selectMaster d s)

def execAnnounceTimeout (t d : Nat) (s : State) : Host.Outcome State Fault Refusal :=
  .next (announceTimeout d (start t s))

/-- Sync timeout: no Sync for 3 Sync intervals (R83). -/
def syncTimeout (d : Nat) (s : State) : State :=
  let m := s.dom d
  match m.lastSyncUp with
  | some u =>
    if !m.gm && (m.state == .ptpLocked || m.state == .acquiring) && decide (u + 3 * logNs s.image.time.logSync ≤ s.up) then
      updDom d (fun m => { m with syncLost := true, lastSyncUp := none, pendSync := none }) (loseSource d 1 s)
    else s
  | none => s

def execSyncTimeout (t d : Nat) (s : State) : Host.Outcome State Fault Refusal :=
  .next (syncTimeout d (start t s))

/-- A source has returned to a domain that has not taken it: GNSS time for a grandmaster, a qualified master for a slave (R100, R107). -/
def State.sourceWaits (s : State) (d : Nat) : Bool :=
  let m := s.dom d
  m.state != .none && m.state != .acquiring && !domLocked m.state && m.stepPending.isNone &&
    (if m.gm then s.tim.gnssValid else m.masterSrc.isSome && !m.syncLost)

def sourceReturn (d : Nat) (s : State) : State := if s.sourceWaits d then beginReturn d s else s

def execSourceReturn (t d : Nat) (s : State) : Host.Outcome State Fault Refusal :=
  .next (sourceReturn d (start t s))

/-- The offset has stayed below LOCK_THRESH for 16 measurements (R82). -/
def domainLock (d : Nat) (s : State) : State :=
  let m := s.dom d
  if m.state = .acquiring ∧ 16 ≤ m.lockRun then
    let st := if m.gm then DomState.gnssLocked else .ptpLocked
    let s := setDom d { m with lockedEver := true, lockedAt := s.up, freqHist := [{ at_ := s.up, freq := m.freq }] } s
    let s := setDomState d st s
    let cls := if m.gm then s.ownClass d else m.gmClass
    watchSel (record 0x0402 3 d (domCode st) m.offset cls s)
  else s

def execDomainLock (t d : Nat) (s : State) : Host.Outcome State Fault Refusal :=
  .next (domainLock d (start t s))

/-- A pending step: of domain A or B at its next whole second, or of the residual at the next whole second of system time (R93, R102). -/
def timeStep (which : Nat) (s : State) : State :=
  if which = 2 then stepResidual s else watchSel (stepDomain which s)

def execTimeStep (t which : Nat) (s : State) : Host.Outcome State Fault Refusal :=
  .next (timeStep which (start t s))

/-- A slew has ended: an offset is below LOCK_THRESH, or the residual is 0 (R93, R101). -/
def slewDone (which : Nat) (s : State) : State :=
  let done := fun (r : SlewRun) (s : State) => record 0x0406 2 which (sat31 r.amount) ((s.up - r.since) / nsPerMs : Nat) s.tickNo s
  if which = 2 then
    match s.tim.residSlew with
    | some r => if s.tim.residual = 0 then done r { s with tim := { s.tim with residSlew := none } } else s
    | none => s
  else
    match (s.dom which).slew with
    | some r =>
      if (s.dom which).offset.natAbs < s.image.time.lockThreshNs then done r (updDom which (fun m => { m with slew := none }) s) else s
    | none => s

def execSlewDone (t which : Nat) (s : State) : Host.Outcome State Fault Refusal :=
  .next (slewDone which (start t s))

/-- Estimated error after a time in HOLDOVER, ns (R96, TIM_FREERUN). -/
def State.holdError (s : State) (held : Nat) : Nat := held * s.image.time.holdRatePpb / nsPerS

/-- The time in HOLDOVER reaches HOLD_LIMIT (R95). -/
def holdoverLimit (d : Nat) (s : State) : State :=
  let m := s.dom d
  let held := m.holdNs s.up
  if m.state = .holdover ∧ s.image.time.holdLimitS * nsPerS ≤ held then
    watchSel (record 0x0404 6 d (held / nsPerS) (sat31 (s.holdError held)) s.tickNo (setDomState d .freerun s))
  else s

def execHoldoverLimit (t d : Nat) (s : State) : Host.Outcome State Fault Refusal :=
  .next (holdoverLimit d (start t s))

/-- The tick source changes to the other domain: at once when the source has fallen in rank 1, otherwise after SEL_HOLD (R91). -/
def tickSourceChange (s : State) : State :=
  let s := watchSel s
  match s.tim.betterSince with
  | some u =>
    if s.tim.selFell then changeSource (1 - s.tim.sel) 1 s
    else if u + s.image.time.selHoldS * nsPerS ≤ s.up then changeSource (1 - s.tim.sel) 0 s
    else s
  | none => s

def execTickSourceChange (t : Nat) (s : State) : Host.Outcome State Fault Refusal :=
  .next (tickSourceChange (start t s))

/-- A save of a domain is due: it is locked and 60 s have passed (R98). -/
def State.saveDue (s : State) (d : Nat) : Bool :=
  domLocked (s.dom d).state && decide ((s.dom d).lastSaveUp + 60 * nsPerS ≤ s.up)

/-- Save the frequency corrections of the locked domains and TAI − UTC to the backup domain (R98). -/
def timeSave (s : State) : State :=
  if s.saveDue 0 || s.saveDue 1 then
    let old : TimeSave := s.rtc.save.getD { freqA := none, calA := {}, freqB := none, calB := {}, taiUtc := 0 }
    let v := { old with taiUtc := s.tim.utc.taiUtc }
    let v := if s.saveDue 0 then { v with freqA := some s.tim.a.freq, calA := s.calNow } else v
    let v := if s.saveDue 1 then { v with freqB := some s.tim.b.freq, calB := s.calNow } else v
    let mark := fun (d : Nat) (s' : State) => if s.saveDue d then updDom d (fun m => { m with lastSaveUp := s.up }) s' else s'
    mark 1 (mark 0 { s with rtc := { s.rtc with save := some v } })
  else s

def execTimeSave (t : Nat) (s : State) : Host.Outcome State Fault Refusal := .next (timeSave (start t s))

/-- GNSS time is lost after GNSS_LOSS_EPOCHS epochs without a valid solution (R87, R94). -/
def gnssTimeLost (s : State) : State :=
  if s.tim.gnssValid && decide (s.image.time.gnssLossEpochs ≤ s.tim.gnssMiss) then
    let s := { s with tim := { s.tim with gnssValid := false } }
    let lose := fun (d : Nat) (s : State) => if (s.dom d).gm then loseSource d 2 s else s
    watchSel (lose 1 (lose 0 s))
  else s

def execGnssTimeLost (t : Nat) (s : State) : Host.Outcome State Fault Refusal := .next (gnssTimeLost (start t s))

/-! ## Time pulses (R97, R103, R108 to R112) -/

/-- The outputs are held inactive under TP_FREERUN (R97). -/
def State.tpHeld (s : State) : Bool := s.image.time.tpFreerun && s.tim.selState == .freerun

/-- A pulse due on an output: emitted, or omitted and recorded when too close to the last one (R103). -/
def pulseDue (n : Nat) (spacing widthUs : Nat) (pol : Bool) (sec : Nat) (s : State) : State :=
  let o := nth s.tim.tp n {}
  let close := match o.lastUp with | some u => decide (s.up < u + spacing) | none => false
  if close then
    let gap := (s.up - o.lastUp.getD 0) / 1000
    let s := { s with tim := { s.tim with tp := put s.tim.tp n { o with omit_ := satAdd o.omit_ 1 255 } } }
    record 0x0407 3 n gap (sec % 2 ^ 32) 0 s
  else
    emit (.timePulse n widthUs (!pol)) { s with tim := { s.tim with tp := put s.tim.tp n { o with lastUp := some s.up } } }

/-- TP_OUT[0] at a whole second of system time (R108). -/
def timePulse (s : State) : State :=
  if (nth s.tim.tp 0 {}).run && !s.tpHeld && s.sysNow % nsPerS == 0 then
    pulseDue 0 500000000 s.image.time.tp0WidthUs s.image.time.tp0Pol (s.sysNow / nsPerS) s
  else s

def execTimePulse (t : Nat) (s : State) : Host.Outcome State Fault Refusal := .next (timePulse (start t s))

/-- The time of TP_OUT[1]'s source now, none while it has none (R109). -/
def State.tp1Now (s : State) : Option Nat :=
  match s.image.time.tp1Source with
  | .off => none
  | .system => some s.sysNow
  | .a => if s.tim.a.state = .none then none else some (s.domNow 0)
  | .b => if s.tim.b.state = .none then none else some (s.domNow 1)

/-- TP_OUT[1] at TP1_PHASE modulo TP1_PERIOD of its source (R109, R110). -/
def tp1Pulse (s : State) : State :=
  match s.tp1Now with
  | some v =>
    let per := s.image.time.tp1PeriodMs
    if (nth s.tim.tp 1 {}).run && !s.tpHeld && v % nsPerMs == 0 && v / nsPerMs % per == s.image.time.tp1PhaseMs then
      pulseDue 1 (min 500000000 (per * nsPerMs / 2)) s.image.time.tp1WidthUs s.image.time.tp1Pol (v / nsPerS) s
    else s
  | none => s

def execTp1Pulse (t : Nat) (s : State) : Host.Outcome State Fault Refusal := .next (tp1Pulse (start t s))

/-! ## TAI − UTC and STEPPED -/

/-- The armed leap instant is reached and TAI − UTC changes (R107, R151). -/
def utcLeap (s : State) : State :=
  match s.tim.utc.leap with
  | some p =>
    if p.at_ * nsPerS ≤ s.sysNow then
      let old := s.tim.utc.taiUtc
      let new := leapTai old p.positive
      let s := { s with tim := { s.tim with utc := { s.tim.utc with taiUtc := new, leap := none } } }
      record 0x0409 4 old new s.tim.utc.source 0 s
    else s
  | none => s

def execUtcLeapInstant (t : Nat) (s : State) : Host.Outcome State Fault Refusal := .next (utcLeap (start t s))

/-- STEPPED clears 1 s after the step (R102). -/
def steppedClear (s : State) : State :=
  match s.tim.steppedAt with
  | some u => if u + nsPerS ≤ s.up then { s with tim := { s.tim with steppedAt := none } } else s
  | none => s

def execSteppedClear (t : Nat) (s : State) : Host.Outcome State Fault Refusal := .next (steppedClear (start t s))

end Sys2Proof.Machine
end

