-- ==== Sys2Proof/Machine/Gnss.lean ====
section
/-! DEFINITION. The satellite baseband: antennas, acquisition, tracking channels, the measurement epoch, navigation data, RTCM corrections, and the delivery of solutions (R119 to R167). -/

namespace Sys2Proof.Machine

open Sys2Proof

/-! ## Antennas (R122, R124, R164) -/

/-- The image's GNSS fields; without the section no antenna is enabled. -/
def State.gnssImg (s : State) : ImgGnss := s.image.gnss.getD { antEn := 0 }

/-- Channel c as it stands. -/
def State.chan (s : State) (c : Nat) : Chan := nth s.gnb.chans c {}

/-- The antenna a channel is fixed to (R124). -/
def antOf (c : Nat) : Nat := c / 16

/-- The channels of an antenna. -/
def chansOf (a : Nat) : List Nat := (List.range 16).map (fun i => 16 * a + i)

/-- A channel tracks (R126): TRACK_1MS or TRACK. -/
def Chan.tracks (c : Chan) : Bool := c.state == .track1ms || c.state == .track

/-- The PRNs tracked on an antenna. -/
def State.tracked (s : State) (a : Nat) : List Nat :=
  ((chansOf a).map s.chan).filterMap (fun c => if c.tracks then some c.prn else none)

/-- The PRNs tracked on the other antennas, each once. -/
def State.trackedElsewhere (s : State) (a : Nat) : List Nat :=
  (((List.range 4).filter (fun b => b != a)).flatMap s.tracked).eraseDups

/-- An enabled antenna that is not lost. -/
def State.antWorks (s : State) (a : Nat) : Bool := bitAt s.gnssImg.antEn a && !(nth s.gnb.ants a {}).lost

def updAnt (a : Nat) (f : Antenna → Antenna) (s : State) : State := { s with gnb := { s.gnb with ants := upd s.gnb.ants a f } }
def updChan (c : Nat) (f : Chan → Chan) (s : State) : State := { s with gnb := { s.gnb with chans := upd s.gnb.chans c f } }

/-- Clear VALID in a channel record. -/
def clearValid (r : List Word) : List Word := upd r 0 (fun w => setBit w 7 false)

/-- An antenna is declared lost: cause 0 STUCK, 1 configuration, 2 no common satellites. On its epoch tick its records lose VALID (R147, R164). -/
def loseAntenna (a cause : Nat) (s : State) : State :=
  if (nth s.gnb.ants a {}).lost then s
  else
    let s := updAnt a (fun x => { x with lost := true, baseFixed := false, noCommonSince := none }) s
    let s := if s.gnb.hdr.tickNo = s.tickNo ∧ s.gnb.epochs ≠ [] then
        { s with gnb := { s.gnb with recs := (List.range 64).map (fun c => if antOf c = a then clearValid (nth s.gnb.recs c []) else nth s.gnb.recs c []) } }
      else s
    record 0x0602 5 a cause (s.trackedElsewhere a).length s.tickNo s

/-- Keep for each antenna since when it tracks none of at least 4 satellites tracked elsewhere (R164). -/
def watchAntennas (s : State) : State :=
  let f := fun (a : Nat) (x : Antenna) =>
    let e := s.trackedElsewhere a
    let bad := s.antWorks a && decide (4 ≤ e.length) && !(s.tracked a).any (fun p => e.contains p)
    { x with noCommonSince := if bad then some (x.noCommonSince.getD s.up) else none }
  { s with gnb := { s.gnb with ants := (List.range 4).map (fun a => f a (nth s.gnb.ants a {})) } }

/-- The shares of samples with each bit set over 100 ms, as counts of n samples (R122). -/
def antennaDuty (a n magI magQ sgnI sgnQ : Nat) (s : State) : State :=
  if n = 0 ∨ 4 ≤ a ∨ ¬ bitAt s.gnssImg.antEn a then s
  else
    let flat := fun (k : Nat) => k == 0 || decide (n ≤ k)
    let stuck := flat magI || flat magQ || flat sgnI || flat sgnQ
    let odd := fun (k : Nat) => decide (k * 100 < 15 * n ∨ 55 * n < k * 100)
    let s := updAnt a (fun x => { x with
      magI := min 255 (magI * 200 / n), magQ := min 255 (magQ * 200 / n), stuck := stuck, interf := odd magI || odd magQ }) s
    if stuck then loseAntenna a 0 s else s

def execAntennaDutyPeriod (t a n magI magQ sgnI sgnQ : Nat) (s : State) : Host.Outcome State Fault Refusal :=
  .next (antennaDuty a n magI magQ sgnI sgnQ (start t s))

/-- An antenna tracks none of the satellites tracked elsewhere for 1 s (R164). -/
def antennaLost (a : Nat) (s : State) : State :=
  match (nth s.gnb.ants a {}).noCommonSince with
  | some u => if u + nsPerS ≤ s.up then loseAntenna a 2 s else s
  | none => s

def execAntennaLost (t a : Nat) (s : State) : Host.Outcome State Fault Refusal := .next (antennaLost a (start t s))

/-- Front-end configuration at S10: the words read back are compared with those expected, under their masks (R121). -/
def feConfigure (reads : List (List Word)) (s : State) : State :=
  let frame := fun (a : Nat) (s : State) (f : Nat) =>
    match (nth (nth s.gnssImg.feFrames a []) f { width := 8, bits := 0 }).expect with
    | none => s
    | some e =>
      let got := nth (nth reads a []) f 0
      if got &&& e.2 = e.1 &&& e.2 then s
      else loseAntenna a 1 (updAnt a (fun x => { x with feFail := true }) (record 0x0601 5 a f got.toInt e.1.toInt s))
  let ant := fun (s : State) (a : Nat) =>
    if bitAt s.gnssImg.antEn a then (List.range (nth s.gnssImg.feFrames a []).length).foldl (frame a) s else s
  (List.range 4).foldl ant s

/-! ## Acquisition (R125 to R134) -/

/-- GPS time now, s (R67). -/
def State.gpsNow (s : State) : Nat := s.sysNow / nsPerS - 315964819

/-- Orbits held, for the prediction of elevations. -/
def State.orbits (s : State) : List (Nat × List Word) := s.gnb.almanac ++ s.gnb.ephs.map (fun e => (e.prn, e.body))

/-- The PRNs a cold search covers: all, or those predicted above ELEV_MASK − 5° (R130, R131). -/
def State.coldPrns (s : State) : BitVec 32 :=
  if s.orbits ≠ [] ∧ domLocked s.tim.selState then
    maskOf 32 (fun i => decide ((s.gnssImg.elevMaskDeg : Int) * 10 - 50 < Config.elevation s.orbits (i + 1) s.gpsNow))
  else BitVec.allOnes 32

/-- An antenna a cold search may visit: it has an IDLE channel and a PRN not yet searched in the last pass (R134). -/
def State.coldWanted (s : State) (a : Nat) : Bool :=
  s.antWorks a && (chansOf a).any (fun c => (s.chan c).state == .idle) && (nth s.gnb.ants a {}).searched != BitVec.allOnes 32

/-- The antenna of the next cold search: the lowest-numbered of those with the fewest channels tracking (R134). -/
def State.nextCold (s : State) : Option Nat :=
  ((List.range 4).filter s.coldWanted).foldl
    (fun b a => match b with
      | none => some a
      | some x => if (s.tracked a).length < (s.tracked x).length then some a else some x) none

/-- Start the next search when none runs: aided before cold, a suspended cold search before a new one; one aided search serves every PRN asked for on an antenna (R132 to R134). -/
def nextSearch (s : State) : State :=
  if s.gnb.acq.isSome then s
  else
    match s.gnb.aidedReq with
    | (a, _) :: _ =>
      let prns := maskOf 32 (fun i => s.gnb.aidedReq.contains (a, i + 1))
      { s with gnb := { s.gnb with acq := some { ant := a, aided := true, prns := prns }, aidedReq := s.gnb.aidedReq.filter (fun q => q.1 != a) } }
    | [] =>
      match s.gnb.coldHeld with
      | some c => { s with gnb := { s.gnb with acq := some c, coldHeld := none } }
      | none =>
        match s.nextCold with
        | some a => { s with gnb := { s.gnb with acq := some { ant := a, aided := false, prns := s.coldPrns } } }
        | none => s

/-- A PRN is held by a channel of an antenna that is not in REACQ. -/
def State.holds (s : State) (a prn : Nat) : Bool :=
  (chansOf a).any (fun c => (s.chan c).prn == prn && (s.chan c).state != .idle && (s.chan c).state != .reacq)

/-- A channel that is handed a satellite (R128). Until the preamble's polarity is resolved HALF is set (R140). -/
def handedOver (old : Chan) (p : AcqPeak) (aided : Bool) (up : Nat) : Chan :=
  { state := .pullIn, prn := p.prn, aided := aided, sinceUp := up, codeChip := p.halfChip / 2 % 1023,
    codeFrac := if p.halfChip % 2 = 1 then 0x80000000 else 0, doppler := p.doppler, half := true,
    slips := old.slips, slipMark := old.slipMark }

/-- The channel of an antenna for a PRN: the one in REACQ for it, else the first IDLE one, else, with almanac data, the one of lowest elevation when that is below the PRN's (R125, R128). -/
def State.channelFor (s : State) (a prn : Nat) : Option Nat :=
  match (chansOf a).find? (fun c => (s.chan c).state == .reacq && (s.chan c).prn == prn) with
  | some c => some c
  | none =>
    match (chansOf a).find? (fun c => (s.chan c).state == .idle) with
    | some c => some c
    | none =>
      if s.gnb.almanac = [] then none
      else
        let el := fun (q : Nat) => Config.elevation s.orbits q s.gpsNow
        match sortBy (fun c => el (s.chan c).prn) (chansOf a) with
        | c :: _ => if el (s.chan c).prn < el prn then some c else none
        | [] => none

/-- Hand a detected PRN to a channel. -/
def handOver (a : Nat) (aided : Bool) (s : State) (p : AcqPeak) : State :=
  if s.holds a p.prn then s
  else match s.channelFor a p.prn with
    | some c => updChan c (fun old => handedOver old p aided s.up) s
    | none => s

/-- A search ends: the PRNs whose peak ratio reaches ACQ_THRESH are handed to channels, and the next search starts (R128, R130 to R134). -/
def acqDone (durUs : Nat) (peaks : List AcqPeak) (s : State) : State :=
  match s.gnb.acq with
  | none => s
  | some q =>
    let inSearch := fun (p : AcqPeak) => decide (1 ≤ p.prn ∧ p.prn ≤ 32) && bitAt q.prns (p.prn - 1)
    let found := peaks.filter (fun p => inSearch p && decide (s.gnssImg.acqThreshMilli ≤ p.ratioMilli))
    let mask := maskOf 32 (fun i => found.any (fun p => p.prn == i + 1))
    let s := { s with gnb := { s.gnb with acq := none } }
    let order := if s.gnb.almanac = [] then found else sortBy (fun p => -(Config.elevation s.orbits p.prn s.gpsNow)) found
    let s := order.foldl (handOver q.ant q.aided) s
    let s := if q.aided then
        { s with gnb := { s.gnb with chans := (List.range 64).map (fun c =>
            let x := s.chan c
            if antOf c = q.ant ∧ x.state = .reacq ∧ 1 ≤ x.prn ∧ bitAt q.prns (x.prn - 1) then { slips := x.slips } else x) } }
      else updAnt q.ant (fun x => { x with searched := BitVec.allOnes 32 }) s
    nextSearch (record 0x0604 2 q.ant (b2n q.aided) mask.toNat durUs s)

def execAcqSearchDone (t durUs : Nat) (peaks : List AcqPeak) (s : State) : Host.Outcome State Fault Refusal :=
  .next (acqDone durUs peaks (start t s))

/-- An aided search is asked for a PRN tracked on another antenna but not on this one; a cold search in progress yields (R132, R133). -/
def acqAided (a prn : Nat) (s : State) : State :=
  if s.antWorks a && (s.trackedElsewhere a).contains prn && !s.holds a prn && !s.gnb.aidedReq.contains (a, prn) then
    let s := { s with gnb := { s.gnb with aidedReq := s.gnb.aidedReq ++ [(a, prn)] } }
    let s := match s.gnb.acq with
      | some q => if q.aided then s else { s with gnb := { s.gnb with acq := none, coldHeld := some q } }
      | none => s
    nextSearch s
  else s

def execAcqAidedRequest (t a prn : Nat) (s : State) : Host.Outcome State Fault Refusal := .next (acqAided a prn (start t s))

/-! ## Tracking (R129, R135 to R140) -/

/-- A channel gives its satellite up: IDLE, and the PRN returns to the search list. -/
def releaseChan (c : Nat) (s : State) : State :=
  let p := (s.chan c).prn
  let s := updChan c (fun x => { slips := x.slips, slipMark := x.slipMark }) s
  updAnt (antOf c) (fun x => { x with searched := if 1 ≤ p then setBit x.searched (p - 1) false else x.searched }) s

/-- A channel in PULL_IN for 100 ms releases its satellite (R129). -/
def pullInTimeout (c : Nat) (s : State) : State :=
  let x := s.chan c
  if x.state = .pullIn ∧ x.sinceUp + 100 * nsPerMs ≤ s.up then
    nextSearch (releaseChan c (record 0x0605 3 c x.prn 2 x.lockMs s))
  else s

def execPullInTimeout (t c : Nat) (s : State) : Host.Outcome State Fault Refusal := .next (pullInTimeout c (start t s))

/-- C/N0 and phase lock have held for 100 ms (R136). -/
def track1ms (c : Nat) (s : State) : State :=
  let x := s.chan c
  if x.state = .pullIn ∧ 100 ≤ x.goodMs then
    watchAntennas (updChan c (fun x => { x with state := .track1ms, lockMs := 0, msCount := 0, flips := List.replicate 20 0, lowCn0Ms := 0, lowPliMs := 0 }) s)
  else s

def execChannelTrack1ms (t c : Nat) (s : State) : Host.Outcome State Fault Refusal := .next (track1ms c (start t s))

/-- The position that holds at least 80 % of at least 20 sign changes (R137). -/
def bitPosition (flips : List Nat) : Option Nat :=
  let total := flips.foldl (fun a b => a + b) 0
  if total < 20 then none else (List.range 20).find? (fun i => decide (80 * total ≤ 100 * nth flips i 0))

/-- Code period within the data bit (MS_IN_BIT). -/
def Chan.msInBit (x : Chan) : Nat := (x.msCount + 20 - x.bitEdge) % 20

/-- The bit edge a channel may take: from its own counts, or from a channel of another antenna with the same PRN (R137). -/
def State.bitEdgeOf (s : State) (c : Nat) : Option Nat :=
  let x := s.chan c
  match (List.range 64).find? (fun d => antOf d != antOf c && (s.chan d).bitSync && (s.chan d).tracks && (s.chan d).prn == x.prn) with
  | some d => some ((x.msCount + 20 - (s.chan d).msInBit) % 20)
  | none => bitPosition x.flips

/-- The bit edge is fixed and the channel enters TRACK (R137). -/
def bitSync (c : Nat) (s : State) : State :=
  match (s.chan c).state, s.bitEdgeOf c with
  | .track1ms, some e => updChan c (fun x => { x with state := .track, bitSync := true, bitEdge := e }) s
  | _, _ => s

def execBitSync (t c : Nat) (s : State) : Host.Outcome State Fault Refusal := .next (bitSync c (start t s))

/-- A cycle slip: the lock time is 0, SLIP is set in the next record; GNB_SLIP at most once a second per channel. Cause 0 lock indicator, 1 Doppler check (R139, R166). -/
def slipChan (c cause : Nat) (s : State) : State :=
  let x := s.chan c
  let due := oncePerSecond x.slipMark s.up
  let s := updChan c (fun x => { x with lockMs := 0, slip := true, slips := satAdd x.slips 1 255, slipMark := if due then some s.up else x.slipMark }) s
  recordIf due 0x0606 1 c x.prn cause s.tickNo s

/-- Limit of LOCK_MS. -/
def lockMax : Nat := 16777215

/-- Milliseconds of a GPS week. -/
def weekMs : Nat := 604800000

/-- A channel after one code period (R119, R136 to R139, R146). -/
def loopChan (g : ImgGnss) (m : LoopMeas) (x : Chan) : Chan :=
  let flipped := x.state == .track1ms && m.promptNeg != x.promptNeg
  let pos := (x.msCount + 1) % 20
  { x with
    cn0 := m.cn0, pli := m.pli, promptNeg := m.promptNeg, codeChip := m.codeChip % 1023, codeFrac := m.codeFrac, doppler := m.doppler
    msCount := x.msCount + 1, flips := if flipped then upd x.flips pos (· + 1) else x.flips
    goodMs := if g.cn0Loss + 30 ≤ m.cn0 ∧ 850 ≤ m.pli then x.goodMs + 1 else 0
    lowCn0Ms := if m.cn0 < g.cn0Loss then x.lowCn0Ms + 1 else 0
    lowPliMs := if m.pli < 600 then x.lowPliMs + 1 else 0
    lockMs := if x.tracks then satAdd x.lockMs 1 lockMax else x.lockMs
    txMs := if x.data then (x.txMs + 1) % weekMs else x.txMs
    adr := x.adr + BitVec.ofInt 48 m.adrStep, adrSince := x.adrSince + m.adrStep, dopSince := x.dopSince + m.doppler }

/-- One loop pass of one channel; a channel whose loop engine is stopped is not served (R24). -/
def loopOne (s : State) (m : LoopMeas) : State :=
  let x := s.chan m.ch
  if x.state = .idle ∨ x.state = .reacq ∨ 64 ≤ m.ch ∨ ¬ s.works (8 + m.ch / 32) then s
  else
    let s := updChan m.ch (loopChan s.gnssImg m) s
    if x.tracks && decide (m.pli < 600) && decide ((s.chan m.ch).lowPliMs < 200) then slipChan m.ch 0 s else s

def execGnssLoopPass (t : Nat) (ms : List LoopMeas) (s : State) : Host.Outcome State Fault Refusal :=
  .next (ms.foldl loopOne (start t s))

/-- A channel loses lock after 200 ms: REACQ when its PRN is tracked on another antenna, else IDLE (R138). -/
def lossOfLock (c : Nat) (s : State) : State :=
  let x := s.chan c
  if x.tracks && (decide (200 ≤ x.lowCn0Ms) || decide (200 ≤ x.lowPliMs)) then
    let s := record 0x0605 3 c x.prn (if 200 ≤ x.lowCn0Ms then 0 else 1) x.lockMs s
    let s := if (s.trackedElsewhere (antOf c)).contains x.prn then
        updChan c (fun x => { x with state := .reacq, bitSync := false, data := false, lockMs := 0, goodMs := 0 }) s
      else nextSearch (releaseChan c s)
    watchAntennas s
  else s

def execChannelLossOfLock (t c : Nat) (s : State) : Host.Outcome State Fault Refusal := .next (lossOfLock c (start t s))

/-! ## The measurement epoch (R141 to R147) -/

/-- Code phase with the antenna's delay compensated, in 2^-32 chip, and the code periods it gains (R123). -/
def compensated (chip : Nat) (frac : Word) (delayNs : Nat) : Nat × Nat × Nat :=
  let v := chip * 2 ^ 32 + frac.toNat + delayNs * 1023 * 2 ^ 32 / 1000000
  (v / (1023 * 2 ^ 32), v / 2 ^ 32 % 1023, v % 2 ^ 32)

/-- The record of a channel that holds a measurement (R145). -/
def chanRecord (c : Nat) (x : Chan) (delayNs : Nat) (m : EpochMeas) : List Word :=
  let code := compensated m.codeChip m.codeFrac delayNs
  let adr := (x.adr + BitVec.ofInt 48 m.adrPart).toNat
  [packWord [(26, 6, c), (24, 2, antOf c), (18, 6, x.prn), (8, 10, min x.cn0 1023), (7, 1, 1), (6, 1, b2n x.slip), (5, 1, b2n x.half),
     (4, 1, b2n x.data), (3, 1, b2n x.bitSync), (2, 1, b2n x.aided)],
   packWord [(8, 24, x.lockMs), (5, 3, if x.state = .track1ms then 2 else 3), (0, 5, x.msInBit)],
   packWord [(0, 30, (x.txMs + code.1) % weekMs)], packWord [(0, 10, code.2.1)], wordN code.2.2,
   packWord [(0, 16, adr / 2 ^ 32)], wordN adr, wordI x.doppler]

/-- The record of a channel without a measurement: VALID clear, every other field a value the spec leaves open (R145). -/
def openRecord (draws : Nat) : List Word := clearValid ((List.range 8).map (fun i => Config.freeWord (draws + i)))

/-- The change of carrier phase since the last epoch differs from the integrated Doppler by more than 0.25 cycle (R139). -/
def phaseJump (adr dop : Int) : Bool := decide (250000 * 65536 < (adr * 1000000 - dop * 65536).natAbs)

/-- Latch one channel at the epoch. -/
def latchChan (ms : List EpochMeas) (s : State) (c : Nat) : State :=
  let x := s.chan c
  let m := (ms.find? (fun e => e.ch == c)).getD { ch := c, codeChip := x.codeChip, codeFrac := x.codeFrac, adrPart := 0 }
  if x.tracks && s.antWorks (antOf c) then
    let s := if phaseJump (x.adrSince + m.adrPart) x.dopSince then slipChan c 1 s else s
    let r := chanRecord c (s.chan c) (nth s.gnssImg.antDelayNs (antOf c) 0) m
    let s := { s with gnb := { s.gnb with recs := put s.gnb.recs c r } }
    updChan c (fun x => { x with slip := false, adrSince := -m.adrPart, dopSince := 0 }) s
  else { s with gnb := { s.gnb with recs := put s.gnb.recs c (openRecord s.draws) }, draws := s.draws + 8 }

/-- A tick of this number is a measurement epoch (R41, R141). -/
def State.epochTick (s : State) : Bool := s.tks.running && s.image.gnss.isSome && s.tks.tickExt % s.gnssImg.measDiv == 0

/-- The measurement epoch: every channel is latched at the tick edge with domain A's stamp, or system time without A; the window is replaced as a whole in P0 (R141 to R145). -/
def measurementEpoch (feFreq : Int) (ms : List EpochMeas) (s : State) : State :=
  if s.epochTick && !s.gnb.epochs.any (fun e => e.tick == s.tks.tickExt) then
    let lost := s.tim.a.state == .none
    let fresh := match s.tim.a.steppedAt with | some u => decide (s.tks.upEdge < u + nsPerS) | none => false
    let missed := !s.gnb.epochs.isEmpty && decide (3 < s.gnssImg.measDiv)
    let s := (List.range 64).foldl (latchChan ms) s
    let n := (s.gnb.recs.filter (fun r => bitAt (nth r 0 0) 7)).length
    { s with
      gnb := { s.gnb with
        hdr := { tickNo := s.tickNo, latch := if lost then s.tim.latSys else s.tim.a.ctr, tmaLost := lost, stepped := fresh, nValid := n, feFreq := feFreq }
        epochs := (s.gnb.epochs.filter (fun e => decide (s.tks.tickExt < e.tick + 4)))
                    ++ [{ tick := s.tks.tickExt, up := s.tks.upEdge, ab := s.tim.abDiff, tmaLost := lost }] }
      tim := { s.tim with gnssMiss := if missed then s.tim.gnssMiss + 1 else s.tim.gnssMiss } }
  else s

def execMeasurementEpoch (t : Nat) (feFreq : Int) (ms : List EpochMeas) (s : State) : Host.Outcome State Fault Refusal :=
  .next (measurementEpoch feFreq ms (start t s))

/-! ## Navigation data (R148 to R152) -/

/-- Signed difference of two times of week, s. -/
def towDiff (a b : Int) : Int := (a - b + 302400) % 604800 - 302400

/-- Take an ephemeris into use with its source: 0 LNAV, 1 RTCM 1019, 2 LNAV superseding 1019 (R149, R155). -/
def useEph (e : Ephemeris) (src : Nat) (s : State) : State :=
  record 0x0609 1 e.prn e.iode src e.toe { s with gnb := { s.gnb with ephs := s.gnb.ephs.filter (fun x => x.prn != e.prn) ++ [e] } }

/-- A consistent LNAV set: taken when its issue differs and is not older, or when its content differs from a 1019 of the same issue (R149, R155). -/
def lnavEph (e : Ephemeris) (s : State) : State :=
  match s.gnb.ephs.find? (fun x => x.prn == e.prn) with
  | none => useEph e 0 s
  | some o =>
    if o.iode = e.iode then (if o.rtcm ∧ o.body ≠ e.body then useEph e 2 s else s)
    else if 0 ≤ towDiff e.toe o.toe then useEph e 0 s
    else s

/-- Subframes 1 to 3 of a PRN have arrived and agree: IODE of 2 and 3, and the low 8 bits of IODC (R149). -/
def completeEph (p : EphParts) : Option Ephemeris :=
  match p.sf1, p.sf2, p.sf3 with
  | some (iodc, b1), some (i2, toe, b2), some (i3, b3) =>
    if i2 = i3 ∧ iodc % 256 = i2 then some { prn := p.prn, iode := i2, toe := toe, rtcm := false, body := b1 ++ b2 ++ b3 } else none
  | _, _, _ => none

/-- Keep a subframe of a PRN and take the set into use when it is consistent. -/
def notePart (prn : Nat) (f : EphParts → EphParts) (s : State) : State :=
  let p := f ((s.gnb.parts.find? (fun (x : EphParts) => x.prn == prn)).getD { prn := prn })
  let s := { s with gnb := { s.gnb with parts := s.gnb.parts.filter (fun (x : EphParts) => x.prn != prn) ++ [p] } }
  match completeEph p with
  | some e => lnavEph e s
  | none => s

/-- The full week of a 10-bit week number: the one nearest a reference week (R88). -/
def nearWeek (w10 modulus ref : Nat) : Nat :=
  let d := ((w10 : Int) - ref + modulus / 2) % modulus - modulus / 2
  shift ref d

/-- The full week of a 10-bit week number from the first source available: a PTP_LOCKED domain, the calendar, WN_FLOOR (R88). Second component: the source of TIM_WEEK. -/
def State.fullWeek (s : State) (w10 : Nat) : Nat × Nat :=
  let gpsWeek := fun (ns : Nat) => (ns / nsPerS - 315964819) / 604800
  if s.tim.a.state = .ptpLocked then (nearWeek w10 1024 (gpsWeek (s.domNow 0)), 0)
  else if s.tim.b.state = .ptpLocked then (nearWeek w10 1024 (gpsWeek (s.domNow 1)), 0)
  else if s.rtc.valid then (nearWeek w10 1024 (gpsWeek s.calTai), 1)
  else
    let f := s.image.time.wnFloor
    (f + (w10 + 1024 - f % 1024) % 1024, 2)

/-- Resolve the week of subframe 1 and record TIM_WEEK when it is another. -/
def noteWeek (w10 : Nat) (s : State) : State :=
  let w := s.fullWeek w10
  if s.gnb.week = some w.1 then s
  else record 0x040B 4 w.1 w.2 0 0 { s with gnb := { s.gnb with week := some w.1 } }

/-- UTC parameters of subframe 4 page 18: TAI − UTC is ΔtLS + 19 s, and a differing ΔtLSF arms a leap at the end of day DN of week WNLSF (R151). -/
def lnavUtc (dtLs dtLsf : Int) (wnLsf dn : Nat) (s : State) : State :=
  let tai := dtLs + 19
  let leap :=
    match s.gnb.week with
    | some w =>
      if dtLsf = dtLs + 1 ∨ dtLsf = dtLs - 1 then
        some { at_ := shift (315964800 + nearWeek wnLsf 256 w * 604800 + dn * 86400) (dtLsf + 19), positive := decide (dtLs < dtLsf) }
      else none
    | none => none
  let past := match leap with | some (p : LeapPlan) => decide (p.at_ ≤ s.sysNow / nsPerS) | none => false
  takeUtc 0 (if past then dtLsf + 19 else tai) (if past then none else leap) s

/-- A subframe with its parity good: polarity, time of week, and content (R140, R148 to R151). -/
def lnavSubframe (c : Nat) (inverted : Bool) (tx : Option Nat) (body : LnavBody) (s : State) : State :=
  let x := s.chan c
  if x.state ≠ .track then s
  else
    let s := updChan c (fun x => { x with
      half := false, adr := if x.half && inverted then x.adr + 32768 else x.adr
      data := x.data || tx.isSome, txMs := (tx.map (· % weekMs)).getD x.txMs }) s
    match body with
    | .sf1 iodc w10 b => notePart x.prn (fun p => { p with sf1 := some (iodc, b) }) (noteWeek w10 s)
    | .sf2 iode toe b => notePart x.prn (fun p => { p with sf2 := some (iode, toe, b) }) s
    | .sf3 iode b => notePart x.prn (fun p => { p with sf3 := some (iode, b) }) s
    | .utc a0 a1 dtLs dtLsf wnLsf dn => lnavUtc dtLs dtLsf wnLsf dn { s with gnb := { s.gnb with utcA0 := a0, utcA1 := a1 } }
    | .almanac prn b => { s with gnb := { s.gnb with almanac := assocSet s.gnb.almanac prn b } }
    | .other => s

def execLnavSubframe (t c : Nat) (inverted : Bool) (tx : Option Nat) (body : LnavBody) (s : State) : Host.Outcome State Fault Refusal :=
  .next (lnavSubframe c inverted tx body (start t s))

/-- An ephemeris ends 4 hours after its time of ephemeris (R149). -/
def ephExpiry (prn : Nat) (s : State) : State :=
  let tow := (s.gpsNow % 604800 : Nat)
  { s with gnb := { s.gnb with ephs := s.gnb.ephs.filter (fun e => !(e.prn == prn && decide (14400 ≤ towDiff tow e.toe))) } }

def execEphemerisExpiry (t prn : Nat) (s : State) : Host.Outcome State Fault Refusal := .next (ephExpiry prn (start t s))

/-! ## RTCM corrections (R153 to R156) -/

/-- Frames in error in the last second. -/
def State.rtcmErrors (s : State) : List Nat := s.gnb.errLog.filter (fun u => decide (s.up < u + nsPerS))

/-- A frame in error: cause 0 CRC, 1 length, 2 station ID (R154, R166). -/
def rtcmError (type cause : Nat) (s : State) : State :=
  let log := s.up :: s.rtcmErrors
  record 0x060A 3 type cause log.length s.tickNo { s with gnb := { s.gnb with errLog := log } }

/-- A frame is accepted only from RTCM_SRC (R153). -/
def State.rtcmFrom (s : State) (src : RtcmSrc) : Bool := s.image.gnss.isSome && src != .none && s.gnssImg.rtcmSrc == src

/-- A message of another station is counted and ignored, unless RTCM_STATION is 0xFFFF (R154). -/
def rtcmStation (type station : Nat) (f : State → State) (s : State) : State :=
  if s.gnssImg.rtcmStation = 0xFFFF ∨ s.gnssImg.rtcmStation = station then f { s with gnb := { s.gnb with station := station % 4096 } }
  else rtcmError type 2 { s with gnb := { s.gnb with ignCnt := satAdd s.gnb.ignCnt 1 15 } }

/-- RTCM 1004: used once the station's position is known, held until then (R154, R156). -/
def rtcm1004 (src : RtcmSrc) (o : Obs1004) (s : State) : State :=
  if s.rtcmFrom src then
    rtcmStation 1004 o.station (fun s =>
      let v : ObsAt := { obs := o, up := s.up }
      let known := match s.gnb.stationPos with | some p => p.1 == o.station | none => false
      if known then { s with gnb := { s.gnb with obs := some v, obsAged := false, last1004 := some s.up } }
      else { s with gnb := { s.gnb with held := some v, last1004 := some s.up } }) s
  else s

def execRtcm1004 (t : Nat) (src : RtcmSrc) (o : Obs1004) (s : State) : Host.Outcome State Fault Refusal :=
  .next (rtcm1004 src o (start t s))

/-- A station position; a 1004 held for it is released within RTCM_MAX_AGE (R154, R156). -/
def stationPosition (station : Nat) (x y z : Int) (s : State) : State :=
  let s := { s with gnb := { s.gnb with stationPos := some (station, x, y, z) } }
  match s.gnb.held with
  | some h =>
    if h.obs.station = station ∧ s.up ≤ h.up + s.gnssImg.rtcmMaxAgeS * nsPerS then
      { s with gnb := { s.gnb with obs := some h, held := none, obsAged := false } }
    else s
  | none => s

def rtcm1005 (src : RtcmSrc) (station : Nat) (x y z : Int) (s : State) : State :=
  if s.rtcmFrom src then rtcmStation 1005 station (stationPosition station x y z) s else s

def execRtcm1005 (t : Nat) (src : RtcmSrc) (station : Nat) (x y z : Int) (s : State) : Host.Outcome State Fault Refusal :=
  .next (rtcm1005 src station x y z (start t s))

/-- RTCM 1006 is as 1005; its antenna height is ignored. -/
def rtcm1006 (src : RtcmSrc) (station : Nat) (x y z : Int) (s : State) : State :=
  if s.rtcmFrom src then rtcmStation 1006 station (stationPosition station x y z) s else s

def execRtcm1006 (t : Nat) (src : RtcmSrc) (station : Nat) (x y z _height : Int) (s : State) : Host.Outcome State Fault Refusal :=
  .next (rtcm1006 src station x y z (start t s))

/-- RTCM 1019: used for a PRN without an LNAV ephemeris, or with one of an older issue (R155). -/
def rtcm1019 (src : RtcmSrc) (e : Ephemeris) (s : State) : State :=
  if s.rtcmFrom src then
    let e := { e with rtcm := true }
    match s.gnb.ephs.find? (fun x => x.prn == e.prn) with
    | none => useEph e 1 s
    | some o => if o.iode ≠ e.iode ∧ 0 < towDiff e.toe o.toe then useEph e 1 s else s
  else s

def execRtcm1019 (t : Nat) (src : RtcmSrc) (e : Ephemeris) (s : State) : Host.Outcome State Fault Refusal :=
  .next (rtcm1019 src e (start t s))

/-- Other message types are counted and ignored (R154). -/
def rtcmOther (src : RtcmSrc) (s : State) : State :=
  if s.rtcmFrom src then { s with gnb := { s.gnb with ignCnt := satAdd s.gnb.ignCnt 1 15 } } else s

def execRtcmOtherType (t : Nat) (src : RtcmSrc) (s : State) : Host.Outcome State Fault Refusal := .next (rtcmOther src (start t s))

/-- A frame with a bad CRC-24Q or length (R153). -/
def rtcmFrameError (src : RtcmSrc) (badLength : Bool) (s : State) : State :=
  if s.rtcmFrom src then rtcmError 0 (b2n badLength) { s with gnb := { s.gnb with errCnt := satAdd s.gnb.errCnt 1 15 } } else s

def execRtcmFrameError (t : Nat) (src : RtcmSrc) (badLength : Bool) (s : State) : Host.Outcome State Fault Refusal :=
  .next (rtcmFrameError src badLength (start t s))

/-- A held 1004 is given up after RTCM_MAX_AGE (R156). -/
def rtcmHold (s : State) : State :=
  match s.gnb.held with
  | some h => if h.up + s.gnssImg.rtcmMaxAgeS * nsPerS < s.up then { s with gnb := { s.gnb with held := none } } else s
  | none => s

def execRtcmHoldExpiry (t : Nat) (s : State) : Host.Outcome State Fault Refusal := .next (rtcmHold (start t s))

/-! ## Solutions (R157 to R164) -/

/-- Age of the 1004 observations at an instant of GPS time, ms: from their own epoch time (R154, R156). -/
def State.obsAge (s : State) (o : ObsAt) : Nat :=
  let now := (s.sysNow / nsPerMs - 315964819000) % weekMs
  let d := ((now : Int) - o.obs.epochMs + weekMs / 2) % weekMs - weekMs / 2
  d.toNat

/-- The 1004 observations within RTCM_MAX_AGE, with their age in ms (R156). -/
def State.obsUsable (s : State) : Option Nat :=
  match s.gnb.obs with
  | some o => if s.obsAge o ≤ s.gnssImg.rtcmMaxAgeS * 1000 then some (s.obsAge o) else none
  | none => none

/-- The best solution type whose conditions hold, not above SOL_MAX (R157). -/
def solutionType (r : NavResult) (obs : Bool) (solMax : Nat) : Nat :=
  let t := if r.usable < 4 then 0
    else if !obs || decide (r.withObs < 4) then 1
    else if r.common < 5 then 2
    else if !r.ratioOk then 3
    else 4
  min t solMax

/-- The reference and reporting antenna: the lowest-numbered usable one (R158). -/
def State.refAntenna (s : State) : Nat := ((List.range 4).find? s.antWorks).getD 0

/-- The configured length of a baseline, mm. -/
def baseLength (g : ImgGnss) (a b : Nat) : Nat :=
  let p := nth g.antPos a (0, 0, 0)
  let q := nth g.antPos b (0, 0, 0)
  let sq := fun (x : Int) => (x * x).toNat
  isqrt (sq (p.1 - q.1) + sq (p.2.1 - q.2.1) + sq (p.2.2 - q.2.2))

/-- One baseline of the solution: a fix outside BASE_TOL of its length is discarded; an antenna that tracks enough satellites on a fixed baseline is regained (R161, R163, R164). -/
def takeBaseline (refAnt : Nat) (s : State) (b : Nat × Bool × Nat) : State :=
  let a := b.1
  let len := baseLength s.gnssImg refAnt a
  let bad := b.2.1 && decide (s.gnssImg.baseTolMm < ((b.2.2 : Int) - len).natAbs)
  let enough := decide (s.gnssImg.attMinSv ≤ (s.tracked a).length)
  let fixed := b.2.1 && !bad && a != refAnt && bitAt s.gnssImg.antEn a
  let x := nth s.gnb.ants a {}
  let s := recordIf bad 0x060C 4 a b.2.2 len s.tickNo s
  if x.lost && fixed && enough && !x.stuck then
    record 0x0603 3 a (s.tracked a).length 0 0 (updAnt a (fun x => { x with lost := false, baseFixed := true }) s)
  else updAnt a (fun y => { y with baseFixed := fixed && !x.lost && !x.stuck }) s

/-- The antennas usable for attitude (R163). -/
def State.attAntennas (s : State) : BitVec 4 :=
  let r := s.refAntenna
  maskOf 4 (fun a => s.antWorks a && !(nth s.gnb.ants a {}).stuck && (a == r || (nth s.gnb.ants a {}).baseFixed))

/-- The attitude mode of a count of antennas (R162). -/
def attMode (n : Nat) : Nat := if n ≤ 1 then 0 else n - 1

/-- GNSS time measures a domain this unit is grandmaster of, unless the domain has stepped since the epoch (R85). -/
def gnssMeasure (e : EpochMark) (d : Nat) (off : Int) (s : State) : State :=
  let fresh := match (s.dom d).steppedAt with | some u => decide (u < e.up) | none => true
  if (s.dom d).gm && fresh then measure d off s else s

/-- GNSS time is valid and disciplines the domains, B through the tick-edge latch (R86, R87, R143). -/
def gnssTime (e : EpochMark) (clkOfs : Int) (s : State) : State :=
  let offA := -clkOfs - s.image.time.gnssTimeBiasNs
  let s := { s with tim := { s.tim with gnssValid := true, gnssMiss := 0 } }
  if e.tmaLost then s else gnssMeasure e 1 (offA + e.ab) (gnssMeasure e 0 offA s)

/-- GNB_CORR_AGE once, when the observations held are no longer usable (R156, R166). -/
def noteCorrAge (s : State) : State :=
  match s.gnb.obs with
  | some o =>
    if s.obsUsable.isNone && !s.gnb.obsAged then
      record 0x060B 4 o.obs.station (s.obsAge o / 1000 : Nat) 0 s.tickNo { s with gnb := { s.gnb with obsAged := true } }
    else s
  | none => s

/-- The solution record of an epoch (R157, R158, R162, the solution record). -/
def State.solutionOf (s : State) (r : NavResult) (e : EpochMark) : NavSol :=
  let type := solutionType r s.obsUsable.isSome s.gnssImg.solMax
  let use_ := s.attAntennas
  let mode := attMode (popCount use_)
  let corr := decide (2 ≤ type)
  { r.sol with
    tickNo := e.tick % 2 ^ 32, solType := type, ant := s.refAntenna, attMode := mode, antUse := use_
    sigHdg := if mode = 0 then 0xFFFF else min r.sol.sigHdg 0xFFFF
    sigPr := if mode < 2 then 0xFFFF else min r.sol.sigPr 0xFFFF
    sigH := min r.sol.sigH 0xFFFF, sigV := min r.sol.sigV 0xFFFF, clkOfs := sat31 r.sol.clkOfs
    corrStation := if corr then s.gnb.station else 0
    corrAge := if corr then min 4095 ((s.obsUsable.getD 0) / 100) else 0 }

/-- The solution window is exchanged as a whole; changes of type and attitude mode are recorded (R164, R166). -/
def takeSolution (sol : NavSol) (s : State) : State :=
  let old := s.gnb.sol
  let s := { s with gnb := { s.gnb with sol := sol } }
  let s := recordIf (old.solType != sol.solType) 0x0607 4 old.solType sol.solType sol.nsv s.tickNo s
  recordIf (old.attMode != sol.attMode) 0x0608 4 old.attMode sol.attMode sol.antUse.toNat s.tickNo s

/-- The solution of an epoch is delivered in P0 of the third tick after it (R157 to R164). -/
def navDeliver (r : NavResult) (s : State) : State :=
  match s.gnb.epochs.find? (fun e => e.tick + 3 == s.tks.tickExt) with
  | none => s
  | some e =>
    if ¬ s.works 1 then s
    else
      let s := noteCorrAge { s with gnb := { s.gnb with epochs := s.gnb.epochs.filter (fun x => x.tick != e.tick) } }
      let ref := s.refAntenna
      let s := (r.baselines.filter (fun b => b.1 != ref)).foldl (takeBaseline ref) s
      let sol := s.solutionOf r e
      let s := takeSolution sol s
      if sol.solType = 0 then { s with tim := { s.tim with gnssMiss := s.tim.gnssMiss + 1 } }
      else gnssTime e r.sol.clkOfs s

end Sys2Proof.Machine
end

