-- ==== Sys2Proof/Machine/PointOps.lean ====
section
/-! DEFINITION. The point image: records, writers, acceptance and absorption of writes, freshness; and the frames the controller hands to its switch (R68, R69, R506, R534 to R539, R564, R779). -/

namespace Sys2Proof.Machine

open Sys2Proof

/-- A short stamp of an instant of system time, ns (R68). -/
def shortStamp (ns : Nat) : Word := BitVec.ofNat 32 ns

/-- Low 16 bits of the seconds of an instant (R68). -/
def lowSeconds (ns : Nat) : Nat := ns / nsPerS % 65536

/-- The instant of a short stamp against a seconds reference, ns (R69). -/
def extendStamp (ss : Word) (sRef : Nat) : Nat :=
  let base := sRef * nsPerS
  ((base : Int) + sdiff32 ss (BitVec.ofNat 32 base)).toNat

/-- An event recorded at most once a second: the mark with one more counted, whether it is due, and what the last second holds. -/
def Mark.hit (m : Mark) (up : Nat) : Mark × Bool × Nat :=
  let log := up :: m.log.filter (fun u => decide (up < u + nsPerS))
  let due := oncePerSecond m.last up
  ({ last := if due then some up else m.last, log := log }, due, log.length)

/-- The instant of the opening of P6, and of the other phases, ns after the edge (R36). -/
def phaseStart (p : Nat) : Nat := 1000 * nth [0, 50, 200, 350, 420, 620, 720, 880] p 0

/-- The end of a phase's window (R36). -/
def phaseEnd (p : Nat) : Nat := 1000 * nth [50, 200, 350, 420, 620, 720, 880, 1000] p 0

/-! ## Points -/

/-- The image's entry of a point. -/
def State.pointCfg (s : State) (p : Nat) : PointCfg := (assoc s.image.net.points p).getD {}

/-- A point's record: at start its image value, NOT_WRITTEN (R534). -/
def State.point (s : State) (p : Nat) : PointRec :=
  match assoc s.pim.pts p with
  | some x => x.record
  | none => let k := s.pointCfg p; { value := k.initial, flags := k.type }

/-- The tick a point's freshness timer runs from (R537). -/
def State.pointFresh (s : State) (p : Nat) : Nat :=
  match assoc s.pim.pts p with
  | some x => x.fresh
  | none => s.pim.readyTick

/-- Set an entry of a table kept by rising number. -/
def setKey {α : Type} : List (Nat × α) → Nat → α → List (Nat × α)
  | [], k, a => [(k, a)]
  | (j, b) :: xs, k, a => if k < j then (k, a) :: (j, b) :: xs else if k = j then (k, a) :: xs else (j, b) :: setKey xs k a

/-- Change one entry of a table kept by rising number, from a default. -/
def updKey {α : Type} (l : List (Nat × α)) (k : Nat) (d : α) (f : α → α) : List (Nat × α) := setKey l k (f ((assoc l k).getD d))

/-- Mark a point as changed (R536). -/
def markPoint (p : Nat) (s : State) : State :=
  { s with pim := { s.pim with marks := updKey s.pim.marks (p / 64) 0 (fun m => setBit m (p % 64) true) } }

/-- A value lies within DEADBAND of another, by the point's type; two binary32 values with a DEADBAND are compared as Config says (R536). -/
def withinDeadband (k : PointCfg) (a b : Word) : Bool :=
  if a = b then true
  else if k.deadband = 0 then false
  else if k.type = 1 then decide (((a.toNat : Int) - b.toNat).natAbs ≤ k.deadband)
  else if k.type = 3 then Config.floatWithin k.deadband a b
  else decide ((a.toInt - b.toInt).natAbs ≤ k.deadband)

/-- Whether a write is absorbed (R536). -/
def State.absorbs (s : State) (p : Nat) (value : Word) (quality flags : Nat) : Bool :=
  let r := s.point p
  r.quality != 4 && r.quality == quality && r.flags == flags && withinDeadband (s.pointCfg p) value r.value

/-- Accept a write: it replaces the record, raises CHANGE_SEQ and marks the point (R536). -/
def putPoint (p : Nat) (value : Word) (quality flags : Nat) (stampNs : Word) (secLo : Nat) (s : State) : State :=
  let r : PointRec := { value := value, stampNs := stampNs, secLo := secLo, quality := quality, flags := flags, seq := ((s.point p).seq + 1) % 65536 }
  markPoint p { s with pim := { s.pim with pts := setKey s.pim.pts p { record := r, fresh := s.tks.tickExt } } }

/-- Restart a point's freshness timer. -/
def freshen (p : Nat) (s : State) : State :=
  { s with pim := { s.pim with pts := setKey s.pim.pts p { record := s.point p, fresh := s.tks.tickExt } } }

/-! ## Points as sources of streams (R202, R211) -/

/-- A sample arrives and waits for the next P0 (R21). -/
def arrive (r : RawSample) (s : State) : State := { s with str := { s.str with inbox := s.str.inbox ++ [r] } }

/-- The instant of a record, by its short stamp and the low 16 bits of its seconds, nearest to now (R68, R69). -/
def State.pointInstant (s : State) (r : PointRec) : Nat :=
  let now := s.sysNow / nsPerS
  let d : Int := ((r.secLo : Int) - (now % 65536 : Nat) + 32768) % 65536 - 32768
  extendStamp r.stampNs ((now : Int) + d).toNat

/-- A point's value as the integer a stream scales; of a binary32 value the spec does not say how (R202). -/
def pointValue (type : Nat) (v : Word) : Int := if type = 1 then (v.toNat : Int) else if type = 3 then Config.floatValue v else v.toInt

/-- An accepted write is a sample of the contexts whose source is the point, at the point's own stamp; a quality other than GOOD makes it invalid (R202, R215). -/
def samplePoint (p : Nat) (r : PointRec) (s : State) : State :=
  let ctxs := (List.range 256).filter (fun c => match nth s.image.streams.ctxs c none with | some k => k.src == .point p | none => false)
  let inst : Int := (s.up : Int) - ((s.sysNow : Int) - (s.pointInstant r : Int))
  ctxs.foldl (fun s c => arrive { ctx := c, arrival := s.up, inst := some inst, vals := [pointValue (s.pointCfg p).type r.value], valid := r.quality == 0 } s) s

/-- A write of a point: absorbed, or accepted; either way a sample of the streams it feeds. -/
def takeWrite (p : Nat) (value : Word) (quality flags : Nat) (stampNs : Word) (secLo : Nat) (s : State) : State :=
  let s := samplePoint p { value := value, stampNs := stampNs, secLo := secLo, quality := quality } s
  if s.absorbs p value quality flags then freshen p s else putPoint p value quality flags stampNs secLo s

/-- A write from one who is not the point's writer, or of another type: counted, and PIM_WRITER at most once a second (R535). -/
def rejectWrite (p writer cause : Nat) (s : State) : State :=
  let due := oncePerSecond s.pim.writerMark s.up
  let s := { s with pim := { s.pim with rejWriter := satAdd s.pim.rejWriter 1 65535, writerMark := if due then some s.up else s.pim.writerMark } }
  recordIf due 0x0F01 3 p writer cause s.tickNo s

/-- The STEPPED flag of a record written now (R546). -/
def State.steppedFlag (s : State) : Nat := if s.stepped then 4 else 0

/-- A block writes a point, stamped with an instant of system time (R535, R536). A base of the image that is not set gives no point. -/
def blockPoint (block : Nat) (p : Option Nat) (value : Word) (type quality : Nat) (alarm : Bool) (stamp : Nat) (s : State) : State :=
  match p with
  | none => s
  | some p =>
    let k := s.pointCfg p
    if k.writer ≠ 0xFF00 + block then rejectWrite p (0xFF00 + block) 0 s
    else if k.type ≠ type then rejectWrite p (0xFF00 + block) 1 s
    else takeWrite p value quality (type + s.steppedFlag + 8 * b2n alarm) (shortStamp stamp) (lowSeconds stamp) s

/-- The most external writes the POINTS section of a frame holds (R559). -/
def pointsMax : Nat := 4900

/-- The stamp a write carries, or the present instant (R531, R544). -/
def State.writeStamp (s : State) (w : ExtWrite) : Word × Nat := match w.stamp with | some x => x | none => (shortStamp s.sysNow, lowSeconds s.sysNow)

/-- An external write is accepted now: its writer and type are tested, and it goes into the tick's POINTS section (R535, R564). -/
def acceptWrite (w : ExtWrite) (s : State) : State :=
  let k := s.pointCfg w.point
  if 131072 ≤ w.point ∨ k.writer ≠ w.writer then rejectWrite w.point w.writer 0 s
  else if w.flags % 4 ≠ k.type then rejectWrite w.point w.writer 1 s
  else
    let st := s.writeStamp w
    let absorbed := s.absorbs w.point w.value w.quality w.flags
    let s := takeWrite w.point w.value w.quality w.flags st.1 st.2 s
    { s with pim := { s.pim with accepted := s.pim.accepted ++ [(w.point, if absorbed then { (s.point w.point) with value := w.value } else s.point w.point)] } }

/-- The collection window of the present tick is over: P6 has opened (R779). -/
def State.windowOver (s : State) : Bool := s.tks.running && decide (phaseStart 6 ≤ s.tks.sinceEdge)

/-- The unit applies external writes: ACTIVE, or in HARBOUR WATCH with HW_ARM (R515, R539). -/
def State.takesWrites (s : State) : Bool := s.sys.state == .active || (s.sys.state == .harbourWatch && s.rtc.hwArm)

/-- An external write arrives: accepted, or it waits for the next tick; a standby discards it (R539, R564, R779). -/
def offerWrite (s : State) (w : ExtWrite) : State :=
  if s.sys.state = .standby then { s with pim := { s.pim with rejStandby := satAdd s.pim.rejStandby 1 65535 } }
  else if ¬ s.takesWrites then s
  else if s.windowOver || !s.pim.wait.isEmpty then { s with pim := { s.pim with wait := s.pim.wait ++ [w] } }
  else if s.pim.accepted.length < pointsMax then acceptWrite w s
  else
    let h := s.twn.deferMark.hit s.up
    recordIf h.2.1 0x100E 3 h.2.2 0 0 s.tickNo
      { s with pim := { s.pim with wait := s.pim.wait ++ [w] }, twn := { s.twn with deferMark := h.1 } }

/-- At a tick edge the writes that waited are accepted in order, as many as fit (R564, R779). -/
def takeWaiting (s : State) : State :=
  let room := pointsMax - s.pim.accepted.length
  let now := s.pim.wait.take room
  now.foldl (fun s w => acceptWrite w s) { s with pim := { s.pim with wait := s.pim.wait.drop room } }

/-- The unit leaves ACTIVE: waiting writes are dropped and counted (R564). -/
def dropWaiting (s : State) : State :=
  { s with pim := { s.pim with wait := [], rejStandby := satAdd s.pim.rejStandby s.pim.wait.length 65535 } }

/-! ## Frames of the controller -/

/-- Length of a station-protocol frame on the wire: Ethernet, IPv4 and UDP heads, header, payload, tag and frame check sequence (R516, R517). -/
def stationBytes (payload : Nat) : Nat := max 64 (14 + 20 + 8 + 32 + payload + 16 + 4)

/-- The unit has a unit address (R514). -/
def State.hasAddress (s : State) : Bool := (nth s.image.net.roles s.pin.strapRole none).isSome && decide (s.pin.strapRole < 3)

/-- Hand a frame to the switch. -/
def dpSend (cls : FrameClass) (bytes : Nat) (ports : BitVec 4) (s : State) : State :=
  { s with net := { s.net with dp := s.net.dp ++ [{ cls := cls, bytes := bytes, ports := ports }] } }

end Sys2Proof.Machine
end

