-- ==== Sys2Proof/Machine/Sentence.lean ====
section
/-! DEFINITION. Telegrams as bytes: IEC 61162 sentences (R210 to R213) and binary templates (R214). The places of the fields in a sentence are those of IEC 61162-1 (PRESUMED). -/

namespace Sys2Proof.Machine

open Sys2Proof

/-- Split a list at each occurrence of a value. -/
def splitAt (c : Nat) : List Nat → List (List Nat)
  | [] => [[]]
  | x :: xs =>
    match splitAt c xs with
    | [] => [[x]]
    | g :: gs => if x = c then [] :: g :: gs else (x :: g) :: gs

/-- A hexadecimal digit. -/
def hexDigit (c : Nat) : Option Nat :=
  if 48 ≤ c ∧ c ≤ 57 then some (c - 48) else if 65 ≤ c ∧ c ≤ 70 then some (c - 55) else if 97 ≤ c ∧ c ≤ 102 then some (c - 87) else none

/-- A sentence accepted by form and checksum: its talker, its type and its fields; otherwise the cause, 0 checksum, 1 format (R210). -/
def readSentence (bytes : List Byte) : Except Nat (List Nat × List Nat × List (List Nat)) :=
  let cs := bytes.map (·.toNat)
  let n := cs.length
  if n < 11 ∨ 82 < n ∨ cs.head? ≠ some 36 ∨ cs.drop (n - 2) ≠ [13, 10] then .error 1
  else
    let body := (cs.drop 1).take (n - 3)
    let text := body.takeWhile (· != 42)
    let tail := body.drop text.length
    match tail with
    | [_, h, l] =>
      match hexDigit h, hexDigit l with
      | some a, some b =>
        if text.foldl (· ^^^ ·) 0 = a * 16 + b then
          match splitAt 44 text with
          | addr :: fields => if addr.length = 5 then .ok (addr.take 2, addr.drop 2, fields) else .error 1
          | [] => .error 1
        else .error 0
      | _, _ => .error 1
    | _ => .error 0

/-- The type a sentence formatter names. -/
def sentenceType (f : List Nat) : Option SentenceType :=
  if f = [72, 68, 84] then some .hdt else if f = [84, 72, 83] then some .ths else if f = [82, 79, 84] then some .rot
  else if f = [72, 82, 77] then some .hrm else if f = [77, 87, 86] then some .mwv else if f = [71, 71, 65] then some .gga
  else if f = [71, 78, 83] then some .gns else if f = [86, 84, 71] then some .vtg else if f = [84, 84, 77] then some .ttm else none

/-- Digits of a decimal, with the places after the point. -/
def decDigits : List Nat → Bool → Nat → Nat → Option (Nat × Nat)
  | [], _, n, k => some (n, k)
  | c :: cs, dot, n, k =>
    if 48 ≤ c ∧ c ≤ 57 then decDigits cs dot (n * 10 + (c - 48)) (if dot then k + 1 else k)
    else if c = 46 ∧ ¬ dot then decDigits cs true n k
    else none

/-- A decimal number: numerator and denominator; none for an empty or ill-formed field. -/
def decimal (f : List Nat) : Option (Int × Nat) :=
  match f with
  | [] => none
  | 45 :: r => if r = [] then none else (decDigits r false 0 0).map (fun p => (-(p.1 : Int), 10 ^ p.2))
  | r => (decDigits r false 0 0).map (fun p => ((p.1 : Int), 10 ^ p.2))

/-- A field of a sentence, 1 the first after the address. -/
def fieldAt (fs : List (List Nat)) (i : Nat) : List Nat := nth fs (i - 1) []

/-- A field scaled by num/den of a unit, rounded. -/
def scaled (f : List Nat) (num den : Nat) : Int :=
  match decimal f with
  | some v => roundAway (v.1 * num) (v.2 * den)
  | none => 0

/-- Degrees as a binary angle. -/
def degAngle (f : List Nat) : Int := scaled f 4294967296 360

/-- A latitude or longitude, ddmm.mm, on the scale 2^31 = 180°, with its hemisphere. -/
def geoAngle (f hemi : List Nat) : Int :=
  match decimal f with
  | some v =>
    let deg := v.1 / (100 * v.2 : Nat)
    let min := v.1 - deg * (100 * v.2 : Nat)
    let a := roundAway ((deg * 60 * (v.2 : Int) + min) * 2147483648) (v.2 * 10800)
    if hemi = [83] ∨ hemi = [87] then -a else a
  | none => 0

/-- A UTC time hhmmss.ss as ms of the day. -/
def utcMs (f : List Nat) : Option Nat :=
  match decimal f with
  | some v =>
    let t := v.1.toNat * 1000 / v.2
    some ((t / 10000000) * 3600000 + (t / 100000 % 100) * 60000 + t % 100000)
  | none => none

/-- A speed in 0.1 mm/s from a value and its unit letter: K km/h, M m/s, N knots, S miles per hour. -/
def speedOf (f unit : List Nat) : Int :=
  if unit = [75] then scaled f 10000000 3600 else if unit = [77] then scaled f 10000 1
  else if unit = [78] then scaled f 18520000 3600 else scaled f 16093440 3600

/-- A distance in mm from a value and its unit letter: K km, N nautical miles, S statute miles. -/
def rangeOf (f unit : List Nat) : Int :=
  if unit = [75] then scaled f 1000000 1 else if unit = [78] then scaled f 1852000 1 else scaled f 1609344 1

/-- What a sentence gives: values, validity, its UTC time, and the target number of a TTM (R211). -/
structure SentenceData where
  vals   : List Int
  valid  : Bool
  utc    : Option Nat := none
  target : Nat := 0
  deriving DecidableEq, Repr

/-- The fields used from each sentence type (R211, R212). A TTM value carries 1 in its fourth place while its bearing is true. -/
def sentenceData (t : SentenceType) (fs : List (List Nat)) : SentenceData :=
  let f := fieldAt fs
  match t with
  | .hdt => { vals := [degAngle (f 1)], valid := (decimal (f 1)).isSome }
  | .ths => { vals := [degAngle (f 1)], valid := f 2 == [65] }
  | .rot => { vals := [scaled (f 1) 4294967296 21600], valid := f 2 == [65] }
  | .hrm => { vals := [degAngle (f 1)], valid := f 5 == [65] }
  | .mwv => { vals := [degAngle (f 1), speedOf (f 3) (f 4)], valid := f 2 == [82] && f 5 == [65] }
  | .gga => { vals := [geoAngle (f 2) (f 3), geoAngle (f 4) (f 5), scaled (f 9) 1000 1 + scaled (f 11) 1000 1], valid := f 6 != [48] && f 6 != [],
              utc := utcMs (f 1) }
  | .gns => { vals := [geoAngle (f 2) (f 3), geoAngle (f 4) (f 5), scaled (f 9) 1000 1 + scaled (f 10) 1000 1], valid := (f 6).any (· != 78),
              utc := utcMs (f 1) }
  | .vtg =>
    let v := scaled (f 7) 10000000 3600
    let cog := (decimal (f 1)).getD (0, 1)
    { vals := [roundAway (v * sinTurn (cog.1 + 90 * cog.2) (360 * cog.2)) (2 ^ 80), roundAway (v * sinTurn cog.1 (360 * cog.2)) (2 ^ 80)],
      valid := f 9 != [78] }
  | .ttm => { vals := [rangeOf (f 2) (f 10), degAngle (f 3), 0, if f 4 = [84] then 1 else 0], valid := f 12 != [76], utc := utcMs (f 14),
              target := (scaled (f 1) 1 1).toNat }

/-! ## Binary templates (R214) -/

/-- Bytes of the check of a template. -/
def checkLen (c : TemplateCheck) : Nat := match c with | .none => 0 | .xor8 => 1 | .crc16 => 2

/-- A telegram meets its template: sync bytes, length and check (R214). -/
def templateOk (t : Template) (b : List Byte) : Bool :=
  let k := checkLen t.check
  let body := (b.drop t.sync.length).take (t.length - t.sync.length - k)
  let sum := b.drop (t.length - k)
  b.length == t.length && b.take t.sync.length == t.sync &&
    (match t.check with
     | .none => true
     | .xor8 => beNat sum == (body.map (·.toNat)).foldl (· ^^^ ·) 0
     | .crc16 => beNat sum == crc16 body)

/-- A field of a template's telegram (R214). -/
def templateField (b : List Byte) (f : TemplateField) : Int :=
  let raw := (b.drop f.offset).take f.bytes
  let v := if f.big then beNat raw else leNat raw
  if f.signed ∧ 2 ^ (8 * f.bytes - 1) ≤ v then (v : Int) - 2 ^ (8 * f.bytes) else v

end Sys2Proof.Machine
end

