-- ==== Sys2Proof/Machine/Streams.lean ====
section
/-! DEFINITION. Sensor streams: sources and the collection of samples, latency, masks and confidence, alignment groups and triggered sampling (R200 to R233). -/

namespace Sys2Proof.Machine

open Sys2Proof

/-! ## Contexts (R200, R201, R215 to R218) -/

/-- The image's definition of a context. -/
def State.ctxCfg (s : State) (c : Nat) : Option CtxCfg := nth s.image.streams.ctxs c none

/-- The contexts defined, in order. -/
def State.ctxsDefined (s : State) : List Nat := (List.range 256).filter (fun c => (s.ctxCfg c).isSome)

def State.ctx (s : State) (c : Nat) : Ctx := nth s.str.ctxs c {}
def updCtx (c : Nat) (f : Ctx → Ctx) (s : State) : State := { s with str := { s.str with ctxs := upd s.str.ctxs c f } }
def State.group (s : State) (g : Nat) : Group := nth s.str.groups g {}
def updGroup (g : Nat) (f : Group → Group) (s : State) : State := { s with str := { s.str with groups := upd s.str.groups g f } }
def State.groupCfg (s : State) (g : Nat) : GroupCfg := nth s.image.streams.groups g {}

/-- Codes of the kinds (R201). -/
def kindCode : StreamKind → Nat
  | .positionGeo => 0 | .positionLocal => 1 | .heading => 2 | .attitude => 3 | .rate => 4 | .velocity => 5 | .wind => 6
  | .rangeBearing => 7 | .tautWire => 8 | .draught => 9 | .trim => 10 | .joystick => 11 | .handwheel => 12 | .thruster => 13 | .generic => 14

/-- How many values a sample of a kind has (R201). -/
def kindWidth : StreamKind → Nat
  | .positionGeo | .positionLocal | .rate | .velocity | .rangeBearing | .thruster => 3
  | .attitude | .wind | .tautWire => 2
  | _ => 1

/-- Whether value i of a kind is a binary angle, which wraps. -/
def kindAngle (k : StreamKind) (i : Nat) : Bool :=
  match k with
  | .heading | .attitude | .trim | .tautWire => true
  | .wind => i == 0
  | .rangeBearing => i == 1 || i == 2
  | .positionGeo => i == 1
  | _ => false

/-- A binary angle in the signed range. -/
def wrapAngle (x : Int) : Int := (x + 2147483648) % 4294967296 - 2147483648

/-- A mask cause is set: the sequence of good samples restarts, and STR_MASK is recorded when it is new (R215). -/
def setMask (c cause : Nat) (s : State) : State :=
  let x := s.ctx c
  let was := bitAt x.mask cause
  let s := updCtx c (fun x => { x with mask := setBit x.mask cause true, holdSince := put x.holdSince cause none }) s
  recordIf (!was) 0x0801 4 c cause x.conf s.tickNo s

/-- A sample good for a cause keeps its count running; one that fails it restarts the count (R216). -/
def holdMark (c cause : Nat) (good : Bool) (up : Nat) (s : State) : State :=
  updCtx c (fun x => { x with holdSince := put x.holdSince cause (if good then some ((nth x.holdSince cause none).getD up) else none) }) s

/-- The causes whose MASK_HOLD of good samples is complete (R215). -/
def State.heldCauses (s : State) (c holdS : Nat) : BitVec 5 :=
  let x := s.ctx c
  maskOf 5 (fun i => i != 4 && bitAt x.mask i &&
    (match nth x.holdSince i none with | some u => decide (u + holdS * nsPerS ≤ s.up) | none => false))

/-- Causes are cleared; at the unmasking the confidence takes the larger of its value and CONF_INIT (R216, R217). -/
def clearCauses (c : Nat) (bits : BitVec 5) (s : State) : State :=
  let x := s.ctx c
  let left := x.mask &&& ~~~bits
  let s := updCtx c (fun x => { x with mask := left }) s
  if left = 0 ∧ x.mask ≠ 0 then
    let init := match s.ctxCfg c with | some k => k.confInit | none => 0
    let s := updCtx c (fun x => { x with conf := max x.conf init, confFrac := 0 }) s
    record 0x0802 3 c (x.mask &&& bits).toNat (s.ctx c).conf s.tickNo s
  else s

def contextUnmask (c : Nat) (s : State) : State :=
  match s.ctxCfg c with
  | some k => let b := s.heldCauses c k.maskHoldS; if b = 0 then s else clearCauses c b s
  | none => s

def execContextUnmask (t c : Nat) (s : State) : Host.Outcome State Fault Refusal := .next (contextUnmask c (start t s))

/-- No accepted sample for STALE_MULT × PERIOD (R215). -/
def contextStale (c : Nat) (s : State) : State :=
  match s.ctxCfg c with
  | some k =>
    let gone := match (s.ctx c).lastUp with | some u => decide (u + k.staleMult * k.periodMs * nsPerMs ≤ s.up) | none => true
    if gone && !bitAt (s.ctx c).mask 1 then setMask c 1 s else s
  | none => s

def execContextStale (t c : Nat) (s : State) : Host.Outcome State Fault Refusal := .next (contextStale c (start t s))

/-- The operator masks a context, or clears that mask; source 0 station, 1 register (R215, R242). -/
def operatorMask (c : Nat) (on : Bool) (source : Nat) (s : State) : State :=
  if (s.ctxCfg c).isNone then s
  else
    let s := record 0x080A 3 c (b2n on) source s.tickNo s
    if on then setMask c 4 s else clearCauses c 16 s

/-- The step of confidence at a tick: CONF_DECAY per second while a cause is set, otherwise CONF_RISE (R217, R218). -/
def confStep (k : CtxCfg) (x : Ctx) : Ctx :=
  let m := x.conf * 1000 + x.confFrac
  let m' := if x.mask ≠ 0 then m - k.confDecay else min 255000 (m + k.confRise)
  { x with conf := m' / 1000, confFrac := m' % 1000 }

/-- Every defined context takes its step (R217). -/
def confSteps (s : State) : State :=
  { s with str := { s.str with ctxs := (List.range 256).map (fun c =>
      match s.ctxCfg c with | some k => confStep k (s.ctx c) | none => s.ctx c) } }

/-! ## Latency and rejection (R206 to R208, R242) -/

/-- A sample rejected: STR_REJECT at most once a second per context; three in a row set INVALID (R215). -/
def rejectSample (c cause index : Nat) (s : State) : State :=
  let x := s.ctx c
  let due := oncePerSecond x.rejectMark s.up
  let s := updCtx c (fun x => { x with rejectMark := if due then some s.up else x.rejectMark, invalidRun := x.invalidRun + 1, holdSince := put (put x.holdSince 2 none) 3 none }) s
  let s := recordIf due 0x0803 2 c cause index s.tickNo s
  if 3 ≤ x.invalidRun + 1 ∧ ¬ bitAt x.mask 2 then setMask c 2 s else s

/-- A sample invalid at its source (R211, R215). -/
def invalidSample (c : Nat) (s : State) : State :=
  let x := s.ctx c
  let s := updCtx c (fun x => { x with invalidRun := x.invalidRun + 1, badLast := true, holdSince := put (put x.holdSince 2 none) 3 none }) s
  if 3 ≤ x.invalidRun + 1 ∧ ¬ bitAt x.mask 2 then setMask c 2 s else s

/-- A servo axis without feedback marks the THRUSTER samples of its slot invalid (R437). -/
def State.axisMarks (s : State) (c : Nat) : Bool :=
  (List.range 16).any (fun i =>
    let k := nth s.image.alloc.slots i {}
    k.kind != .none && k.thrCtx == c && ((nth s.srv.axes (2 * i) {}).fbLost || (nth s.srv.axes (2 * i + 1) {}).fbLost))

/-- Give a context a latency estimate; STR_LATENCY above 4 × PERIOD, again only after it was below 2 × PERIOD (R207, R208). -/
def setLatency (c : Nat) (k : CtxCfg) (ns : Nat) (s : State) : State :=
  let v := min ns 2000000000
  let x := s.ctx c
  let high := decide (4 * k.periodMs * nsPerMs < v)
  let low := decide (v < 2 * k.periodMs * nsPerMs)
  let s := updCtx c (fun x => { x with latNs := v, latAlarm := if high then true else if low then false else x.latAlarm }) s
  recordIf (high && !x.latAlarm) 0x0807 3 c (v / 1000) k.periodMs s.tickNo s

/-- The mean of arrival minus instant, smoothed with a weight of 1/16 (R207). -/
def smoothLatency (old : Nat) (lag : Int) : Nat := ((old : Int) + (lag - old) / 16).toNat

/-! ## Collection in P0 (R202, R203, R206, R213, R228) -/

/-- Put a sample into the buffer of a context by its instant, newest first; one of the same instant is replaced. -/
def insertSample (x : Sample) : List Sample → List Sample
  | [] => [x]
  | y :: ys => if y.inst < x.inst then x :: y :: ys else if y.inst = x.inst then x :: ys else y :: insertSample x ys

/-- Samples kept per context. -/
def bufMax : Nat := 64

/-- Raw value × SCALE + OFFSET, on each value of the sample (R200). -/
def scaleVals (k : CtxCfg) (vals : List Int) : List Int := vals.map (fun v => roundAway (v * k.scale) 65536 + k.offset)

/-- The tick whose edge is nearest before an instant. -/
def State.tickOf (s : State) (inst : Int) : Nat :=
  let back := (s.tks.upEdge : Int) - inst
  (s.tks.tickExt - (if 0 < back then ((back + 999999) / 1000000).toNat else 0)) % 2 ^ 32

/-- The pulse a sample of a triggered member belongs to: the latest one that precedes its arrival by TRIG_DELAY and has no sample of that member (R228). -/
def pulseOf (g : Group) (c : Nat) (arrival : Nat) (delayNs : Nat) : Option Int :=
  (g.pending.filter (fun (i : GroupInstant) => i.triggered && decide (i.inst + delayNs ≤ arrival) && !i.got.any (fun x => x.1 == c))).foldl
    (fun (b : Option Int) i => match b with | none => some i.inst | some v => some (max v i.inst)) none

/-- The UTC second of day carried differs from the instant by more than 2 s (R213). -/
def State.clockOdd (s : State) (inst : Int) (utc : Nat) : Bool :=
  let now := ((s.sysNow : Int) - (s.up : Int) + inst - s.tim.utc.taiUtc * 1000000000) / 1000000
  let d := (now - utc + 43200000) % 86400000 - 43200000
  decide (2000 < d.natAbs)

/-- A sample accepted by its context at its instant: counts, latency, mask counts, buffer. -/
def acceptSample (r : RawSample) (k : CtxCfg) (inst : Int) (own : Bool) (s : State) : State :=
  let c := r.ctx
  let x := s.ctx c
  let near := match x.lastUp with | some u => decide (r.arrival ≤ u + k.staleMult * k.periodMs * nsPerMs) | none => false
  let dup := x.buf.any (fun y => y.inst == inst)
  let marked := k.kind == .thruster && s.axisMarks c
  let sm : Sample := { inst := inst, vals := scaleVals k r.vals, valid := true, masked := x.mask != 0 }
  let s := updCtx c (fun x => { x with
    samples := satAdd x.samples 1 65535, duplicate := if dup then satAdd x.duplicate 1 255 else x.duplicate
    lastTick := s.tickOf inst, lastUp := some r.arrival, invalidRun := if marked then x.invalidRun + 1 else 0, badLast := false, buf := (insertSample sm x.buf).take bufMax
    clockOdd := match r.utcMs with | some u => s.clockOdd inst u | none => x.clockOdd }) s
  let s := holdMark c 2 (!marked) r.arrival (holdMark c 3 true r.arrival s)
  let s := if marked ∧ 3 ≤ x.invalidRun + 1 ∧ ¬ bitAt x.mask 2 then setMask c 2 s else s
  let s := if near then holdMark c 1 true r.arrival s else holdMark c 1 true r.arrival (holdMark c 1 false r.arrival s)
  if own then setLatency c k (smoothLatency x.latNs ((r.arrival : Int) - inst)) s else s

/-- Collect one sample: its instant from the trigger, from its source, or from its arrival less the latency estimate (R202, R203, R206). -/
def collect (s : State) (r : RawSample) : State :=
  match s.ctxCfg r.ctx with
  | none => s
  | some k =>
    if ¬ r.valid then invalidSample r.ctx s
    else
      let trig := match k.group with | some g => (s.group g).path | none => false
      if trig then
        let g := k.group.getD 0
        let d := k.trigDelayUs * 1000
        match pulseOf (s.group g) r.ctx r.arrival d with
        | none => updCtx r.ctx (fun x => { x with unmatched := satAdd x.unmatched 1 255 }) s
        | some p =>
          let sm : Sample := { inst := p + d, vals := scaleVals k r.vals, valid := true, masked := (s.ctx r.ctx).mask != 0 }
          let s := updGroup g (fun x => { x with pending := x.pending.map (fun i => if i.triggered && i.inst == p then { i with got := i.got ++ [(r.ctx, sm)] } else i) }) s
          acceptSample r k (p + d) true s
      else
        let inst : Int := match r.inst with | some i => i | none => (r.arrival : Int) - (s.ctx r.ctx).latNs
        if (s.tks.upEdge : Int) + 1000000 < inst then rejectSample r.ctx 3 0 s
        else acceptSample r k inst r.inst.isSome s

/-- The samples of the filter window latched in P0, at their own instants (R181, R202). -/
def State.filterSamples (s : State) : List RawSample :=
  s.ctxsDefined.filterMap (fun c =>
    match s.ctxCfg c with
    | some k =>
      match k.src with
      | .filter ch =>
        let o := nth s.dfc.lat ch {}
        some { ctx := c, arrival := s.tks.upEdge, inst := some ((s.tks.prevEdge : Int) - 100 * o.delay), vals := [o.value], valid := o.valid }
      | _ => none
    | none => none)

/-- P0: the samples of the tick are collected; a context whose source is lost is masked SOURCE_LOST (R21, R202, R215). -/
def strCollect (all : List RawSample) (lost : Nat → Bool) (s : State) : State :=
  let s := all.foldl collect { s with str := { s.str with inbox := [] } }
  s.ctxsDefined.foldl (fun s c =>
    if lost c && !bitAt (s.ctx c).mask 3 then setMask c 3 s else if lost c then holdMark c 3 false s.up s else s) s

/-- The solution delivered feeds the contexts of the internal GNSS at the epoch's instant; the reporting antenna goes with a position (R202, R204). -/
def gnssSamples (inst : Nat) (s : State) : State :=
  let v := s.gnb.sol
  let put := fun (s : State) (c : Nat) =>
    match s.ctxCfg c with
    | some k =>
      match k.src with
      | .gnss w =>
        let r : RawSample :=
          { ctx := c, arrival := s.up, inst := some (inst : Int)
            vals := if w = 0 then [v.lat, v.lon, v.hgt, v.ant] else if w = 1 then [v.vn, v.ve, v.vd]
                    else if w = 2 then [v.hdg.toNat] else [v.pitch.toInt, v.roll.toInt]
            valid := if w ≤ 1 then v.solType != 0 else if w = 2 then decide (1 ≤ v.attMode) else decide (2 ≤ v.attMode) }
        arrive r s
      | _ => s
    | none => s
  s.ctxsDefined.foldl put s

/-- The delivery of a solution, with the samples it gives (R157, R202). -/
def navDelivery (r : NavResult) (s : State) : State :=
  match s.gnb.epochs.find? (fun e => e.tick + 3 == s.tks.tickExt) with
  | some e => let s' := navDeliver r s; if s'.gnb.epochs.length < s.gnb.epochs.length then gnssSamples e.up s' else s'
  | none => s

def execNavSolutionDelivery (t : Nat) (r : NavResult) (s : State) : Host.Outcome State Fault Refusal := .next (navDelivery r (start t s))

/-! ## Sentences and templates (R209 to R214) -/

/-- The UARTs are served: their domain runs and AP3 decodes (R614). -/
def State.uartsServed (s : State) : Bool := s.domOk 10 && s.works 3

/-- Contexts fed by a sentence type of a UART. -/
def State.sentenceCtxs (s : State) (uart : Nat) (t : SentenceType) : List Nat :=
  s.ctxsDefined.filter (fun c => match s.ctxCfg c with | some k => k.src == .sentence uart t | none => false)

/-- Count a rejected telegram and record it for its context, or unassigned (R210, R214, R242). -/
def rejectTelegram (uart cause : Nat) (ctxs : List Nat) (s : State) : State :=
  let s := { s with str := { s.str with uartRej := upd s.str.uartRej uart (fun n => satAdd n 1 255) } }
  match ctxs with
  | [] => record 0x0803 2 0xFFFF cause uart s.tickNo s
  | _ => ctxs.foldl (fun s c => rejectSample c cause uart s) s

/-- A talker is accepted by a context (R200, R210). -/
def talkerOk (k : CtxCfg) (talker : List Nat) : Bool :=
  match k.talker with | none => true | some p => talker == [p.1, p.2]

/-- A sentence of a type arrives: accepted sentences feed the contexts of their UART and type, a TTM the contexts of its target (R210 to R213). -/
def sentenceIn (expected : SentenceType) (tg : Telegram) (s : State) : State :=
  if ¬ s.uartsServed ∨ nth s.image.streams.uartMode tg.uart .off ≠ .sentence then s
  else
    let ctxs := s.sentenceCtxs tg.uart expected
    match readSentence tg.bytes with
    | .error c => rejectTelegram tg.uart c ctxs s
    | .ok (talker, type, fields) =>
      if sentenceType type ≠ some expected then s
      else
        let d := sentenceData expected fields
        let right := ctxs.filter (fun c => match s.ctxCfg c with | some k => talkerOk k talker | none => false)
        if right = [] ∧ ctxs ≠ [] then rejectTelegram tg.uart 2 ctxs s
        else
          let s := { s with str := { s.str with uartAcc := upd s.str.uartAcc tg.uart (fun n => satAdd n 1 65535) } }
          let takes := right.filter (fun c => expected != .ttm || (match s.ctxCfg c with | some k => k.field == d.target | none => false))
          takes.foldl (fun s c => arrive { ctx := c, arrival := tg.start, inst := none, vals := d.vals, valid := d.valid, utcMs := d.utc } s) s

def execSentenceHdt (t : Nat) (tg : Telegram) (s : State) : Host.Outcome State Fault Refusal := .next (sentenceIn .hdt tg (start t s))
def execSentenceThs (t : Nat) (tg : Telegram) (s : State) : Host.Outcome State Fault Refusal := .next (sentenceIn .ths tg (start t s))
def execSentenceRot (t : Nat) (tg : Telegram) (s : State) : Host.Outcome State Fault Refusal := .next (sentenceIn .rot tg (start t s))
def execSentenceHrm (t : Nat) (tg : Telegram) (s : State) : Host.Outcome State Fault Refusal := .next (sentenceIn .hrm tg (start t s))
def execSentenceMwv (t : Nat) (tg : Telegram) (s : State) : Host.Outcome State Fault Refusal := .next (sentenceIn .mwv tg (start t s))
def execSentenceGga (t : Nat) (tg : Telegram) (s : State) : Host.Outcome State Fault Refusal := .next (sentenceIn .gga tg (start t s))
def execSentenceGns (t : Nat) (tg : Telegram) (s : State) : Host.Outcome State Fault Refusal := .next (sentenceIn .gns tg (start t s))
def execSentenceVtg (t : Nat) (tg : Telegram) (s : State) : Host.Outcome State Fault Refusal := .next (sentenceIn .vtg tg (start t s))
def execSentenceTtm (t : Nat) (tg : Telegram) (s : State) : Host.Outcome State Fault Refusal := .next (sentenceIn .ttm tg (start t s))

/-- A sentence of a type not taken is counted and ignored; one not accepted by R210 is rejected (R210, R211). -/
def sentenceOther (tg : Telegram) (s : State) : State :=
  if ¬ s.uartsServed ∨ nth s.image.streams.uartMode tg.uart .off ≠ .sentence then s
  else
    match readSentence tg.bytes with
    | .error c => rejectTelegram tg.uart c [] s
    | .ok (_, type, _) =>
      if sentenceType type = none then { s with str := { s.str with uartIgn := upd s.str.uartIgn tg.uart (fun n => satAdd n 1 255) } } else s

def execSentenceOther (t : Nat) (tg : Telegram) (s : State) : Host.Outcome State Fault Refusal := .next (sentenceOther tg (start t s))

/-- A binary telegram of a template: each context takes the fields from SRC_FIELD on that its kind has (R200, R214). -/
def templateIn (tm : Nat) (tg : Telegram) (s : State) : State :=
  match nth s.image.streams.templates tm none with
  | none => s
  | some t =>
    if ¬ s.uartsServed ∨ nth s.image.streams.uartMode tg.uart .off ≠ .template then s
    else
      let ctxs := s.ctxsDefined.filter (fun c => match s.ctxCfg c with | some k => k.src == .template tg.uart tm | none => false)
      if templateOk t tg.bytes then
        let s := { s with str := { s.str with uartAcc := upd s.str.uartAcc tg.uart (fun n => satAdd n 1 65535) } }
        ctxs.foldl (fun s c =>
          match s.ctxCfg c with
          | some k =>
            let fs := (t.fields.drop k.field).take (kindWidth k.kind)
            arrive { ctx := c, arrival := tg.start, inst := none, vals := fs.map (templateField tg.bytes), valid := true } s
          | none => s) s
      else rejectTelegram tg.uart 4 ctxs s

def execTemplateTelegram (t tm : Nat) (tg : Telegram) (s : State) : Host.Outcome State Fault Refusal := .next (templateIn tm tg (start t s))

/-! ## Alignment groups (R219 to R233) -/

/-- Members of a group, by context number. -/
def State.members (s : State) (g : Nat) : List Nat :=
  s.ctxsDefined.filter (fun c => match s.ctxCfg c with | some k => k.group == some g | none => false)

/-- A tick on which a group has an instant (R41, R219). -/
def State.groupTick (s : State) (g : Nat) : Bool :=
  s.tks.running && !(s.members g).isEmpty && s.tks.tickExt % (s.groupCfg g).div == 0

/-- A group's instant: at the edge, or at the pulse while triggered; a 65th pending instant overwrites the oldest (R219, R223, R227, R230). -/
def groupInstant (g : Nat) (s : State) : State :=
  let x := s.group g
  if s.groupTick g && !x.pending.any (fun i => i.tick == s.tks.tickExt) then
    let inst : Int := (s.tks.upEdge : Int) + (if x.triggered then ((s.groupCfg g).offsetUs * 1000 : Nat) else 0)
    let full := decide (64 ≤ x.pending.length)
    let keep := if full then x.pending.drop 1 else x.pending
    let s := updGroup g (fun x => { x with
      pending := keep ++ [{ inst := inst, tick := s.tks.tickExt, triggered := x.triggered }], path := x.triggered, overflow := if full then satAdd x.overflow 1 255 else x.overflow }) s
    recordIf full 0x0809 4 g 1 0 s.tickNo s
  else s

def execGroupInstant (t g : Nat) (s : State) : Host.Outcome State Fault Refusal := .next (groupInstant g (start t s))

/-- The instant a pending instant is released by: for a triggered one with the largest TRIG_DELAY of the members (R229). -/
def State.releaseInst (s : State) (g : Nat) (i : GroupInstant) : Int :=
  if i.triggered then
    i.inst + (((s.members g).foldl (fun m c => match s.ctxCfg c with | some k => max m k.trigDelayUs | none => m) 0) * 1000 : Nat)
  else i.inst

/-- A member holds a sample at or after an instant, or for a triggered instant the pulse's own. -/
def State.memberReady (s : State) (c : Nat) (i : GroupInstant) : Bool :=
  if i.triggered then i.got.any (fun x => x.1 == c) else (s.ctx c).buf.any (fun x => decide (i.inst ≤ x.inst))

/-- Every unmasked member holds its sample (R221, R222). -/
def State.instantReady (s : State) (g : Nat) (i : GroupInstant) : Bool :=
  (s.members g).all (fun c => (s.ctx c).mask != 0 || s.memberReady c i)

/-- The instant is WAIT_LIMIT behind the tick edge (R221). -/
def State.instantLate (s : State) (g : Nat) (i : GroupInstant) : Bool :=
  decide (s.releaseInst g i + ((s.groupCfg g).waitMs * nsPerMs : Nat) ≤ (s.tks.upEdge : Int))

/-- Linear interpolation of one value between two samples; angles by their wrapped difference (R220). -/
def interpolate (angle : Bool) (a b : Int) (ta tb at_ : Int) : Int :=
  if tb ≤ ta then b
  else
    let d := if angle then wrapAngle (b - a) else b - a
    a + roundAway (d * (at_ - ta)) (tb - ta).toNat

/-- A member's value at an instant on the main path, none when it is ABSENT (R220). What a sample carries beside its kind's quantities, such as the reporting antenna, goes with the later of the two (DESIGN CHOICE). -/
def memberValue (k : CtxCfg) (buf : List Sample) (at_ : Int) : Option (List Int) :=
  match (buf.filter (fun x => decide (at_ ≤ x.inst))).getLast?, buf.find? (fun x => decide (x.inst ≤ at_)) with
  | some b, some a =>
    if 2 * k.periodMs * nsPerMs < (b.inst - a.inst).toNat then none
    else some ((List.range b.vals.length).map (fun i => if kindWidth k.kind ≤ i then nth b.vals i 0 else interpolate (kindAngle k.kind i) (nth a.vals i 0) (nth b.vals i 0) a.inst b.inst at_))
  | _, _ => none

/-- The measurement of a member for a released instant (R220, R222, R229). -/
def State.memberMeas (s : State) (i : GroupInstant) (c : Nat) : Meas :=
  let k := (s.ctxCfg c).getD { kind := .generic, src := .gnss 0 }
  let masked := (s.ctx c).mask != 0
  if i.triggered then
    match i.got.find? (fun x => x.1 == c) with
    | some x => { ctx := c, inst := x.2.inst, vals := x.2.vals, masked := masked }
    | none => { ctx := c, inst := i.inst + (k.trigDelayUs * 1000 : Nat), vals := [], masked := masked, absent := true }
  else
    match memberValue k (s.ctx c).buf i.inst with
    | some v => { ctx := c, inst := i.inst, vals := v, masked := masked }
    | none => { ctx := c, inst := i.inst, vals := [], masked := masked, absent := true }

/-- The oldest pending instant of a group is released; by timeout the tick is a miss tick (R221 to R224). -/
def releaseInstant (g : Nat) (i : GroupInstant) (timeout : Bool) (s : State) : State :=
  let ms := (s.members g).map (s.memberMeas i)
  let lag := ((s.tks.upEdge : Int) - s.releaseInst g i) / 1000000
  let x := s.group g
  let due := timeout && oncePerSecond x.toMark s.up
  let s := { s with str := { s.str with wait := s.str.wait ++ ms } }
  let s := updGroup g (fun x => { x with
    pending := x.pending.drop 1, lagMs := min 255 lag.toNat, missNow := x.missNow || timeout, toMark := if due then some s.up else x.toMark }) s
  let absent := maskOf 32 (fun n => match ms[n]? with | some m => m.absent | none => false)
  let n10 := ((true :: (s.group g).misses).take 10).filter (fun b => b)
  recordIf due 0x0804 2 g absent.toNat (i.tick % 2 ^ 32) n10.length s

/-- Release pending instants of a group in order: those complete, and with timeouts allowed those WAIT_LIMIT behind (R221, R223). -/
def releaseGroup (timeouts : Bool) (g : Nat) : Nat → State → State
  | 0, s => s
  | n + 1, s =>
    match (s.group g).pending with
    | [] => s
    | i :: _ =>
      if decide (s.releaseInst g i ≤ (s.tks.upEdge : Int)) && s.instantReady g i then releaseGroup timeouts g n (releaseInstant g i false s)
      else if timeouts && s.instantLate g i then releaseGroup timeouts g n (releaseInstant g i true s)
      else s

/-- Samples of contexts without a group go to fusion one by one, at their own instants (R219). -/
def looseSamples (s : State) : State :=
  let free := s.ctxsDefined.filter (fun c => match s.ctxCfg c with | some k => k.group.isNone | none => false)
  let ms := free.flatMap (fun c => ((s.ctx c).buf.filter (·.fresh)).reverse.map (fun x => ({ ctx := c, inst := x.inst, vals := x.vals, masked := x.masked } : Meas)))
  let s := { s with str := { s.str with wait := s.str.wait ++ ms } }
  free.foldl (fun s c => updCtx c (fun x => { x with buf := x.buf.map (fun y => { y with fresh := false }) }) s) s

/-- P1's alignment: the loose samples, and of every group the instants that are complete (R219, R221). -/
def strAlign (s : State) : State := (List.range 32).foldl (fun s g => releaseGroup false g 64 s) (looseSamples s)

/-- Miss ticks among the last 10, the present one counted (R225). -/
def Group.missCount (x : Group) : Nat := (((x.missNow :: x.misses).take 10).filter (fun b => b)).length

/-- An AUTO group with 5 miss ticks in its last 10 turns to triggered sampling (R225). -/
def groupToTriggered (g : Nat) (s : State) : State :=
  let x := s.group g
  if (s.groupCfg g).mode = .auto ∧ ¬ x.triggered ∧ 5 ≤ x.missCount then
    record 0x0805 4 g 0 ((s.groupCfg g).syncOut.getD 0) s.tickNo (updGroup g (fun x => { x with triggered := true, trigSince := s.up }) s)
  else s

def execGroupToTriggered (t g : Nat) (s : State) : Host.Outcome State Fault Refusal := .next (groupToTriggered g (start t s))

/-- After FB_HOLD an AUTO group returns to the main path with its miss ticks at 0 (R225). -/
def groupToMain (g : Nat) (s : State) : State :=
  let x := s.group g
  if (s.groupCfg g).mode = .auto ∧ x.triggered ∧ x.trigSince + (s.groupCfg g).fbHoldS * nsPerS ≤ s.up then
    record 0x0806 3 g ((s.up - x.trigSince) / nsPerS : Nat) 0 s.tickNo
      (updGroup g (fun x => { x with triggered := false, misses := List.replicate 10 false, missNow := false }) s)
  else s

def execGroupToMain (t g : Nat) (s : State) : Host.Outcome State Fault Refusal := .next (groupToMain g (start t s))

/-- The pulse of a triggered instant; it leaves the part only through an open gate (R22, R227, R231). -/
def syncOutPulse (g : Nat) (s : State) : State :=
  let x := s.group g
  match (s.groupCfg g).syncOut with
  | some k =>
    if x.pending.any (fun i => i.triggered && i.tick == s.tks.tickExt) && bitAt s.saf.gateSync k && s.saf.keepAlive
        && s.sys.state == .active then
      emit (.syncPulse k (s.groupCfg g).widthUs (!(s.groupCfg g).pol)) s
    else s
  | none => s

def execSyncOutPulse (t g : Nat) (s : State) : Host.Outcome State Fault Refusal := .next (syncOutPulse g (start t s))

/-- At the tick edge the miss ticks of the groups move on (R224). -/
def groupEdges (s : State) : State :=
  { s with str := { s.str with groups := s.str.groups.map (fun x => { x with misses := (x.missNow :: x.misses).take 10, missNow := false }) } }

/-- Contexts and groups at start step S10: LAT_NOM, CONF_INIT, and groups of mode TRIGGERED (R207, R217, R225). -/
def strStart (s : State) : State :=
  let s := { s with str := { s.str with
    ctxs := (List.range 256).map (fun c => match s.ctxCfg c with
      | some k => { (s.ctx c) with latNs := k.latNomUs * 1000, conf := k.confInit, lastUp := some s.up }
      | none => s.ctx c) } }
  (List.range 32).foldl (fun s g =>
    if (s.groupCfg g).mode = .triggered ∧ (s.members g).length ≠ 0 then
      record 0x0805 4 g 1 ((s.groupCfg g).syncOut.getD 0) s.tickNo (updGroup g (fun x => { x with triggered := true, path := true, trigSince := s.up }) s)
    else s) s

end Sys2Proof.Machine
end

