-- ==== Sys2Proof/Machine/Project.lean ====
section
/-! DEFINITION. The frame projector: rotations, the tangent plane, and the projection of each kind (R234 to R239). -/

namespace Sys2Proof.Machine

open Sys2Proof

/-- A product in Q2.30, shifted right by 30 and rounded to nearest, ties away from 0 (R234). -/
def q30 (a b : Int) : Int := roundAway (a * b) (2 ^ 30)

/-- A rotation matrix in Q2.30, by rows. -/
structure Rot where
  r1 : Int × Int × Int
  r2 : Int × Int × Int
  r3 : Int × Int × Int
  deriving DecidableEq, Repr

/-- Rz(heading) × Ry(pitch) × Rx(roll), binary angles (R234). -/
def rotation (h p r : Int) : Rot :=
  let c := fun (x : Int) => cosQ30 x
  let n := fun (x : Int) => sinQ30 x
  let ch := c h
  let sh := n h
  let cp := c p
  let sp := n p
  let cr := c r
  let sr := n r
  { r1 := (q30 ch cp, q30 (q30 ch sp) sr - q30 sh cr, q30 (q30 ch sp) cr + q30 sh sr)
    r2 := (q30 sh cp, q30 (q30 sh sp) sr + q30 ch cr, q30 (q30 sh sp) cr - q30 ch sr)
    r3 := (-sp, q30 cp sr, q30 cp cr) }

/-- A row times a vector; the sum of the products is shifted and rounded once, as the worked example of R236 shows (DEDUCED). -/
def rowMul (r v : Int × Int × Int) : Int := roundAway (r.1 * v.1 + r.2.1 * v.2.1 + r.2.2 * v.2.2) (2 ^ 30)

/-- A rotation applied to a vector (R234). -/
def rotate (m : Rot) (v : Int × Int × Int) : Int × Int × Int := (rowMul m.r1 v, rowMul m.r2 v, rowMul m.r3 v)

/-- Sum of two vectors. -/
def addV (a b : Int × Int × Int) : Int × Int × Int := (a.1 + b.1, a.2.1 + b.2.1, a.2.2 + b.2.2)

/-! ## Attitude at an instant (R235) -/

/-- Interpolation between two points of the history. -/
def attBetween (a b : AttPoint) (at_ : Int) : AttPoint :=
  let f := fun (x y : Int) => interpolate true x y a.up b.up at_
  { up := at_, hdg := f a.hdg b.hdg, pitch := f a.pitch b.pitch, roll := f a.roll b.roll
    rates := (List.range 3).map (fun i => interpolate false (nth a.rates i 0) (nth b.rates i 0) a.up b.up at_) }

/-- The point of the history at an instant; newest first, the oldest stands for all before it. -/
def attIn (at_ : Int) : List AttPoint → Option AttPoint
  | [] => none
  | [a] => some a
  | b :: a :: rest => if a.up ≤ at_ then some (attBetween a b at_) else attIn at_ (a :: rest)

/-- The fused attitude at an instant: interpolated from the history, extrapolated by the rates over at most 2 ticks, none later (R235). -/
def attitudeAt (atts : List AttPoint) (at_ : Int) : Option AttPoint :=
  match atts with
  | [] => none
  | a :: _ =>
    if at_ ≤ a.up then attIn at_ atts
    else if at_ ≤ a.up + 2000000 then
      let f := fun (x : Int) (i : Nat) => x + roundAway (nth a.rates i 0 * (at_ - a.up)) 1000000000
      some { a with up := at_, roll := f a.roll 0, pitch := f a.pitch 1, hdg := f a.hdg 2 }
    else none

/-! ## The tangent plane (R237) -/

/-- Scale of the geodetic computation. -/
def geoOne : Int := 2 ^ 80

/-- First eccentricity squared of WGS 84 at the internal scale, from 1/f = 298.257223563. -/
def wgsE2 : Int := (2 * 298257223563 - 1000000000) * 1000000000 * 2 ^ 80 / (298257223563 * 298257223563)

/-- Sine and cosine of a latitude or longitude on the scale 2^31 = 180°. -/
def geoSin (a : Int) : Int := sinTurn a 4294967296
def geoCos (a : Int) : Int := sinTurn (a + 1073741824) 4294967296

/-- Earth-centred position in 2^-20 mm of a latitude, longitude and height in mm. -/
def ecef (lat lon hgt : Int) : Int × Int × Int :=
  let s := geoSin lat
  let c := geoCos lat
  let u := geoOne - wgsE2 * (s * s / geoOne) / geoOne
  let root : Int := (isqrt (u * geoOne).toNat : Nat)
  let n := 6378137000 * 2 ^ 20 * geoOne / root
  let h := hgt * 2 ^ 20
  ((n + h) * c / geoOne * geoCos lon / geoOne, (n + h) * c / geoOne * geoSin lon / geoOne, (n * (geoOne - wgsE2) / geoOne + h) * s / geoOne)

/-- A geodetic position on the tangent plane at the origin: north, east, down in mm. -/
def tangentPlane (lat0 lon0 hgt0 lat lon hgt : Int) : Int × Int × Int :=
  let p := ecef lat lon hgt
  let o := ecef lat0 lon0 hgt0
  let dx := p.1 - o.1
  let dy := p.2.1 - o.2.1
  let dz := p.2.2 - o.2.2
  let sl := geoSin lat0
  let cl := geoCos lat0
  let so := geoSin lon0
  let co := geoCos lon0
  let hx := (co * dx + so * dy) / geoOne
  let mm := fun (x : Int) => roundAway x (2 ^ 20)
  (mm ((cl * dz - sl * hx) / geoOne), mm ((co * dy - so * dx) / geoOne), mm (-((cl * hx + sl * dz) / geoOne)))

/-! ## Projection (R236, R237, R239) -/

/-- Two angles added, wrapped as binary angles. -/
def angleAdd (a : Int) (m : Word) : Int := wrapAngle (a + m.toInt)

/-- The heading at an instant as a true bearing's reference (R212). -/
def relBearing (vals : List Int) (a : AttPoint) : Int :=
  if nth vals 3 0 = 1 then wrapAngle (nth vals 1 0 - a.hdg) else nth vals 1 0

/-- Velocity of the lever arm from the yaw rate, 0.1 mm/s from a rate in binary angle per s and mm (R236). -/
def leverVel (rate r : Int) : Int := roundAway (rate * 20 * trigPi * r) (2 ^ 32 * 2 ^ 80)

/-- v of a taut wire: WIRE_DEPTH × (tan alongships, tan athwartships, 1) (R236). -/
def tanMul (depth a : Int) : Int :=
  let c := cosQ30 a
  if c = 0 then 0 else if 0 < c then roundAway (depth * sinQ30 a) c.toNat else roundAway (-(depth * sinQ30 a)) (-c).toNat

/-- The values of a measurement at the control point in the local frame, and whether FAR (R236, R237). -/
def projected (im : ImgStreams) (k : CtxCfg) (lever : Int × Int × Int) (a : AttPoint) (vals : List Int) : List Int × Bool :=
  let v := fun (i : Nat) => nth vals i 0
  let rot := rotation a.hdg a.pitch a.roll
  let l := rotate rot lever
  let mount := rotation k.mountYaw.toInt k.mountPitch.toInt k.mountRoll.toInt
  match k.kind with
  | .positionGeo =>
    let p := tangentPlane im.originLat im.originLon im.originHgt (v 0) (v 1) (v 2)
    ([p.1 - l.1, p.2.1 - l.2.1, p.2.2 - l.2.2], decide (20000000 * 20000000 < p.1 * p.1 + p.2.1 * p.2.1))
  | .positionLocal => ([v 0 - l.1, v 1 - l.2.1, v 2 - l.2.2], false)
  | .velocity =>
    let w := nth a.rates 2 0
    ([v 0 + leverVel w l.2.1, v 1 - leverVel w l.1, v 2], false)
  | .rangeBearing =>
    let b := relBearing vals a
    let ce := cosQ30 (v 2)
    let u := (q30 (q30 (v 0) ce) (cosQ30 b), q30 (q30 (v 0) ce) (sinQ30 b), -(q30 (v 0) (sinQ30 (v 2))))
    let p := rotate rot (addV lever (rotate mount u))
    ([p.1, p.2.1, p.2.2], false)
  | .tautWire =>
    let u := (tanMul im.wireDepth (v 0), tanMul im.wireDepth (v 1), (im.wireDepth : Int))
    let p := rotate rot (addV lever (rotate mount u))
    ([p.1, p.2.1, p.2.2], false)
  | .heading => ([angleAdd (v 0) k.mountYaw], false)
  | .attitude => ([angleAdd (v 0) k.mountPitch, angleAdd (v 1) k.mountRoll], false)
  | .wind => ([angleAdd (v 0) k.mountYaw, v 1], false)
  | _ => (vals, false)

/-- A measurement projected; a value beyond 2^31 − 1 saturates and masks the sample (R239). -/
def projectMeas (s : State) (m : Meas) (a : AttPoint) : Meas :=
  match s.ctxCfg m.ctx with
  | none => m
  | some k =>
    if m.absent then m
    else
      let lever := match k.src, k.kind with
        | .gnss _, .positionGeo => nth s.gnssImg.antPos (nth m.vals 3 0).toNat (0, 0, 0)
        | _, _ => k.lever
      let r := projected s.image.streams k lever a m.vals
      let sat := r.1.any (fun x => decide (2147483647 < x.natAbs))
      { m with vals := r.1.map sat31, far := r.2, sat := sat, masked := m.masked || sat }

/-- Measurements the projector takes in one P1 (R238). -/
def projMax : Nat := 1024

/-- The first measurements of the queue with the attitude they need, up to a limit: projected, and those that wait on (R235, R238). -/
def projectSome (s : State) : Nat → List Meas → List Meas × List Meas
  | _, [] => ([], [])
  | 0, ms => ([], ms)
  | n + 1, m :: ms =>
    match attitudeAt s.fus.atts m.inst with
    | some a => let r := projectSome s n ms; (projectMeas s m a :: r.1, r.2)
    | none => let r := projectSome s (n + 1) ms; (r.1, m :: r.2)

/-- The projector in P1: up to 1,024 measurements; STR_PROJ_DEFER for those beyond, at most once a second (R238). -/
def projector (s : State) : State :=
  let room := projMax - s.str.proj.length
  let r := projectSome s room s.str.wait
  let excess := (r.2.filter (fun m => (attitudeAt s.fus.atts m.inst).isSome)).length
  let due := decide (0 < excess) && oncePerSecond s.str.deferMark s.up
  let s := { s with str := { s.str with proj := s.str.proj ++ r.1, wait := r.2, deferMark := if due then some s.up else s.str.deferMark } }
  recordIf due 0x0808 4 excess 0 0 s.tickNo s

/-- The wait of an instant has reached WAIT_LIMIT in P1: it is released with its late members ABSENT, and projected (R221, R224). -/
def groupTimeout (g : Nat) (s : State) : State :=
  if s.tks.phase = 1 ∧ s.tks.phaseOpen then projector (releaseGroup true g 64 s) else s

def execGroupReleaseTimeout (t g : Nat) (s : State) : Host.Outcome State Fault Refusal := .next (inTick (groupTimeout g) (start t s))

end Sys2Proof.Machine
end

