-- ==== Sys2Proof/Machine/Fusion.lean ====
section
/-! DEFINITION. Fusion: the estimator and its replay, references and their arbitration, reflector tracks, draught and trim, and the state record (R244 to R292). -/

namespace Sys2Proof.Machine

open Sys2Proof

def State.fusImg (s : State) : ImgFusion := s.image.fusion
def State.ref (s : State) (r : Nat) : RefSt := nth s.fus.refs r {}
def updRef (r : Nat) (f : RefSt → RefSt) (s : State) : State := { s with fus := { s.fus with refs := upd s.fus.refs r f } }
def State.arb (s : State) (q : Nat) : Arb := nth s.fus.arb q {}
def updArb (q : Nat) (f : Arb → Arb) (s : State) : State := { s with fus := { s.fus with arb := upd s.fus.arb q f } }
def State.refCfg (s : State) (r : Nat) : Option RefCfg := nth s.fusImg.refs r none
def State.trk (s : State) (t : Nat) : Track := nth s.fus.trks t {}
def updTrk (t : Nat) (f : Track → Track) (s : State) : State := { s with fus := { s.fus with trks := upd s.fus.trks t f } }

/-- The references of a quantity: 0 POSITION, 1 HEADING (R263). -/
def State.refsOf (s : State) (q : Nat) : List Nat :=
  (List.range 16).filter (fun r => match s.refCfg r with | some k => k.heading == (q == 1) | none => false)

/-- The reference a context belongs to (R290). -/
def State.refOfCtx (s : State) (c : Nat) : Option Nat :=
  (List.range 16).find? (fun r => match s.refCfg r with | some k => k.ctxs.contains c | none => false)

/-- The rank of a reference: the highest of its members (R263). -/
def State.refRank (s : State) (r : Nat) : Nat :=
  match s.refCfg r with
  | some k => k.ctxs.foldl (fun m c => match s.ctxCfg c with | some x => max m x.rank | none => m) 0
  | none => 0

/-- The kind of a reference's first member. -/
def State.refKind (s : State) (r : Nat) : Option StreamKind :=
  match s.refCfg r with
  | some k => (k.ctxs.head?.bind s.ctxCfg).map (·.kind)
  | none => none

/-! ## Variances and scalars (R247, R248, R266) -/

/-- SIGMA² × (128 / WEIGHT) × (255 / CONF) with 24 fraction bits; none when the context does not enter (R247). -/
def State.variance (s : State) (c : Nat) : Option Nat :=
  match s.ctxCfg c with
  | some k =>
    let conf := (s.ctx c).conf
    if k.weight = 0 ∨ conf = 0 then none
    else
      let sg := nth s.fusImg.sigma c 0
      some (sg * sg * 32640 * 2 ^ 24 / (k.weight * conf))
  | none => none

/-- The anchor of the track that last held a target of a reference, fixed and anchored (R279). -/
def State.trackAnchor (s : State) (r target : Nat) : Option (Int × Int) :=
  match s.fus.trks.find? (fun t => t.state == 3 && t.anchored && t.refNo == r && t.target == target) with
  | some t => some (t.anchorN, t.anchorE)
  | none => none

/-- The components of a measurement that enter the estimate; a detection or wire gives the position from its anchor (R201, R236, R279, R281). -/
def State.components (s : State) (m : Meas) : List Int :=
  match s.ctxCfg m.ctx with
  | none => []
  | some k =>
    let v := fun (i : Nat) => nth m.vals i 0
    match k.kind with
    | .positionGeo | .positionLocal | .velocity => [v 0, v 1]
    | .heading => [v 0]
    | .attitude => [v 0, v 1]
    | .rate => m.vals
    | .rangeBearing =>
      match s.refOfCtx m.ctx with
      | some r => match s.trackAnchor r k.field with | some a => [a.1 - v 0, a.2 - v 1] | none => []
      | none => []
    | .tautWire =>
      match s.refOfCtx m.ctx with
      | some r => match (s.ref r).anchor with | some a => [a.1 - v 0, a.2 - v 1] | none => []
      | none => []
    | _ => []

/-- The scalars of a measurement, in order of component, with their instant against the estimate's (R248). -/
def State.scalars (s : State) (m : Meas) (at_ : Int) : List Scalar :=
  match s.ctxCfg m.ctx, s.variance m.ctx with
  | some k, some var =>
    let cs := s.components m
    (List.range cs.length).map (fun i => { kind := kindCode k.kind, comp := i, value := nth cs i 0, var := var, ofs := m.inst - at_ })
  | _, _ => []

/-- A measurement enters the estimate: neither masked nor absent nor of a suspended reference (R249, R271). -/
def State.enters (s : State) (m : Meas) : Bool :=
  !m.masked && !m.absent && (match s.refOfCtx m.ctx with | some r => !(s.ref r).suspended | none => true)

/-- Order of R248: instant, then context. -/
def measOrder (l : List Meas) : List Meas := sortBy (fun m => m.inst) (sortBy (fun m => (m.ctx : Int)) l)

/-! ## The estimator (R244 to R246) -/

/-- Saturation to a signed 64-bit value. -/
def sat64 (x : Int) : Int := clampI (-9223372036854775808) 9223372036854775807 x

/-- An estimate with every element held in 64 bits (R244, R245). -/
def satEst (e : Est) : Est := { x := e.x.map sat64, p := e.p.map sat64 }

/-- The first element that saturated, states before the covariance (R245). -/
def satIndex (e : Est) : Option (Nat × Nat) :=
  let out := fun (v : Int) => sat64 v != v
  match e.x.findIdx? out with
  | some i => some (i, 0)
  | none => (e.p.findIdx? out).map (fun i => (i, 1))

/-- An estimate in the making, with the first saturation seen. -/
structure EstRun where
  est : Est
  sat : Option (Nat × Nat) := none
  deriving DecidableEq, Repr

/-- Take a new value of the estimate. -/
def takeEst (e : Est) (r : EstRun) : EstRun := { est := satEst e, sat := if r.sat.isSome then r.sat else satIndex e }

/-- Propagation over an interval (R246). -/
def State.propagateEst (s : State) (dt : Int) (r : EstRun) : EstRun :=
  if dt ≤ 0 then r else takeEst (Config.propagate s.fusImg s.fus.massFactor s.fus.achieved dt r.est) r

/-- The scalars applied one at a time (R248). -/
def State.applyScalars (s : State) (l : List Scalar) (r : EstRun) : EstRun :=
  l.foldl (fun r x => takeEst (Config.update s.fusImg x r.est) r) r

/-- Information of a list of measurements about a snapshot (R255). -/
def State.informed (s : State) (sn : Snap) (ms : List Meas) : Snap :=
  { sn with info := (ms.flatMap (fun m => s.scalars m sn.up)).foldl (fun i x => Config.addInfo s.fusImg x sn.est i) sn.info }

/-! ## Late samples and replay (R252 to R262) -/

/-- Replay from a snapshot up to an instant: each interval's late samples are added to its information, the interval is propagated and its information combined, and the snapshot that ends it is rewritten when it lies before the end (R257). The list holds the snapshots that follow, oldest first. -/
def State.replay (s : State) (late : List Meas) (end_ : Int) (sn : Snap) : List Snap → List Snap × EstRun
  | [] =>
    let sn := s.informed sn (late.filter (fun m => decide (sn.up ≤ m.inst)))
    let r := s.propagateEst (end_ - sn.up) { est := sn.est }
    ([sn], takeEst (Config.combine s.fusImg sn.info r.est) r)
  | nx :: rest =>
    let sn := s.informed sn (late.filter (fun m => decide (sn.up ≤ m.inst ∧ m.inst < nx.up)))
    let r := s.propagateEst (nx.up - sn.up) { est := sn.est }
    let r := takeEst (Config.combine s.fusImg sn.info r.est) r
    let nx := if nx.up < end_ then { nx with est := r.est } else nx
    let o := s.replay late end_ nx rest
    (sn :: o.1, { est := o.2.est, sat := if r.sat.isSome then r.sat else o.2.sat })

/-- The fate of an accepted sample of a context: true when discarded as late (R258). -/
def noteFate (c : Nat) (dropped : Bool) (s : State) : State := updCtx c (fun x => { x with fates := (dropped :: x.fates).take 10 }) s

/-- A late sample older than the history is discarded and counted; FUS_LATE_DROP at most once a second per context (R256). -/
def dropLate (s : State) (m : Meas) : State :=
  let x := s.ctx m.ctx
  let log := s.up :: x.lateLog.filter (fun u => decide (s.up < u + nsPerS))
  let due := oncePerSecond x.lateMark s.up
  let s := updCtx m.ctx (fun x => { x with lateLog := log, lateMark := if due then some s.up else x.lateMark }) s
  let s := noteFate m.ctx true { s with fus := { s.fus with lateDrop := satAdd s.fus.lateDrop 1 65535 } }
  recordIf due 0x0901 3 m.ctx (((s.tks.upEdge : Int) - m.inst) / 1000000) log.length s.tickNo s

/-- Place the late samples of the tick by one replay (R256, R257, R259). -/
def replayLate (late : List Meas) (s : State) : State × EstRun × Option Nat :=
  let snaps := s.fus.snaps.reverse
  match snaps with
  | [] => (late.foldl dropLate s, { est := s.fus.est }, none)
  | oldest :: _ =>
    let gone := late.filter (fun m => decide (m.inst < oldest.up))
    let keep := late.filter (fun m => decide (oldest.up ≤ m.inst))
    let s := gone.foldl dropLate s
    match keep with
    | [] => (s, { est := s.fus.est }, none)
    | m0 :: _ =>
      let first := keep.foldl (fun b m => min b m.inst) m0.inst
      let before := snaps.takeWhile (fun sn => decide (sn.up ≤ first))
      let base := nth before (before.length - 1) oldest
      let r := s.replay (measOrder keep) s.fus.estUp base (snaps.drop before.length)
      let age := ((s.tks.upEdge : Int) - first + 999999) / 1000000
      let s := { s with fus := { s.fus with
          snaps := (before.take (before.length - 1) ++ r.1).reverse
          replays := satAdd s.fus.replays 1 65535, maxDepth := max s.fus.maxDepth (min 1023 age.toNat), maxSamples := max s.fus.maxSamples (min 65535 keep.length) } }
      (s, r.2, some age.toNat)

/-! ## Draught, trim and the vessel model (R283 to R286) -/

/-- The least-squares line through draughts at their positions: value at x = 0 with 32 fraction bits, and the slope as a ratio; none with fewer than two positions (R283). -/
def draughtFit (l : List (Int × Int)) : Option (Int × Int × Int) :=
  let n : Int := l.length
  let sx := l.foldl (fun a p => a + p.1) 0
  let sy := l.foldl (fun a p => a + p.2) 0
  let sxx := l.foldl (fun a p => a + p.1 * p.1) 0
  let sxy := l.foldl (fun a p => a + p.1 * p.2) 0
  let den := n * sxx - sx * sx
  if den = 0 then none else some ((sy * sxx - sx * sxy) * 2 ^ 32 / den, n * sxy - sx * sy, den)

/-- Tangent of a binary angle, Q2.30. -/
def tanQ30 (a : Int) : Int := tanMul (2 ^ 30) a

/-- The low-pass filter of a tick with a time constant in s (R284). -/
def lowPass (tau : Nat) (old new : Int) : Int := old + (new - old) / ((tau * 1000 : Nat) : Int)

/-- The line of DISPL_TABLE at a draught, and the end it is clamped to (R285). -/
def displacement : List (Int × Nat) → Int → Nat × Option Int
  | [], _ => (0, none)
  | [p], _ => (p.2, some p.1)
  | p :: q :: rest, d =>
    if d < p.1 then (p.2, some p.1)
    else if d ≤ q.1 then (((p.2 : Int) + ((q.2 : Int) - p.2) * (d - p.1) / (q.1 - p.1)).toNat, none)
    else displacement (q :: rest) d

/-- Draught and trim in P2, the mass factor, and the draught at each slot (R283 to R286). -/
def draughtWork (s : State) : State :=
  let ofKind := fun (k : StreamKind) => s.fus.draughts.filter (fun p => match s.ctxCfg p.1 with | some x => x.kind == k && (s.ctx p.1).mask == 0 | none => false)
  let pts := (ofKind .draught).map (fun p => (nth s.fusImg.draughtX p.1 0, p.2))
  let given := (ofKind .trim).head?.map (fun p => p.2 * 2 ^ 32)
  let fit := draughtFit pts
  let trimNew : Option Int := match given with
    | some t => some t
    | none => match fit with
      | some f => some ((atan2W (-f.2.1) f.2.2).toInt * 2 ^ 32)
      | none => none
  let first := s.fus.mean.isNone
  let tau := s.fusImg.draughtTauS
  let trim := match trimNew with | some t => if first then t else lowPass tau s.fus.trim t | none => s.fus.trim
  let angle := roundAway trim (2 ^ 32)
  let meanNew : Option Int :=
    match pts with
    | [] => none
    | _ => match given, fit with
      | none, some f => some f.1
      | _, _ => some ((pts.foldl (fun a p => a + p.2 * 2 ^ 32 + q30 (p.1 * 4) (tanQ30 angle) * 2 ^ 30) 0) / (pts.length : Int))
  let held := meanNew.isNone
  let mean := match meanNew with | some m => some (match s.fus.mean with | some o => lowPass tau o m | none => m) | none => s.fus.mean
  let trim := if held then s.fus.trim else trim
  let mm := roundAway (mean.getD 0) (2 ^ 32)
  let angle := roundAway trim (2 ^ 32)
  let disp := displacement s.fusImg.displTable mm
  let factor := if s.fusImg.displTable = [] then 65536 else (disp.1 : Int) * 65536 / (max 1 s.fusImg.displNom : Nat)
  let outside := disp.2.isSome && s.fusImg.displTable != [] && mean.isSome
  let s' := { s with fus := { s.fus with
      mean := mean, trim := trim, massFactor := factor, draughtHeld := held, draughtOut := outside
      slotDraught := (List.range 16).map (fun i => if mean.isNone then 0 else mm - q30 (nth s.fusImg.slotX i 0) (tanQ30 angle)) } }
  recordIf (outside && !s.fus.draughtOut) 0x090D 4 mm (disp.2.getD 0) 0 s.tickNo s'

/-! ## References and arbitration (R263 to R276) -/

/-- A state of the estimate in its unit, rounded (R248). -/
def estVal (e : Est) (i : Nat) : Int := roundAway (nth e.x i 0) (2 ^ 32)

/-- The fused velocity in the local frame, 0.1 mm/s: north and east. -/
def estVel (e : Est) : Int × Int :=
  let c := cosQ30 (estVal e 2)
  let n := sinQ30 (estVal e 2)
  (q30 (estVal e 3) c - q30 (estVal e 4) n, q30 (estVal e 3) n + q30 (estVal e 4) c)

/-- A velocity in 0.1 mm/s over an interval in ns, mm. -/
def travel (v dt : Int) : Int := roundAway (v * dt) 10000000000

/-- Fixed, anchored tracks of a reference. -/
def State.fixedTracks (s : State) (r : Nat) : List Track := s.fus.trks.filter (fun t => t.state == 3 && t.anchored && t.refNo == r)

/-- The value a range-bearing reference gives: the mean of its tracks' positions weighted by their confidence (R280). -/
def State.trackValue (s : State) (r : Nat) : Option (List Int) :=
  let ts := s.fixedTracks r
  let w : Nat := ts.foldl (fun a t => a + t.conf) 0
  if w = 0 then none
  else some [roundAway (ts.foldl (fun a t => a + (t.anchorN - t.relN) * t.conf) 0) w, roundAway (ts.foldl (fun a t => a + (t.anchorE - t.relE) * t.conf) 0) w]

/-- The latest measurement of a context. -/
def noteMeas (s : State) (m : Meas) : State :=
  updCtx m.ctx (fun x => { x with meas := match x.meas with
    | some o => if o.1 ≤ m.inst then some (m.inst, m.vals, m.masked) else some o
    | none => some (m.inst, m.vals, m.masked) }) s

/-- Keep the latest unmasked sample of each reference (R265), set a taut wire's anchor from its first (R281), and note draughts and the contexts' latest values. -/
def noteSample (s : State) (m : Meas) : State :=
  if m.absent then s
  else
    let s := noteMeas s m
    match s.ctxCfg m.ctx with
    | none => s
    | some k =>
      let s := if k.kind = .draught ∨ k.kind = .trim then
          { s with fus := { s.fus with draughts := if m.masked then assocDel s.fus.draughts m.ctx else assocSet s.fus.draughts m.ctx (nth m.vals 0 0) } } else s
      match s.refOfCtx m.ctx with
      | none => s
      | some r =>
        if m.masked then s
        else
          let s := if k.kind = .tautWire ∧ (s.ref r).anchor.isNone then
              updRef r (fun x => { x with anchor := some ((estVal s.fus.est 0) + nth m.vals 0 0, (estVal s.fus.est 1) + nth m.vals 1 0) }) s else s
          let v := if k.kind = .rangeBearing then (s.trackValue r).getD [] else s.components m
          let newer := match (s.ref r).last with | some o => decide (o.1 ≤ m.inst) | none => true
          if newer && v != [] then updRef r (fun x => { x with last := some (m.inst, v, m.ctx) }) s else s

/-- A reference is available (R264). -/
def State.refAvail (s : State) (r : Nat) : Bool :=
  match s.refCfg r with
  | none => false
  | some k =>
    k.ctxs.any (fun c => (s.ctx c).mask == 0 && (match s.ctxCfg c, (s.ctx c).lastUp with
        | some x, some u => decide (s.tks.upEdge ≤ u + 2 * x.periodMs * nsPerMs)
        | _, _ => false)) &&
    (match s.refKind r with
     | some .rangeBearing => !(s.fixedTracks r).isEmpty
     | some .tautWire => (s.ref r).anchor.isSome
     | _ => true)

/-- The value of a reference at the edge and its effective variance; none when its latest sample is older than 2 × PERIOD (R265). -/
def State.refValue (s : State) (r : Nat) : Option (List Int × Nat) :=
  match (s.ref r).last with
  | none => none
  | some (inst, v, c) =>
    match s.ctxCfg c, s.variance c with
    | some k, some var =>
      let dt := (s.tks.upEdge : Int) - inst
      if 2 * k.periodMs * nsPerMs < dt.toNat then none
      else
        let vel := (estVel s.fus.est)
        if k.kind = .heading then some ([wrapAngle (nth v 0 0 + roundAway ((estVal s.fus.est 5) * dt) 1000000000)], var)
        else some ([nth v 0 0 + travel vel.1 dt, nth v 1 0 + travel vel.2 dt], var)
    | _, _ => none

/-- A wrapped angle in 0.001°. -/
def milliDeg (a : Int) : Int := roundAway (wrapAngle a * 360000) 4294967296

/-- The squared distance of two values: horizontal, or of the wrapped angle in 0.001° (R266). -/
def dist2 (a b : List Int) : Nat :=
  match a, b with
  | [x], [y] => let d := milliDeg (x - y); (d * d).toNat
  | _, _ => let n := nth a 0 0 - nth b 0 0; let e := nth a 1 0 - nth b 1 0; (n * n + e * e).toNat

/-- A normalised distance in 0.1 σ from a squared distance and a variance with 24 fraction bits (R266). -/
def norm10 (d2 var : Nat) : Nat := if var = 0 then 65535 else isqrt (d2 * 100 * 2 ^ 24 / var)

/-- d between two references' values (R266). -/
def refD (a b : List Int × Nat) : Nat := norm10 (dist2 a.1 b.1) (a.2 + b.2)

/-- The median of a list; with an even count the mean of the two middle values (R269). -/
def median (l : List Int) : Int :=
  let s := sortBy id l
  let n := s.length
  if n % 2 = 1 then nth s (n / 2) 0 else roundAway (nth s (n / 2 - 1) 0 + nth s (n / 2) 0) 2

/-- Give a reference its last d. -/
def setD (r d : Nat) (s : State) : State := updRef r (fun x => { x with d := min 65535 d }) s

/-- VOTE: distances from the median, and the runs above CONTRA_LIMIT (R269, R270). -/
def voteStep (q : Nat) (rs : List Nat) (s : State) : State :=
  let vs := rs.filterMap (fun r => (s.refValue r).map (fun v => (r, v)))
  match vs with
  | [] => s
  | (_, v0) :: _ =>
    let base := nth v0.1 0 0
    let med := if q = 1 then [base + median (vs.map (fun v => wrapAngle (nth v.2.1 0 0 - base)))]
      else [median (vs.map (fun v => nth v.2.1 0 0)), median (vs.map (fun v => nth v.2.1 1 0))]
    vs.foldl (fun s v =>
      let d := norm10 (dist2 v.2.1 med) v.2.2
      updRef v.1 (fun x => { x with d := min 65535 d, outCnt := if s.fusImg.contraLimit < d then x.outCnt + 1 else 0 }) s) s

/-- PAIR or DISPUTE: d of the two, and its runs above and at or below CONTRA_LIMIT (R268, R272). -/
def pairStep (q a b : Nat) (s : State) : State :=
  match s.refValue a, s.refValue b with
  | some x, some y =>
    let d := refD x y
    let hi := decide (s.fusImg.contraLimit < d)
    updArb q (fun m => { m with contra := if hi then m.contra + 1 else 0, agree := if hi then 0 else m.agree + 1 }) (setD b d (setD a d s))
  | _, _ => s

/-- The state confidence of a quantity (R275). -/
def State.arbConf (s : State) (m : Arb) : Nat :=
  match m.state with
  | 4 => 255
  | 3 => 192
  | 2 => 128
  | 1 | 5 =>
    let run := s.up - m.drSince.getD s.up
    96 - min 96 (96 * run / (s.fusImg.drLimitS * nsPerS))
  | _ => 0

/-- Arbitration of a quantity in P2; a dispute goes on until one of its endings (R267, R271 to R273, R276). -/
def arbStep (q : Nat) (s : State) : State :=
  let m := s.arb q
  let rs := (s.refsOf q).filter (fun r => s.refAvail r && !(s.ref r).suspended)
  let s := if m.state = 5 then pairStep q m.refA m.refB s
    else
      match rs with
      | [] => if m.state = 0 then s else if m.state = 1 then s else updArb q (fun m => { m with state := 1, drSince := some s.up }) s
      | a :: rest =>
        let s := recordIf (m.state == 0 && m.drSince.isSome) 0x0908 4 q a 0 s.tickNo s
        match rest with
        | [] => updArb q (fun m => { m with state := 2, drSince := none }) s
        | [b] =>
          let same := decide (m.state = 3 ∧ m.refA = a ∧ m.refB = b)
          let s := updArb q (fun m => { m with state := 3, refA := a, refB := b, drSince := none, contra := if same then m.contra else 0, agree := 0 }) s
          pairStep q a b s
        | _ => voteStep q rs (updArb q (fun m => { m with state := 4, drSince := none }) s)
  let s := if (s.arb q).state = 4 then s else (s.refsOf q).foldl (fun s r => updRef r (fun x => { x with outCnt := 0 }) s) s
  updArb q (fun m => { m with conf := s.arbConf m }) s

/-- Fusion's report on the samples of JUDGED contexts: consistent while the innovation is at or below CONTRA_LIMIT (R216, R274). -/
def judgeConsistent (s : State) (m : Meas) : State :=
  if bitAt (s.ctx m.ctx).mask 0 && !m.absent then
    let ok := decide (Config.innovation s.fusImg (s.scalars m s.fus.estUp) s.fus.est ≤ s.fusImg.contraLimit)
    holdMark m.ctx 0 ok s.up s
  else s

/-- An outlier's flag stands while its members are JUDGED. -/
def refreshOutliers (s : State) : State :=
  { s with fus := { s.fus with refs := (List.range 16).map (fun r =>
      let x := s.ref r
      match s.refCfg r with
      | some k => { x with outlier := x.outlier && k.ctxs.any (fun c => bitAt (s.ctx c).mask 0) }
      | none => x) } }

/-! ## Reflector tracks (R277 to R282) -/

/-- A detection goes to its reference's scan; the first scan begins at the first tick edge at or after the first detection (R277). -/
def noteDetection (s : State) (m : Meas) : State :=
  match s.ctxCfg m.ctx with
  | some k =>
    if k.kind = .rangeBearing ∧ ¬ m.masked ∧ ¬ m.absent then
      match s.refOfCtx m.ctx with
      | some r =>
        let vel := (estVel s.fus.est)
        let dt := m.inst - s.fus.estUp
        let d : Detection := { ctx := m.ctx, target := k.field, inst := m.inst, relN := nth m.vals 0 0, relE := nth m.vals 1 0
                               posN := (estVal s.fus.est 0) + travel vel.1 dt + nth m.vals 0 0, posE := (estVal s.fus.est 1) + travel vel.2 dt + nth m.vals 1 0 }
        let sc := match nth s.fus.scans r none with
          | some x => some (x.1, x.2 ++ [d])
          | none => some (s.tks.upEdge, [d])
        { s with fus := { s.fus with scans := put s.fus.scans r sc } }
      | none => s
    else s
  | none => s

/-- Predicted position of a track after one scan. -/
def Track.predict (t : Track) (ms : Nat) : Int × Int := (t.n + roundAway (t.vn * ms) 10000, t.e + roundAway (t.ve * ms) 10000)

/-- The nearest track of the reference without an association in the scan, within TRK_GATE (R278). -/
def State.nearestTrack (s : State) (r ms : Nat) (used : List Nat) (d : Detection) : Option Nat :=
  let d2 := fun (t : Nat) =>
    let p := (s.trk t).predict ms
    ((p.1 - d.posN) * (p.1 - d.posN) + (p.2 - d.posE) * (p.2 - d.posE)).toNat
  let gate := s.fusImg.trkGate
  (((List.range 64).filter (fun t => (s.trk t).state != 0 && (s.trk t).refNo == r && !used.contains t && decide (d2 t ≤ gate * gate))).foldl
    (fun b t => match b with | none => some t | some x => if d2 t < d2 x then some t else some x) none)

/-- An association: confidence, and the alpha-beta filter with α = 0.5 and β = 0.1 (R279). -/
def associate (hit ms : Nat) (d : Detection) (t : Track) : Track :=
  let p := t.predict ms
  let rn := d.posN - p.1
  let re := d.posE - p.2
  { t with conf := satAdd t.conf hit 255, n := p.1 + roundAway rn 2, e := p.2 + roundAway re 2
           vn := t.vn + roundAway (rn * 1000) ms, ve := t.ve + roundAway (re * 1000) ms
           hits := (true :: t.hits).take 5, missRun := 0, target := d.target, relN := d.relN, relE := d.relE, lived := t.lived + 1 }

/-- A miss: confidence falls, the position is predicted (R279). -/
def missTrack (miss ms : Nat) (t : Track) : Track :=
  let p := t.predict ms
  { t with conf := t.conf - miss, n := p.1, e := p.2, hits := (false :: t.hits).take 5, missRun := min 5 (t.missRun + 1), lived := t.lived + 1 }

/-- Birth of a tentative track (R279). -/
def birth (r : Nat) (d : Detection) : Track :=
  { state := 1, refNo := r, conf := 64, hits := [true], target := d.target, n := d.posN, e := d.posE, relN := d.relN, relE := d.relE, lived := 1 }

/-- A detection with no track and no free slot; FUS_TRK_FULL at most once a second (R278). -/
def trackFull (r : Nat) (s : State) : State :=
  let log := s.up :: (nth s.fus.fullCnt r []).filter (fun u => decide (s.up < u + nsPerS))
  let due := oncePerSecond (nth s.fus.fullMark r none) s.up
  let s := { s with fus := { s.fus with fullCnt := put s.fus.fullCnt r log, fullMark := if due then put s.fus.fullMark r (some s.up) else s.fus.fullMark } }
  recordIf due 0x090B 3 r log.length 0 s.tickNo s

/-- The detections of a scan in order: associations, then births; the tracks used (R278). -/
def takeDetections (r ms : Nat) : List Detection → List Nat → State → List Nat × State
  | [], used, s => (used, s)
  | d :: ds, used, s =>
    match s.nearestTrack r ms used d with
    | some t => takeDetections r ms ds (t :: used) (updTrk t (associate s.fusImg.trkHit ms d) s)
    | none =>
      match (List.range 64).find? (fun t => (s.trk t).state == 0) with
      | some t => takeDetections r ms ds (t :: used) (updTrk t (fun _ => birth r d) s)
      | none => takeDetections r ms ds used (trackFull r s)

/-- Why a track is deleted: 0 misses, 1 confidence, 2 not confirmed (R279). -/
def deleteCause (drop : Nat) (t : Track) : Option Nat :=
  if 5 ≤ t.missRun then some 0
  else if t.conf < drop then some 1
  else if t.state = 1 ∧ 5 ≤ t.lived ∧ (t.hits.filter (fun b => b)).length < 3 then some 2
  else none

/-- Confirmation, deletion, fixed and anchor of a track at the close of its scan (R279, R282). -/
def settleTrack (s : State) (t : Nat) : State :=
  let x := s.trk t
  match deleteCause s.fusImg.trkDrop x with
  | some c => record 0x090A 2 t c x.lived s.tickNo (updTrk t (fun _ => {}) s)
  | none =>
    let confirms := decide (x.state = 1 ∧ 3 ≤ (x.hits.filter (fun b => b)).length)
    let s := recordIf confirms 0x0909 2 t x.refNo x.n x.e s
    let conf := confirms || decide (2 ≤ x.state)
    let lim := s.fusImg.trkFixedSpeed
    let fixed := conf && decide ((x.vn * x.vn + x.ve * x.ve).toNat < lim * lim)
    let dr := (s.arb 0).state == 0 || (s.arb 0).state == 1 || (s.arb 0).state == 5
    updTrk t (fun x => { x with
      state := if fixed then 3 else if conf then 2 else x.state, anchored := fixed
      anchorN := if fixed && !x.anchored then x.n else x.anchorN, anchorE := if fixed && !x.anchored then x.e else x.anchorE
      drAnchor := if fixed && !x.anchored then dr else fixed && x.drAnchor }) s

/-- The tracks of a reference: misses of those without an association, then each is settled (R279). -/
def closeTracks (r ms : Nat) (missed : List Nat) (s : State) : State :=
  let s := missed.foldl (fun s t => updTrk t (missTrack s.fusImg.trkMiss ms) s) s
  ((List.range 64).filter (fun t => (s.trk t).state != 0 && (s.trk t).refNo == r)).foldl settleTrack s

/-- The scan of a reference closes in the P2 that follows its end (R277 to R279). -/
def scanClose (r : Nat) (s : State) : State :=
  match nth s.fus.scans r none with
  | none => s
  | some (start, ds) =>
    let ms := nth s.fusImg.scanPeriodMs r 1000
    let end_ := start + ms * nsPerMs
    if end_ ≤ s.tks.upEdge then
      let now := ds.filter (fun (d : Detection) => decide (d.inst < end_))
      let later := ds.filter (fun (d : Detection) => decide ((end_ : Int) ≤ d.inst))
      let order := sortBy (fun (d : Detection) => (d.ctx : Int)) (sortBy (fun (d : Detection) => (d.target : Int)) now)
      let old := (List.range 64).filter (fun t => (s.trk t).state != 0 && (s.trk t).refNo == r)
      let u := takeDetections r ms order [] s
      let s := closeTracks r ms (old.filter (fun t => !u.1.contains t)) u.2
      { s with fus := { s.fus with scans := put s.fus.scans r (some (end_, later)) } }
    else s

def execScanClose (t r : Nat) (s : State) : Host.Outcome State Fault Refusal := .next (inTick (scanClose r) (start t s))

/-! ## P2 (R250, R287) -/

/-- Index of a diagonal element in the upper triangle by rows. -/
def diagIdx (i : Nat) : Nat := i * 15 - i * (i - 1) / 2

/-- 1σ of a state in its unit. -/
def estSigma (e : Est) (i : Nat) : Nat := isqrt (((nth e.p (diagIdx i) 0).toNat) / 2 ^ 24)

/-- Saturation of an output to 32 bits (R287). -/
def sat32 (x : Int) : Int := clampI (-2147483648) 2147483647 x

/-- The state record of the tick (R275, R287). Angles are binary angles of 32 bits. -/
def State.fusRecord (s : State) (retro : Option Nat) (far : Bool) : FusRec :=
  let e := s.fus.est
  let v := fun (i : Nat) => sat32 ((estVal e i))
  let excess := [0, 1, 3, 4, 5, 6, 7, 8, 9, 11, 13].any (fun i => sat32 ((estVal e i)) != (estVal e i))
  { tickNo := s.tickNo, north := v 0, east := v 1, heading := wrapAngle (estVal e 2), surge := v 3, sway := v 4, yawRate := v 5
    biasN := v 6, biasE := v 7, biasMz := v 8, waveN := v 9, waveE := v 11, waveHdg := v 13
    sigN := min 65535 ((estSigma e 0)), sigE := min 65535 ((estSigma e 1)), sigHdg := min 65535 ((estSigma e 2) * 360000 / 4294967296)
    posConf := (s.arb 0).conf, hdgConf := (s.arb 1).conf, retro := retro.isSome, posArb := (s.arb 0).state, hdgArb := (s.arb 1).state
    sat := excess, far := far, held := s.fus.draughtHeld, retroAge := min 65535 (retro.getD 0) }

/-- The attitude history takes the point of this edge; 1,024 points are kept (R235). -/
def noteAttitude (ms : List Meas) (s : State) : State :=
  let att := ms.filter (fun m => s.enters m && (match s.ctxCfg m.ctx with | some k => k.kind == .attitude || k.kind == .rate | none => false))
  let v := Config.fusedAttitude (att.map (fun m => (m.ctx, m.inst, m.vals))) s.fus.atts s.tks.upEdge
  let p : AttPoint := { up := s.tks.upEdge, hdg := wrapAngle (estVal s.fus.est 2), pitch := nth v 0 0, roll := nth v 1 0
                        rates := [nth v 2 0, nth v 3 0, (estVal s.fus.est 5)] }
  { s with fus := { s.fus with atts := (p :: s.fus.atts).take 1024 } }

/-- Snapshots kept (R254). -/
def snapMax : Nat := 128

/-- The samples of the tick that are not late: those before the edge, then the candidate of a snapshot, then those at or after the edge (R250, R254, R255). -/
def applyPresent (ms : List Meas) (r : EstRun) (s : State) : State × EstRun :=
  let edge : Int := s.tks.upEdge
  let ms := measOrder ms
  let before := ms.filter (fun m => decide (m.inst < edge))
  let after := ms.filter (fun m => decide (edge ≤ m.inst))
  let r := s.applyScalars (before.flatMap (fun m => s.scalars m edge)) r
  let snaps := match s.fus.snaps with | sn :: rest => s.informed sn before :: rest | [] => []
  let cand : Snap := s.informed { tick := s.tickNo, up := edge, est := r.est, info := [] } after
  let onSnap := s.tks.tickExt % 8 == 0
  let snaps := if onSnap then snaps else match snaps with | sn :: rest => s.informed sn after :: rest | [] => []
  let r := s.applyScalars (after.flatMap (fun m => s.scalars m edge)) r
  ({ s with fus := { s.fus with snaps := snaps, cand := if onSnap then some cand else none } }, r)

/-- The work of P2 in the order of R250. -/
def fusWork (s : State) : State :=
  let all := s.fus.kept ++ s.str.proj
  let s := { s with fus := { s.fus with kept := [] }, str := { s.str with proj := [] } }
  let first := s.fus.given.isNone
  let all := if first then all.filter (fun m => decide ((s.tks.upEdge : Int) ≤ m.inst)) else all
  let s := if first then { s with fus := { s.fus with estUp := (s.tks.upEdge : Int) } } else s
  let lateAll := all.filter (fun m => decide (m.inst ≤ s.fus.estUp) && !first)
  let present := all.filter (fun m => !(decide (m.inst ≤ s.fus.estUp) && !first))
  let s := present.foldl (fun s m => if m.absent then s else noteFate m.ctx false s) s
  let inHist := fun (m : Meas) => match s.fus.snaps.getLast? with | some o => decide (o.up ≤ m.inst) | none => false
  let s := (lateAll.filter inHist).foldl (fun s m => if m.absent then s else noteFate m.ctx false s) s
  let r := replayLate (lateAll.filter (fun m => s.enters m || (!inHist m && !m.absent))) s
  let s := r.1
  let run := s.propagateEst ((s.tks.upEdge : Int) - s.fus.estUp) r.2.1
  let a := applyPresent (present.filter s.enters) run s
  let s := { a.1 with fus := { a.1.fus with est := a.2.est, estUp := (s.tks.upEdge : Int) } }
  let s := match a.2.sat with | some i => record 0x090C 4 i.1 i.2 0 s.tickNo s | none => s
  let s := all.foldl noteSample s
  let s := all.foldl noteDetection s
  let s := all.foldl judgeConsistent s
  let s := arbStep 1 (arbStep 0 (refreshOutliers s))
  let s := draughtWork (noteAttitude all s)
  let far := all.any (fun m => m.far && (s.refOfCtx m.ctx).isSome)
  let rec_ := s.fusRecord r.2.2 far
  let s := recordIf rec_.sat 0x090C 4 0 2 0 s.tickNo s
  { s with fus := { s.fus with state := rec_, given := some s.tickNo } }

/-- P2 abandoned or missed: its samples are held for the next P2 (R261). -/
def fusHold (s : State) : State := { s with fus := { s.fus with kept := s.fus.kept ++ s.str.proj }, str := { s.str with proj := [] } }

/-- After P2 of every eighth tick a snapshot is kept (R254, R262). -/
def replaySnapshot (s : State) : State :=
  match s.fus.cand with
  | some c => { s with fus := { s.fus with snaps := (c :: s.fus.snaps).take snapMax, cand := none } }
  | none => s

def execReplaySnapshot (t : Nat) (s : State) : Host.Outcome State Fault Refusal := .next (inTick replaySnapshot (start t s))

/-- A context of which 5 of the last 10 samples were discarded: its confidence is halved and, for a source without an instant of its own, LAT_EST raised by PERIOD (R258). -/
def streamLate (c : Nat) (s : State) : State :=
  match s.ctxCfg c with
  | none => s
  | some k =>
    let x := s.ctx c
    if ((x.fates.filter (fun b => b)).length) < 5 then s
    else
      let trig := match k.group with | some g => (s.group g).path | none => false
      let own := match k.src with | .sentence _ _ | .template _ _ | .can _ => false | _ => true
      let s := updCtx c (fun x => { x with fates := [], conf := x.conf / 2, confFrac := 0 }) s
      let s := if own || trig then s else setLatency c k (x.latNs + k.periodMs * nsPerMs) s
      record 0x0902 4 c ((s.ctx c).latNs / 1000 : Nat) (s.ctx c).conf s.tickNo s

def execFusStreamLate (t c : Nat) (s : State) : Host.Outcome State Fault Refusal := .next (inTick (streamLate c) (start t s))

/-! ## Happenings of arbitration (R268 to R273) -/

/-- Mask every member of a reference JUDGED. -/
def judgeRef (r : Nat) (s : State) : State :=
  match s.refCfg r with
  | some k => k.ctxs.foldl (fun s c => setMask c 0 s) s
  | none => s

/-- Ticks of CONTRA_TIME. -/
def State.contraTicks (s : State) : Nat := s.fusImg.contraTimeMs

/-- The arbitration states and confidences as the state record of this P2 gives them: arbitration comes before the record (R250, R275, R287). -/
def noteArb (s : State) : State :=
  { s with fus := { s.fus with state := { s.fus.state with posArb := (s.arb 0).state, hdgArb := (s.arb 1).state, posConf := (s.arb 0).conf, hdgConf := (s.arb 1).conf } } }

/-- Two references in PAIR come into flat contradiction: both are suspended (R268, R271). -/
def flatContradiction (q : Nat) (s : State) : State :=
  let m := s.arb q
  if m.state = 3 ∧ s.contraTicks < m.contra then
    let d := (s.ref m.refA).d
    let sus := fun (r : Nat) (s : State) => updRef r (fun x => { x with suspended := true }) s
    let s := sus m.refB (sus m.refA s)
    let s := updArb q (fun m => { m with state := 5, drSince := some s.up, contra := 0, agree := 0, conf := 96 }) s
    record 0x0904 6 q m.refA m.refB d s
  else s

def execFlatContradiction (t q : Nat) (s : State) : Host.Outcome State Fault Refusal := .next (inTick (fun s => noteArb (flatContradiction q s)) (start t s))

/-- The outlier to mask: largest distance, then lower rank, then higher number (R270). -/
def State.worstOutlier (s : State) (q : Nat) : Option Nat :=
  ((s.refsOf q).filter (fun r => s.refAvail r && decide (s.contraTicks < (s.ref r).outCnt))).foldl
    (fun b r => match b with
      | none => some r
      | some x =>
        if (s.ref x).d < (s.ref r).d then some r
        else if (s.ref r).d < (s.ref x).d then some x
        else if s.refRank r ≤ s.refRank x then some r else some x) none

/-- At most one outlier of a quantity is masked in each P2 (R270). -/
def outlierMask (q : Nat) (s : State) : State :=
  let m := s.arb q
  match (if m.state = 4 ∧ m.outTick ≠ some s.tks.tickExt then s.worstOutlier q else none) with
  | some r =>
    let d := (s.ref r).d
    let s := updArb q (fun m => { m with outTick := some s.tks.tickExt }) (updRef r (fun x => { x with outlier := true, outCnt := 0 }) s)
    judgeRef r (record 0x0903 4 r q d s.tickNo s)
  | none => s

def execOutlierMask (t q : Nat) (s : State) : Host.Outcome State Fault Refusal := .next (inTick (outlierMask q) (start t s))

/-- Lift the suspension of a quantity's disputants. -/
def liftDispute (q : Nat) (s : State) : State :=
  let m := s.arb q
  let f := fun (r : Nat) (s : State) => updRef r (fun x => { x with suspended := false }) s
  f m.refB (f m.refA s)

/-- A dispute ends by agreement for CONTRA_TIME, or when a third reference becomes available (R272). -/
def disputeEnd (q : Nat) (s : State) : State :=
  let m := s.arb q
  let third := (s.refsOf q).any (fun r => s.refAvail r && r != m.refA && r != m.refB)
  if m.state = 5 ∧ (s.contraTicks < m.agree ∨ third) then
    let ms := (s.up - m.drSince.getD s.up) / nsPerMs
    let s := updArb q (fun m => { m with state := 3, drSince := none, contra := 0 }) (liftDispute q s)
    arbStep q (record 0x0906 4 q m.refA m.refB ms s)
  else s

def execDisputeEnd (t q : Nat) (s : State) : Host.Outcome State Fault Refusal := .next (inTick (fun s => noteArb (disputeEnd q s)) (start t s))

/-- The correction a reinstated reference brings: mm, or 0.001° (FUS_REINSTATE). -/
def State.correction (s : State) (q r : Nat) : Int :=
  match s.refValue r with
  | some v => isqrt (dist2 v.1 (if q = 1 then [wrapAngle (estVal s.fus.est 2)] else [(estVal s.fus.est 0), (estVal s.fus.est 1)]))
  | none => 0

/-- One disputant is reinstated; the other is masked JUDGED unless it is not available. Cause 0 DR_LIMIT, 1 operator, 2 only one available (R272). -/
def reinstate (q r cause : Nat) (judge : Bool) (s : State) : State :=
  let m := s.arb q
  let other := if r = m.refA then m.refB else m.refA
  let c := s.correction q r
  let s := updArb q (fun m => { m with state := 2, drSince := none, contra := 0 }) (liftDispute q s)
  let s := record 0x0905 5 q r cause c s
  let s := if judge then judgeRef other s else s
  updArb q (fun m => { m with conf := s.arbConf m }) s

/-- DR_LIMIT passes (R272, R273). -/
def drLimit (q : Nat) (s : State) : State :=
  let m := s.arb q
  match m.drSince with
  | none => s
  | some u =>
    if s.up < u + s.fusImg.drLimitS * nsPerS then s
    else if m.state = 1 then record 0x0907 6 q 0 0 s.tickNo (updArb q (fun m => { m with state := 0, conf := 0 }) s)
    else if m.state = 5 then
      let a := s.refAvail m.refA
      let b := s.refAvail m.refB
      if a ∧ b then
        let best := if s.refRank m.refA < s.refRank m.refB then m.refB
          else if s.refRank m.refB < s.refRank m.refA then m.refA else min m.refA m.refB
        reinstate q best 0 true s
      else if a then reinstate q m.refA 2 false s
      else if b then reinstate q m.refB 2 false s
      else record 0x0907 6 q 0 0 s.tickNo (updArb q (fun m => { m with state := 0, conf := 0 }) (liftDispute q s))
    else s

/-! ## Operator commands (R272, R281, R292) -/

/-- Select a reference, ending a dispute; a reference not in a dispute is ignored. -/
def refSelect (r : Nat) (s : State) : State :=
  let q := match s.refCfg r with | some k => if k.heading then 1 else 0 | none => 0
  let m := s.arb q
  if (s.refCfg r).isSome ∧ m.state = 5 ∧ (r = m.refA ∨ r = m.refB) then reinstate q r 1 true s else s

/-- Redeploy a taut wire: its anchor is set from the next unmasked sample (R281). -/
def refRedeploy (r : Nat) (s : State) : State :=
  if s.refKind r = some .tautWire then updRef r (fun x => { x with anchor := none, last := none }) s else s

/-- Clear the tracks of a range-bearing reference; cause 3 operator (R282, R292). -/
def refClear (r : Nat) (s : State) : State :=
  if s.refKind r = some .rangeBearing then
    ((List.range 64).filter (fun t => (s.trk t).state != 0 && (s.trk t).refNo == r)).foldl
      (fun s (t : Nat) => record 0x090A 2 t 3 (s.trk t).lived s.tickNo (updTrk t (fun _ => {}) s)) s
  else s

/-- Fusion at start: the mass factor before any draught is known (R285). -/
def fusStart (s : State) : State := { s with fus := { s.fus with massFactor := 65536 } }

end Sys2Proof.Machine
end

