-- ==== Sys2Proof/Machine/Control.lean ====
section
/-! DEFINITION. Position control: modes and their transitions, the set-point generator, joystick and wind, the outer loop, blends and the demand record (R293 to R347). Set-point states, the filtered wind and the gain in use have 32 fraction bits. -/

namespace Sys2Proof.Machine

open Sys2Proof

def State.ctl (s : State) : ImgControl := s.image.control
def updPcl (f : Pcl → Pcl) (s : State) : State := { s with pcl := f s.pcl }
def Pcl.axis (p : Pcl) (i : Nat) : RmAxis := nth p.rm i {}

/-- One in the fixed point of this file's states. -/
def q32 : Int := 4294967296

/-- An angle in 0.001° as a binary angle. -/
def milliToBin (a : Int) : Int := roundAway (a * 4294967296) 360000

/-- The axis runs a loop in a mode (R293). -/
def loopAxis (mode a : Nat) : Bool := if a < 2 then decide (3 ≤ mode ∧ mode ≤ 5) else decide (2 ≤ mode ∧ mode ≤ 5)

/-- The axis is driven by the joystick in a mode (R320). -/
def joyAxis (mode a : Nat) : Bool := mode == 1 || (mode == 2 && decide (a < 2))

/-- POS_ARB and HDG_ARB of the state record are not LOST. -/
def State.posOk (s : State) : Bool := s.fus.state.posArb != 0
def State.hdgOk (s : State) : Bool := s.fus.state.hdgArb != 0

/-- The fused velocity of the state record in the local frame, 0.1 mm/s. -/
def State.fusedVel (s : State) : Int × Int :=
  let r := s.fus.state
  let c := cosQ30 (wordI r.heading)
  let n := sinQ30 (wordI r.heading)
  (roundAway (r.surge * c - r.sway * n) (2 ^ 30), roundAway (r.surge * n + r.sway * c) (2 ^ 30))

/-- A vector of the local frame in the vessel frame, rounded (R301). -/
def State.toVessel (s : State) (n e : Int) : Int × Int :=
  let c := cosQ30 (wordI s.fus.state.heading)
  let d := sinQ30 (wordI s.fus.state.heading)
  (roundAway (n * c + e * d) (2 ^ 30), roundAway (e * c - n * d) (2 ^ 30))

/-! ## Joystick, handwheel and wind (R310 to R312, R317 to R322) -/

/-- JOY_CTX names all three axes (R319). -/
def State.joyNamed (s : State) : Bool := s.ctl.joyCtx.length == 3 && s.ctl.joyCtx.all (·.isSome)

/-- The sample of a joystick axis of this tick when it is settled, valid and unmasked (R318). -/
def State.joySample (s : State) (a : Nat) : Option Int :=
  match nth s.ctl.joyCtx a none with
  | none => none
  | some c =>
    let ok := match s.ctxCfg c with
      | some k => match k.src with | .filter ch => let o := nth s.dfc.lat ch {}; o.valid && !o.unsettled | _ => true
      | none => false
    match (s.ctx c).meas with
    | some (_, v, masked) => if ok && !masked && (s.ctx c).mask == 0 then some (nth v 0 0) else none
    | none => none

/-- Axes without a settled, valid, unmasked output within JOY_HOLD (R319). -/
def State.joyMissing (s : State) : BitVec 3 :=
  maskOf 3 (fun a => match (nth s.pcl.joy a {}).last with | some u => decide (u + s.ctl.joyHoldMs * nsPerMs < s.up) | none => true)

/-- |d| is within JOY_DEAD. -/
def inDead (k : ImgControl) (d : Int) : Bool := decide (d.natAbs * 100 ≤ k.joyDead * 2 ^ 31)

/-- The shaped deflection of a joystick axis, Q1.31 (R317). -/
def shape (k : ImgControl) (d : Int) : Int :=
  if inDead k d then 0
  else
    let m := roundAway (((d.natAbs : Int) * 100 - k.joyDead * 2 ^ 31)) (100 - k.joyDead)
    let d' := if d < 0 then -m else m
    roundAway ((100 - k.joyCurve : Int) * d' * 2 ^ 62 + k.joyCurve * (d' * d' * d')) (100 * 2 ^ 62)

/-- The shaped deflection in use: 0 while the joystick is not valid (R320, R337). -/
def State.joyS (s : State) (a : Nat) : Int := if s.pcl.joyValid then shape s.ctl (nth s.pcl.joy a {}).val else 0

/-- Read the joystick: each axis keeps its last settled output; a joystick whose axes all have one becomes valid again (R318, R319). -/
def readJoystick (s : State) : State :=
  let joy := (List.range 3).map (fun a =>
    let x := nth s.pcl.joy a {}
    match s.joySample a with | some v => ({ val := v, last := some s.up } : JoyAxis) | none => x)
  let s := updPcl (fun p => { p with joy := joy }) s
  let ok := s.joyNamed && s.joyMissing == 0
  let back := ok && !s.pcl.joyValid
  let centred := s.joyNamed && joy.all (fun x => inDead s.ctl x.val)
  let was := s.pcl.joyLost
  let s := updPcl (fun p => { p with joyValid := p.joyValid || ok, joyCentred := centred, joyLost := if back then 0 else p.joyLost }) s
  recordIf (back && was != 0) 0x0A05 3 was.toNat s.pcl.mode 0 s.tickNo s

/-- The handwheel's change of count since the previous tick (R322). -/
def readHandwheel (s : State) : Int × State :=
  match s.ctl.hwCtx with
  | none => (0, s)
  | some c =>
    match (s.ctx c).meas with
    | some (_, v, masked) =>
      if masked || (s.ctx c).mask != 0 then (0, updPcl (fun p => { p with hwLast := none }) s)
      else
        let n := nth v 0 0
        (match s.pcl.hwLast with | some o => (wordI (n - o)).toInt | none => 0, updPcl (fun p => { p with hwLast := some n }) s)
    | none => (0, s)

/-- The wind context in use: unmasked, of the higher confidence, the first when equal (R310). -/
def State.windCtx (s : State) : Option Nat :=
  let ok := fun (c : Nat) => (s.ctx c).mask == 0 && (match (s.ctx c).meas with | some m => !m.2.2 | none => false)
  match (nth s.ctl.windCtx 0 none).filter ok, (nth s.ctl.windCtx 1 none).filter ok with
  | some a, some b => if (s.ctx a).conf < (s.ctx b).conf then some b else some a
  | some a, none => some a
  | none, o => o

/-- C_a(γ) with 48 fraction bits (R311). -/
def windCoef (row : List Int) (g : Word) : Int :=
  let j : Nat := g.toNat * 36 / 2 ^ 32
  let f : Nat := g.toNat * 36 % 2 ^ 32
  let c := nth row (j % 36) 0
  c * 2 ^ 32 + (f : Int) * (nth row ((j + 1) % 36) 0 - c)

/-- The computed wind feed-forward of an axis from the filtered wind (R311). -/
def windForce (k : ImgControl) (w : Int × Int) (a : Nat) : Int :=
  let v2 := w.1 * w.1 + w.2 * w.2
  roundAway (-((k.windFf : Int) * k.airDensity * v2 * windCoef (nth k.windCoef a []) (atan2W w.2 w.1))) (200000 * 1000000 * 2 ^ 112)

/-- The feed-forward the present wind asks for. -/
def State.windTarget (s : State) : List Int :=
  match s.pcl.wind with
  | some w => if s.pcl.windOn then [windForce s.ctl w 0, windForce s.ctl w 1, windForce s.ctl w 2] else [0, 0, 0]
  | none => [0, 0, 0]

/-- W_a as it stands, with any fade (R312). -/
def State.windNow (s : State) : List Int :=
  let target := s.windTarget
  match s.pcl.windFade with
  | none => target
  | some f =>
    let len := s.ctl.windFadeS * nsPerS
    let b := min len (s.up - f.since)
    (List.range 3).map (fun a => nth f.from_ a 0 + roundAway ((nth target a 0 - nth f.from_ a 0) * b) len)

/-- Advance the wind filter, and begin a fade when the wind contexts are lost or return (R310, R312). -/
def windStep (s : State) : State :=
  let s := match s.windCtx with
    | some c =>
      match (s.ctx c).meas with
      | some (_, v, _) =>
        let x := roundAway (nth v 1 0 * cosQ30 (wordI (nth v 0 0)) * 4) 10
        let y := roundAway (nth v 1 0 * sinQ30 (wordI (nth v 0 0)) * 4) 10
        let tau := s.ctl.windTauMs
        let w := match s.pcl.wind with | some o => (o.1 + roundAway (x - o.1) tau, o.2 + roundAway (y - o.2) tau) | none => (x, y)
        let s := updPcl (fun p => { p with wind := some w }) s
        if s.pcl.windOn then s
        else updPcl (fun p => { p with windOn := true, windFade := some { since := s.up, from_ := p.w, rise := true } }) s
      | none => s
    | none =>
      if s.pcl.windOn then
        let w := s.pcl.w
        let s := updPcl (fun p => { p with windOn := false, windFade := some { since := s.up, from_ := w, rise := false } }) s
        record 0x0A06 4 (nth w 0 0) (nth w 1 0) (nth w 2 0) s.tickNo s
      else s
  updPcl (fun p => { p with w := s.windNow.map sat31 }) s

/-- The fade is complete (R312). -/
def windFadeEnd (s : State) : State :=
  match s.pcl.windFade with
  | some f =>
    if f.since + s.ctl.windFadeS * nsPerS ≤ s.up then
      let s := updPcl (fun p => { p with windFade := none }) s
      updPcl (fun p => { p with w := s.windNow.map sat31 }) s
    else s
  | none => s

def execWindFadeEnd (t : Nat) (s : State) : Host.Outcome State Fault Refusal := .next (inTick windFadeEnd (start t s))

/-! ## The set-point generator (R314 to R316, R320 to R331) -/

/-- The signed difference of heading states. -/
def wrapQ (x : Int) : Int := (x + 2 ^ 63) % 2 ^ 64 - 2 ^ 63

/-- The prefilter's step (R314). -/
def prefilter (tauMs : Nat) (r xf : Int) : Int := if tauMs = 0 then r else xf + roundAway (r - xf) tauMs

/-- Scale a vector to a magnitude. -/
def limitVec (lim : Nat) (a b : Int) : Int × Int :=
  let m := isqrt (a * a + b * b).toNat
  if m ≤ lim then (a, b) else (roundAway (a * lim) m, roundAway (b * lim) m)

/-- The second-order stage's acceleration (R314). -/
def rmAccel (om zeta : Nat) (dx v : Int) : Int := roundAway ((om * om : Nat) * dx - 2 * (zeta * om : Nat) * v) 10000

/-- One step of the horizontal axes (R314, R315). -/
def rmHorizontal (k : ImgControl) (vmax : Nat) (n e : RmAxis) : RmAxis × RmAxis :=
  let xn := prefilter k.rmTauMs n.r n.xf
  let xe := prefilter k.rmTauMs e.r e.xf
  let a := limitVec (k.amaxH * 2 ^ 32) (rmAccel k.rmOmegaH k.rmZeta (xn - n.x) n.v) (rmAccel k.rmOmegaH k.rmZeta (xe - e.x) e.v)
  let v := limitVec (vmax * 2 ^ 32) (n.v + roundAway a.1 1000) (e.v + roundAway a.2 1000)
  ({ n with xf := xn, a := a.1, v := v.1, x := n.x + roundAway v.1 1000 }, { e with xf := xe, a := a.2, v := v.2, x := e.x + roundAway v.2 1000 })

/-- One step of the heading axis (R314, R315). -/
def rmHeading (k : ImgControl) (h : RmAxis) : RmAxis :=
  let xf := wrapQ (if k.rmTauMs = 0 then h.r else h.xf + roundAway (wrapQ (h.r - h.xf)) k.rmTauMs)
  let al := milliToBin k.amaxYaw * q32
  let vl := milliToBin k.vmaxYaw * q32
  let a := clampI (-al) al (rmAccel k.rmOmegaYaw k.rmZeta (wrapQ (xf - h.x)) h.v)
  let v := clampI (-vl) vl (h.v + roundAway a 1000)
  { h with xf := xf, a := a, v := v, x := wrapQ (h.x + roundAway v 1000) }

/-- Set-point and target placed at a point with a velocity (R332). -/
def placeAxis (x v : Int) : RmAxis := { r := x, xf := x, x := x, v := v, a := 0 }

def updRm (i : Nat) (f : RmAxis → RmAxis) (s : State) : State := updPcl (fun p => { p with rm := upd p.rm i f }) s

/-- The waypoint in use and its leg (R325). -/
def State.waypoint (s : State) : Option Waypoint := s.pcl.track[s.pcl.wp]?

/-- Direction of a leg, binary angle. -/
def legDir (a b : Int × Int) : Int := wrapAngle (atan2W (b.2 - a.2) (b.1 - a.1)).toInt

/-- The lower speed limit of the mode (R325, R329). -/
def State.speedLimit (s : State) : Nat :=
  if s.pcl.mode = 4 then (match s.waypoint with | some w => min s.ctl.vmaxH w.speed | none => s.ctl.vmaxH)
  else if s.pcl.mode = 5 then min s.ctl.vmaxH s.ctl.followVmax
  else s.ctl.vmaxH

/-- Move the targets in the vessel frame by the joystick and the handwheel, over 1 ms (R320 to R322). -/
def moveTargets (hw : Int) (s : State) : State :=
  let m := s.pcl.mode
  let yaw := roundAway (s.joyS 2 * milliToBin s.ctl.joyYawRate * 2) 1000
  let s := if m = 2 ∨ m = 3 ∨ m = 5 then
      updRm 2 (fun h => { h with r := wrapQ (h.r + yaw + roundAway (hw * s.ctl.hwStep * q32 * q32) 360000) }) s
    else s
  if m = 3 ∨ m = 5 then
    let d := fun (a : Nat) => roundAway (s.joyS a * s.ctl.joySpSpeed * 2) 1000
    let c := cosQ30 (wordI s.fus.state.heading)
    let n := sinQ30 (wordI s.fus.state.heading)
    let dn := roundAway (d 0 * c - d 1 * n) (2 ^ 30)
    let de := roundAway (d 0 * n + d 1 * c) (2 ^ 30)
    if m = 3 then updRm 1 (fun h => { h with r := h.r + de }) (updRm 0 (fun h => { h with r := h.r + dn }) s)
    else updPcl (fun p => { p with offN := p.offN + dn, offE := p.offE + de }) s
  else s

/-- Targets set by the mode: the waypoint with its heading rule, or the followed track plus its offset (R325, R326, R329). -/
def modeTargets (s : State) : State :=
  if s.pcl.mode = 4 then
    match s.waypoint with
    | some w =>
      let s := updRm 1 (fun h => { h with r := w.e * q32 }) (updRm 0 (fun h => { h with r := w.n * q32 }) s)
      if w.along then
        if (w.n, w.e) = s.pcl.prevWp then s else updRm 2 (fun h => { h with r := wrapQ ((legDir s.pcl.prevWp (w.n, w.e) + w.angle) * q32) }) s
      else updRm 2 (fun h => { h with r := wrapQ (w.angle * q32) }) s
    | none => s
  else if s.pcl.mode = 5 then
    let t := s.trk s.pcl.target
    updRm 1 (fun h => { h with r := t.e * q32 + s.pcl.offE }) (updRm 0 (fun h => { h with r := t.n * q32 + s.pcl.offN }) s)
  else s

/-- Whether the set-point has arrived at the waypoint (R325). -/
def State.atWaypoint (s : State) : Bool :=
  match s.waypoint with
  | some w =>
    let n := s.pcl.axis 0
    let e := s.pcl.axis 1
    let dn := n.x - w.n * q32
    let de := e.x - w.e * q32
    decide ((dn * dn + de * de) ≤ (s.ctl.wpRadius * s.ctl.wpRadius : Nat) * (q32 * q32)) && decide (n.v * n.v + e.v * e.v < 100 * (q32 * q32))
  | none => false

/-- Advance the reference model by 1 ms on the axes that run a loop, n times (R314, R342). -/
def advanceModel : Nat → State → State
  | 0, s => s
  | n + 1, s =>
    let s := modeTargets s
    let m := s.pcl.mode
    let s := if loopAxis m 0 then
        let r := rmHorizontal s.ctl s.speedLimit (s.pcl.axis 0) (s.pcl.axis 1)
        updRm 1 (fun _ => r.2) (updRm 0 (fun _ => r.1) s)
      else s
    let s := if loopAxis m 2 then updRm 2 (rmHeading s.ctl) s else s
    advanceModel n s

/-- Since when the set-point has been at its waypoint. -/
def noteWaypoint (s : State) : State :=
  if s.pcl.mode = 4 && !s.pcl.trackEnd && s.atWaypoint then updPcl (fun p => { p with atWp := some (p.atWp.getD s.up) }) s
  else updPcl (fun p => { p with atWp := none }) s

/-- The dwell is over: the target moves to the next waypoint, or stays on the last with TRACK_END (R325, R327). -/
def waypointReached (s : State) : State :=
  match s.waypoint, s.pcl.atWp with
  | some w, some u =>
    if s.pcl.mode = 4 && !s.pcl.trackEnd && decide (u + w.dwellS * nsPerS ≤ s.up) then
      let last := decide (s.pcl.track.length ≤ s.pcl.wp + 1)
      let s := record 0x0A08 2 s.pcl.trackNo s.pcl.wp (b2n last) s.tickNo s
      if last then updPcl (fun p => { p with trackEnd := true, atWp := none }) s
      else updPcl (fun p => { p with wp := p.wp + 1, prevWp := (w.n, w.e), atWp := none }) s
    else s
  | _, _ => s

def execWaypointReached (t : Nat) (s : State) : Host.Outcome State Fault Refusal := .next (inTick waypointReached (start t s))

/-! ## Mode entry (R332 to R334) -/

/-- Begin a blend of some axes over a time in s; the demand it starts from is that of the tick before (R334, R342). -/
def beginBlend (axes : BitVec 3) (stop : Bool) (lenS : Nat) (s : State) : State :=
  updPcl (fun p => { p with blend := some { from_ := p.dem.f, axes := axes, stop := stop, len := lenS * 1000 } }) s

/-- Horizontal set-point and target on the fused position, with a velocity in 0.1 mm/s. -/
def placeHorizontal (v : Int × Int) (s : State) : State :=
  let r := s.fus.state
  updRm 1 (fun _ => placeAxis (r.east * q32) (roundAway (v.2 * q32) 10)) (updRm 0 (fun _ => placeAxis (r.north * q32) (roundAway (v.1 * q32) 10)) s)

/-- Heading set-point and target on the fused heading, with a rate. -/
def placeHeading (rate : Int) (s : State) : State := updRm 2 (fun _ => placeAxis (wrapQ (s.fus.state.heading * q32)) (rate * q32)) s

/-- The rule of a transition: set-points, what becomes of the integrals, and the blend (R332). -/
def entryRule (old new : Nat) (s : State) : State :=
  let pre := fun (l : List Nat) (s : State) => updPcl (fun p => { p with preset := l }) s
  let running := s.pcl.blend.isSome
  let s := updPcl (fun p => { p with blend := none }) s
  match new with
  | 0 => beginBlend 7 true s.ctl.stopRampS (pre [1, 1, 1] s)
  | 1 => if old = 0 then (if running then beginBlend 7 false s.ctl.blendTimeS (pre [1, 1, 1] s) else pre [1, 1, 1] s)
         else beginBlend 7 false s.ctl.blendTimeS (pre [1, 1, 1] s)
  | 2 =>
    if old = 0 then beginBlend 4 false s.ctl.engageRampS (pre [1, 1, 3] (placeHeading 0 s))
    else if old = 1 then
      let s := pre [1, 1, 2] (placeHeading s.fus.state.yawRate s)
      if running then beginBlend 7 false s.ctl.blendTimeS s else s
    else beginBlend 3 false s.ctl.blendTimeS (pre [1, 1, 1] s)
  | 3 =>
    if old = 0 then beginBlend 7 false s.ctl.engageRampS (pre [3, 3, 3] (placeHeading 0 (placeHorizontal (0, 0) s)))
    else if old = 1 then
      let s := pre [2, 2, 2] (placeHeading s.fus.state.yawRate (placeHorizontal s.fusedVel s))
      if running then beginBlend 7 false s.ctl.blendTimeS s else s
    else if old = 2 then
      let s := pre [2, 2, 1] (placeHorizontal s.fusedVel s)
      if running then beginBlend 7 false s.ctl.blendTimeS s else s
    else
      let s := updRm 2 (fun h => { h with r := h.x }) (updRm 1 (fun h => { h with r := h.x }) (updRm 0 (fun h => { h with r := h.x }) s))
      let s := pre [1, 1, 1] s
      if running then beginBlend 7 false s.ctl.blendTimeS s else s
  | _ =>
    let s := pre [1, 1, 1] s
    if running then beginBlend 7 false s.ctl.blendTimeS s else s

/-- Enter a mode: the rule of its transition, the swap rules of the image, and the outer loop in the P3 of the entry (R190, R300, R332). -/
def enterMode (new : Nat) (s : State) : State :=
  let s := swapRules new (entryRule s.pcl.mode new s)
  updPcl (fun p => { p with mode := new, entered := true, trackEnd := if new = 4 then p.trackEnd else false, atWp := none }) s

/-- A change without a command (R336). -/
def autoDrop (new cause : Nat) (s : State) : State := enterMode new (record 0x0A03 6 s.pcl.mode new cause s.tickNo s)

/-- The conditions of AUTO POSITION (R332, R336). -/
def State.autoPositionOk (s : State) : Bool := decide (3 ≤ s.sys.level) && s.posOk && s.hdgOk

/-- POS_ARB, HDG_ARB and the level, in the order of R336. -/
def autoFusion (s : State) : State :=
  let m := s.pcl.mode
  let s := if 3 ≤ m ∧ m ≤ 5 ∧ ¬ s.posOk then autoDrop (if s.hdgOk then 2 else 1) 0 s else s
  let m := s.pcl.mode
  let s := if 2 ≤ m ∧ m ≤ 5 ∧ ¬ s.hdgOk then autoDrop 1 1 s else s
  let m := s.pcl.mode
  if 2 ≤ m ∧ m ≤ 5 ∧ s.sys.level = 2 then autoDrop 1 2 s else s

/-- The followed track is no longer confirmed (R331, R336). -/
def autoTarget (s : State) : State :=
  if s.pcl.mode = 5 ∧ (s.trk s.pcl.target).state < 2 then
    autoDrop 3 3 (record 0x0A07 5 s.pcl.target (roundAway s.pcl.offN (2 ^ 32)) (roundAway s.pcl.offE (2 ^ 32)) s.tickNo s)
  else s

/-- Automatic mode changes; below level 2 the mode is reported unchanged (R331, R336, R339). -/
def autoChanges (s : State) : State := if s.sys.level < 2 then s else autoTarget (autoFusion s)

/-- An axis has had no settled valid output within JOY_HOLD: the joystick is no longer valid, and a joystick mode is left (R319, R336). -/
def joystickInvalid (s : State) : State :=
  let miss := s.joyMissing
  if s.pcl.joyValid ∧ miss ≠ 0 then
    let s := updPcl (fun p => { p with joyValid := false, joyLost := miss }) s
    let s := record 0x0A04 5 miss.toNat s.pcl.mode 0 s.tickNo s
    if s.pcl.mode = 1 ∨ s.pcl.mode = 2 then autoDrop (if s.autoPositionOk then 3 else 0) 4 s else s
  else s

def execJoystickInvalid (t : Nat) (s : State) : Host.Outcome State Fault Refusal := .next (inTick joystickInvalid (start t s))

/-- DR_LIMIT passes: fusion's consequence, and the mode it leaves (R273, R336). -/
def drLimitExpiry (q : Nat) (s : State) : State :=
  let s := noteArb (drLimit q s)
  if s.sys.state = .active then autoChanges s else s

def execDrLimitExpiry (t q : Nat) (s : State) : Host.Outcome State Fault Refusal := .next (inTick (drLimitExpiry q) (start t s))

/-! ## Commands (R323, R324, R332) -/

/-- The track a MODE command names: of the image, or loaded by a station. -/
def State.trackOf (s : State) (i : Nat) : Option (List Waypoint) := if i < 8 then nth s.ctl.tracks i none else s.pcl.loaded

/-- Distance of a point from the set-point, mm. -/
def State.spDistance (s : State) (n e : Int) : Nat :=
  let dn := n * q32 - (s.pcl.axis 0).x
  let de := e * q32 - (s.pcl.axis 1).x
  isqrt ((dn * dn + de * de).toNat / 2 ^ 64)

/-- A stop ramp is running. -/
def State.stopRamp (s : State) : Bool := match s.pcl.blend with | some b => b.stop | none => false

/-- Why a transition is not accepted, by the cause codes of PCL_MODE_REJECT (R293, R319, R332). -/
def State.modeRefusal (s : State) (new t track : Nat) : Option Nat :=
  let old := s.pcl.mode
  let listed : Bool :=
    match old, new with
    | 0, 1 | 0, 2 | 0, 3 | 1, 2 | 1, 3 | 2, 3 | 3, 4 | 3, 5 | 4, 5 | 4, 3 | 5, 3 | 0, 6 => true
    | _, 2 => decide (3 ≤ old ∧ old ≤ 5)
    | _, 1 => decide (2 ≤ old ∧ old ≤ 5)
    | _, 0 => decide (1 ≤ old ∧ old ≤ 5)
    | _, _ => false
  let least := if new = 6 then 1 else if 2 ≤ new then 3 else 2
  if ¬ listed then some 0
  else if s.sys.level < least then some 1
  else if (new = 2 ∧ old < 2 ∧ ¬ s.hdgOk) ∨ (new = 3 ∧ old < 3 ∧ ¬ (s.posOk && s.hdgOk)) then some 2
  else if (new = 1 ∨ new = 2) ∧ ¬ s.joyNamed then some 3
  else if old = 0 ∧ (new = 1 ∨ new = 2) ∧ ¬ (s.pcl.joyValid && s.pcl.joyCentred) then some 3
  else if (new = 1 ∨ (new = 2 ∧ 3 ≤ old)) ∧ ¬ s.pcl.joyValid then some 3
  else if new = 4 then
    match s.trackOf track with
    | some (w :: _) => if s.ctl.spMoveMax < s.spDistance w.n w.e then some 0 else none
    | _ => some 4
  else if new = 5 ∧ (64 ≤ t ∨ (s.trk t).state < 2) then some 5
  else if new = 6 ∧ (s.sys.state ≠ .active ∨ s.stopRamp = true) then some 0
  else none

/-- Begin a track at its first waypoint (R325, R342). -/
def beginTrack (no : Nat) (l : List Waypoint) (s : State) : State :=
  updPcl (fun p => { p with track := l, trackNo := no, wp := 0, trackEnd := false, atWp := none
                            prevWp := (roundAway (p.axis 0).x (2 ^ 32), roundAway (p.axis 1).x (2 ^ 32)) }) s

/-- The offset of FOLLOW TARGET: given, or the set-point minus the track's position (R330). -/
def beginFollow (t : Nat) (given : Bool) (n e : Int) (s : State) : State :=
  let k := s.trk t
  updPcl (fun p => { p with target := t
                            offN := if given then n * q32 else (p.axis 0).x - k.n * q32
                            offE := if given then e * q32 else (p.axis 1).x - k.e * q32 }) s

/-- A MODE command for a mode below HARBOUR WATCH, or for HARBOUR WATCH up to the change of mode: result and cause (R332). `source`: 0 station, 1 register. -/
def modeCommand (new t : Nat) (given : Bool) (track : Nat) (n e : Int) (s : State) : (Nat × Nat) × State :=
  if 6 < new then ((4, 0), s)
  else
    match s.modeRefusal new t track with
    | some c => ((1, c), record 0x0A02 3 new c s.pcl.mode s.tickNo s)
    | none =>
      let s := record 0x0A01 4 s.pcl.mode new 0 s.tickNo s
      let s := enterMode new s
      let s := if new = 4 then (match s.trackOf track with | some l => beginTrack track l s | none => s) else s
      let s := if new = 5 then beginFollow t given n e s else s
      ((0, 0), s)

/-- A SETPOINT command (R323). -/
def setpointCommand (n e h : Int) (s : State) : (Nat × Nat) × State :=
  let d := s.spDistance n e
  if s.pcl.mode ≠ 3 then ((1, 0), record 0x0A0B 3 0 d s.pcl.mode s.tickNo s)
  else if s.ctl.spMoveMax < d then ((1, 1), record 0x0A0B 3 1 d s.pcl.mode s.tickNo s)
  else
    ((0, 0), updRm 2 (fun a => { a with r := wrapQ (h * q32) }) (updRm 1 (fun a => { a with r := e * q32 }) (updRm 0 (fun a => { a with r := n * q32 }) s)))

/-- A TRACK command: 2 to 32 waypoints; in AUTO TRACK the new track begins at once (R324, R342). -/
def trackCommand (l : List Waypoint) (s : State) : (Nat × Nat) × State :=
  if l.length < 2 ∨ 32 < l.length then ((4, 0), s)
  else
    let s := updPcl (fun p => { p with loaded := some l }) s
    ((0, 0), if s.pcl.mode = 4 then beginTrack 255 l s else s)

/-- PCL_GAIN_SCALE: ignored as a whole when a field lies outside 32 to 128 (R304, R347). -/
def gainScaleOk (v : Word) : Bool := [0, 8, 16].all (fun i => decide (32 ≤ fieldOf v i 8 ∧ fieldOf v i 8 ≤ 128))

def gainScale (v : Word) (s : State) : State := if gainScaleOk v then updPcl (fun p => { p with gainReg := v }) s else s

/-! ## The outer loop (R300 to R309) -/

/-- K of an axis with 32 fraction bits, before the scale (R303). -/
def gainK (k : ImgControl) (a : Nat) (e : Int) : Int :=
  let span : Nat := nth k.errSpan a 1
  let num : Nat := if a < 2 then e.natAbs else e.natAbs * 360000
  let den : Nat := if a < 2 then span else span * 2 ^ 32
  let g := fun (i : Nat) => ((nth (nth k.gain a []) i 0 : Nat) : Int)
  let p := min num den * 63
  let i := p / den
  if 63 ≤ i then g 63 * q32 else g i * q32 + roundAway ((p % den : Nat) * (g (i + 1) - g i) * q32) den

/-- A product with an angle in binary angle turned to radians: n × a × π / 2^31, over d. -/
def radProd (n a : Int) (d : Nat) : Int := roundAway (n * a * trigPi) (2 ^ 111 * d)

/-- The errors of the three axes (R301). -/
def State.axisErrors (s : State) : List Int :=
  let r := s.fus.state
  let v := s.toVessel (roundAway (s.pcl.axis 0).x (2 ^ 32) - r.north) (roundAway (s.pcl.axis 1).x (2 ^ 32) - r.east)
  [v.1, v.2, wrapAngle (roundAway (s.pcl.axis 2).x (2 ^ 32) - r.heading)]

/-- The derivative terms before saturation (R307). -/
def State.derivTerm (s : State) (a : Nat) : Int :=
  let r := s.fus.state
  let kd : Int := (nth s.ctl.kd a 0 : Nat)
  let v := s.toVessel (roundAway ((s.pcl.axis 0).v * 10) (2 ^ 32)) (roundAway ((s.pcl.axis 1).v * 10) (2 ^ 32))
  if a = 0 then roundAway (kd * (v.1 - r.surge)) 10000
  else if a = 1 then roundAway (kd * (v.2 - r.sway)) 10000
  else radProd kd (roundAway (s.pcl.axis 2).v (2 ^ 32) - r.yawRate) 1

/-- The integral is held on an axis (R306). -/
def State.integralHeld (s : State) (a : Nat) : Bool :=
  let arb := if a < 2 then s.fus.state.posArb else s.fus.state.hdgArb
  bitAt s.pcl.slackSeen a || s.pcl.fbSeen || joyAxis s.pcl.mode a || arb == 1 || arb == 5

/-- The bias of the state record in the vessel frame (R332). -/
def State.biasVessel (s : State) (a : Nat) : Int :=
  let r := s.fus.state
  let v := s.toVessel r.biasN r.biasE
  if a = 0 then v.1 else if a = 1 then v.2 else r.biasMz

/-- What an outer loop gives an axis. -/
structure AxisOut where
  err   : Int := 0
  kp    : Nat := 0
  integ : Int := 0
  out   : Int := 0
  sat   : Bool := false
  held  : Bool := false
  deriving DecidableEq, Repr

/-- The law on one axis (R303 to R308, R333). -/
def State.axisLaw (s : State) (a : Nat) : AxisOut :=
  let k := s.ctl
  let i0 := nth s.pcl.integ a 0
  let held := s.integralHeld a
  if ¬ loopAxis s.pcl.mode a then { integ := i0, held := held && joyAxis s.pcl.mode a }
  else
    let e := nth s.axisErrors a 0
    let kq := roundAway (gainK k a e * fieldOf s.pcl.gainReg (8 * a) 8) 64
    let p := if a < 2 then roundAway (kq * e) (2 ^ 32 * 1000) else radProd kq e (2 ^ 32)
    let d := s.derivTerm a
    let w := nth s.pcl.w a 0
    let lim : Int := (nth k.intMax a 0 : Nat)
    let step := if a < 2 then roundAway ((nth k.ki a 0 : Nat) * e * k.outerDiv) 1000000 else radProd ((nth k.ki a 0 : Nat) * (k.outerDiv : Int)) e 1000
    let pre := if s.pcl.entered then nth s.pcl.preset a 0 else 0
    let hold := if s.pcl.entered then false else held
    let i := match pre with
      | 1 => i0
      | 2 => clampI (-lim) lim (nth s.pcl.dem.f a 0 - (p + d + w))
      | 3 => clampI (-lim) lim (-(s.biasVessel a) - w)
      | _ => if hold then i0 else clampI (-lim) lim (i0 + step)
    let f := sat31 p + sat31 i + sat31 d + sat31 w
    { err := e, kp := min 4294967295 (roundAway kq (2 ^ 32)).toNat, integ := sat31 i, out := sat31 f
      sat := sat31 p != p || sat31 i != i || sat31 d != d || sat31 w != w || sat31 f != f, held := hold }

/-- Run the outer loop (R300, R309). -/
def outerLoop (s : State) : State :=
  let os := (List.range 3).map s.axisLaw
  let outs := os.map (·.out)
  updPcl (fun p => { p with
    err := os.map (·.err), kp := os.map (·.kp), integ := os.map (·.integ)
    dPrev := if p.entered then outs else p.dLast, dLast := outs, lastOuter := s.tks.tickExt, outerDue := false, entered := false, preset := [0, 0, 0]
    slackSeen := 0, fbSeen := false
    outerSat := maskOf 3 (fun a => match os[a]? with | some o => o.sat | none => false)
    freeze := maskOf 3 (fun a => match os[a]? with | some o => o.held | none => false) }) s

/-- The outer loop is due in this P3 (R300, R342). -/
def State.outerDue (s : State) : Bool := s.tks.tickExt % s.ctl.outerDiv == 0 || s.pcl.entered || s.pcl.outerDue

/-- The feedback demand of an axis (R309). -/
def State.feedback (s : State) (a : Nat) : Int :=
  if loopAxis s.pcl.mode a then
    let d0 := nth s.pcl.dPrev a 0
    let n := min s.ctl.outerDiv (s.tks.tickExt - s.pcl.lastOuter + 1)
    d0 + roundAway ((nth s.pcl.dLast a 0 - d0) * n) s.ctl.outerDiv
  else 0

/-- The acceleration feed-forward of an axis (R313). -/
def State.accelFf (s : State) (a : Nat) : Int :=
  if loopAxis s.pcl.mode a then
    let f := s.image.fusion
    let c := cosQ30 (wordI s.fus.state.heading)
    let d := sinQ30 (wordI s.fus.state.heading)
    let n := (s.pcl.axis 0).a
    let e := (s.pcl.axis 1).a
    let m := fun (i : Nat) => ((f.mass + nth f.addedMass i 0 : Nat) : Int) * s.fus.massFactor
    if a = 0 then roundAway (m 0 * (n * c + e * d)) (2 ^ 78 * 1000)
    else if a = 1 then roundAway (m 1 * (e * c - n * d)) (2 ^ 78 * 1000)
    else radProd (((f.inertia + nth f.addedMass 2 0 : Nat) : Int) * s.fus.massFactor) (s.pcl.axis 2).a (2 ^ 48)
  else 0

/-- The joystick's force or moment of an axis (R320). -/
def State.joyForce (s : State) (a : Nat) : Int :=
  if joyAxis s.pcl.mode a then roundAway ((nth s.ctl.joyForceMax a 0 : Nat) * s.joyS a) (2 ^ 31) else 0

/-- Cross-track error, mm (R328). -/
def State.xtrack (s : State) : Int :=
  if s.pcl.mode = 4 then
    match s.waypoint with
    | some w =>
      let dn := w.n - s.pcl.prevWp.1
      let de := w.e - s.pcl.prevWp.2
      let len := isqrt ((dn * dn + de * de).toNat)
      if len = 0 then 0
      else roundAway (dn * (s.fus.state.east - s.pcl.prevWp.2) - de * (s.fus.state.north - s.pcl.prevWp.1)) len
    | none => 0
  else 0

/-- The demand of an axis after any blend: (1 − b) × D_from + b × D_to (R334). -/
def blended (b : Option BlendRun) (a : Nat) (target : Int) : Int :=
  match b with
  | some r =>
    if bitAt r.axes a then
      if r.len ≤ r.k then target else roundAway (nth r.from_ a 0 * (r.len - r.k : Nat) + target * (r.k : Nat)) r.len
    else target
  | none => target

/-- Form and write the demand record (R296, R309, R313, R334, R343). -/
def writeDemand (outer : Bool) (s : State) : State :=
  let p := s.pcl
  let raw := (List.range 3).map (fun a => blended p.blend a (s.feedback a + s.accelFf a + s.joyForce a))
  let cl := (List.range 3).map (fun a => clampI (-((nth s.ctl.demMax a 0 : Nat) : Int)) (nth s.ctl.demMax a 0 : Nat) (nth raw a 0))
  let excess := maskOf 3 (fun a => nth raw a 0 != nth cl a 0)
  let sat := excess ||| p.outerSat
  let fresh := excess &&& ~~~p.sat
  let s := recordIf (fresh != 0) 0x0A0C 3 excess.toNat (nth raw 0 0) (nth raw 2 0) s.tickNo s
  let ax := fun (i : Nat) => p.axis i
  let d : Demand := {
    tickNo := s.tickNo, f := cl, spN := roundAway (ax 0).x (2 ^ 32), spE := roundAway (ax 1).x (2 ^ 32), spH := wrapAngle (roundAway (ax 2).x (2 ^ 32))
    vN := roundAway ((ax 0).v * 10) (2 ^ 32), vE := roundAway ((ax 1).v * 10) (2 ^ 32), rate := roundAway (ax 2).v (2 ^ 32)
    mode := p.mode, sat := sat, freeze := p.freeze, outer := outer, blend := p.blend.isSome, trackEnd := p.trackEnd, xtrack := s.xtrack }
  updPcl (fun p => { p with dem := d, sat := sat, blend := p.blend.map (fun b => { b with k := b.k + 1 }) }) s

/-- A blend reaches b = 1; at the end of a stop ramp the integrals are cleared (R332, R334). -/
def blendEnd (s : State) : State :=
  match s.pcl.blend with
  | some b => if b.len ≤ b.k then updPcl (fun p => { p with blend := none, integ := if b.stop then [0, 0, 0] else p.integ }) s else s
  | none => s

def execBlendEnd (t : Nat) (s : State) : Host.Outcome State Fault Refusal := .next (inTick blendEnd (start t s))

/-! ## Warnings (R340, R341) -/

/-- PCL_POS_DEGRADED, at most once a second (R340, R346). -/
def degradedStep (s : State) : State :=
  let r := s.fus.state
  let bad := r.posArb == 1 || r.posArb == 5 || r.hdgArb == 1 || r.hdgArb == 5 || decide (r.posConf < s.ctl.confWarn) || decide (r.hdgConf < s.ctl.confWarn)
  let due := bad && oncePerSecond s.pcl.degMark s.up
  let s := updPcl (fun p => { p with degraded := bad, degMark := if due then some s.up else p.degMark }) s
  recordIf due 0x0A0A 4 r.posArb r.hdgArb (r.posConf * 256 + r.hdgConf) s.tickNo s

/-- The excursion and the heading excursion: mm and 0.001° (R341). -/
def State.excursion (s : State) : Nat × Nat :=
  (s.spDistance s.fus.state.north s.fus.state.east, (milliDeg (roundAway (s.pcl.axis 2).x (2 ^ 32) - s.fus.state.heading)).natAbs)

/-- Excursions in modes 3 to 5 (R341). -/
def excursionStep (s : State) : State :=
  if 3 ≤ s.pcl.mode ∧ s.pcl.mode ≤ 5 then
    let x := s.excursion
    let k := s.ctl
    let now := if k.excAlarm < x.1 ∨ k.hdgAlarm < x.2 then 2 else if k.excWarn < x.1 ∨ k.hdgWarn < x.2 then 1 else 0
    if s.pcl.exc < now then record 0x0A09 6 x.1 x.2 now s.tickNo (updPcl (fun p => { p with exc := now }) s) else s
  else s

/-- A station acknowledgement clears warning and alarm once the excursion is below its warning level (R341). -/
def excursionAck (s : State) : State :=
  let x := s.excursion
  if (3 ≤ s.pcl.mode ∧ s.pcl.mode ≤ 5) ∧ (s.ctl.excWarn < x.1 ∨ s.ctl.hdgWarn < x.2) then s else updPcl (fun p => { p with exc := 0 }) s

/-! ## The work of P3 (R296) -/

/-- The demand, the warnings and the excursions, once any outer loop has run. -/
def pclFinish (outer : Bool) (s : State) : State := excursionStep (degradedStep (writeDemand outer (updPcl (fun p => { p with outerWait := false }) s)))

/-- AP0's part of P3 after the automatic changes and the commands of the tick, up to the outer loop; below level 2 AP0 produces no demand (R296, R339, R342). -/
def pclInputs (s : State) : State :=
  let s := readJoystick s
  let h := readHandwheel s
  let s := windStep h.2
  let s := advanceModel (1 + s.pcl.missed) (moveTargets h.1 s)
  noteWaypoint (updPcl (fun p => { p with missed := 0 }) s)

/-- AP0's part of P3: on a tick with an outer loop the demand waits for it (R296, R300). -/
def pclWork (s : State) : State :=
  if s.sys.level < 2 then s
  else
    let s := pclInputs s
    if s.outerDue then updPcl (fun p => { p with outerWait := true }) s else pclFinish false s

/-- The outer loop of this P3, and the demand it was awaited for. -/
def outerRun (s : State) : State := pclFinish true (outerLoop s)

/-- A P3 abandoned or missed: its step of the reference model and its outer loop are made up in the next (R342). -/
def pclMiss (s : State) : State :=
  updPcl (fun p => { p with missed := p.missed + 1, outerDue := p.outerDue || s.tks.tickExt % s.ctl.outerDiv == 0 }) s

/-- What allocation reported in the tick, for the integrals (R306). -/
def noteSlack (slack : BitVec 3) (s : State) : State :=
  updPcl (fun p => { p with slackSeen := p.slackSeen ||| slack, fbSeen := p.fbSeen || s.als.fallback }) s

end Sys2Proof.Machine
end

