-- ==== Sys2Proof/Machine/Solver.lean ====
section
/-! DEFINITION. The iteration of the Reckoner: selection of a row, pivots, steps, drops, the carried set and the cold restart (R369 to R384). The linear algebra of a step, whose rounding the spec leaves to the stored factors, is Config's. -/

namespace Sys2Proof.Machine

open Sys2Proof

/-- A value num / den in a class of exponent e, rounded and saturated (R369, R371). -/
def toClass (e num : Int) (den : Nat) : Int :=
  sat31 (if e ≤ 0 then roundAway (num * 2 ^ (-e).toNat) den else roundAway num (den * 2 ^ e.toNat))

/-- A value of a class in thousandths of its unit. -/
def fromClassMilli (e x : Int) : Int := if e ≤ 0 then roundAway (x * 1000) (2 ^ (-e).toNat) else x * 1000 * 2 ^ e.toNat

/-- A value of a class in its unit. -/
def fromClass (e x : Int) : Int := if e ≤ 0 then roundAway x (2 ^ (-e).toNat) else x * 2 ^ e.toNat

/-- A row is a POWER row (R362). -/
def isPower (tag : Nat) : Bool := decide (0x8000 ≤ tag ∧ tag < 0x8800)

/-- A row is a USER row. -/
def isUser (tag : Nat) : Bool := decide (0x8800 ≤ tag)

/-- Class of a row's right-hand side: 0 FORCE, 2 POWER (R369). -/
def rowClass (tag : Nat) : Nat := if isPower tag then 2 else 0

/-- The violation of a row at x in its class: normal · x − rhs (R371). -/
def violation2 (k : ImgAlloc) (x : List Int) (r : AlsRow) : Int :=
  let sum := r.normal.foldl (fun a p => a + p.2 * nth x p.1 0) 0
  let v := if isPower r.tag then toClass (k.expPower - k.expCoef - k.expForce) sum 1
    else if isUser r.tag then toClass (-k.expCoef) sum 1
    else roundAway sum (2 ^ 30)
  v - r.rhs

/-- Key of a row for selection: greatest violation × ROW_SCALE, ties to the lower tag (R373). -/
def moreViolated (k : ImgAlloc) (x : List Int) (a b : AlsRow) : Bool :=
  let va := violation2 k x a * (a.scale : Nat)
  let vb := violation2 k x b * (b.scale : Nat)
  decide (vb < va) || (va == vb && decide (a.tag < b.tag))

/-- The most violated row neither active nor DEPENDENT (R373). -/
def selectRow (k : ImgAlloc) (rows : List AlsRow) (x : List Int) (act : List AlsRow) (dep : List Nat) : Option AlsRow :=
  (rows.filter (fun r => !act.any (fun a => a.tag == r.tag) && !dep.contains r.tag
      && decide (((assoc k.violTol (rowClass r.tag)).getD 0 : Nat) < violation2 k x r))).foldl
    (fun (b : Option AlsRow) r => match b with | none => some r | some c => if moreViolated k x r c then some r else some c) none

/-- A pivot fails: it is 0, or |num| ≥ |d| × 2^31 (R374). -/
def pivotFails (num d : Int) : Bool := d == 0 || decide (d.natAbs * 2 ^ 31 ≤ num.natAbs)

/-- The active row of the least u / r among the candidates, with its index (R375). -/
def ratioTest (act : List AlsRow) (u r : List Int) : Option Nat :=
  ((List.range act.length).filter (fun j => decide (0 < nth r j 0 ∧ ((nth u j 0).natAbs : Int) < nth r j 0 * 2 ^ 31))).foldl
    (fun (b : Option Nat) j => match b with
      | none => some j
      | some i =>
        let l := nth u j 0 * nth r i 0
        let m := nth u i 0 * nth r j 0
        if l < m then some j
        else if l == m && (match act[j]?, act[i]? with | some a, some b => decide (a.tag < b.tag) | _, _ => false) then some j else some i) none

/-- Remove the element at an index. -/
def removeAt {α : Type} : List α → Nat → List α
  | [], _ => []
  | _ :: xs, 0 => xs
  | x :: xs, n + 1 => x :: removeAt xs n

/-- A solve in progress. -/
structure Solve where
  x     : List Int
  act   : List AlsRow := []
  u     : List Int := []
  /-- The row being added and its multiplier. -/
  p     : Option (AlsRow × Int) := none
  dep   : List Nat := []
  iter  : Nat := 0
  /-- Class and iteration of the first saturation. -/
  ovf   : Option (Nat × Nat) := none
  /-- Cause and tag of a cold restart, and the iterations before it. -/
  cold  : Option (Nat × Nat × Nat) := none
  /-- ITER_MAX was reached. -/
  cap   : Bool := false
  done  : Bool := false
  deriving DecidableEq, Repr

/-- What a solve runs on: the structure's data, the slots' positions, the mask, the rows and the demand. -/
structure SolveIn where
  k    : ImgAlloc
  xs   : List Int
  mask : BitVec 16
  rows : List AlsRow
  tau  : List Int
  deriving DecidableEq, Repr

def noteOvf (iter : Nat) (o : Option Nat) (prev : Option (Nat × Nat)) : Option (Nat × Nat) :=
  match prev, o with
  | some p, _ => some p
  | none, some c => some (c, iter)
  | none, none => none

/-- One iteration: an addition, a drop, or a DEPENDENT marking (R373 to R376). -/
def solveStep (i : SolveIn) (v : Solve) : Solve :=
  match (match v.p with | some p => some p | none => (selectRow i.k i.rows v.x v.act v.dep).map (fun r => (r, 0))) with
  | none => { v with done := true }
  | some (p, up) =>
    let v := { v with iter := v.iter + 1 }
    let dir := Config.direction i.k i.xs i.mask v.act p
    let num := violation2 i.k v.x p
    if pivotFails num dir.d then { v with dep := v.dep ++ [p.tag], p := none }
    else
      let pt : SolvePoint := { x := v.x, u := v.u ++ [up], ovf := none }
      let n := v.act.length
      match ratioTest v.act v.u dir.r with
      | some j =>
        if nth v.u j 0 * dir.d.natAbs < (num.natAbs : Int) * nth dir.r j 0 then
          let q := Config.advance i.k dir (nth v.u j 0) (nth dir.r j 0) pt
          { v with x := q.x, u := removeAt (q.u.take n) j, act := removeAt v.act j, p := some (p, nth q.u n 0), ovf := noteOvf v.iter q.ovf v.ovf }
        else
          let q := Config.advance i.k dir num dir.d pt
          { v with x := q.x, u := q.u, act := v.act ++ [p], p := none, ovf := noteOvf v.iter q.ovf v.ovf }
      | none =>
        let q := Config.advance i.k dir num dir.d pt
        { v with x := q.x, u := q.u, act := v.act ++ [p], p := none, ovf := noteOvf v.iter q.ovf v.ovf }

/-- Iterate up to ITER_MAX (R376, R377). -/
def solveLoop (i : SolveIn) (max : Nat) : Nat → Solve → Solve
  | 0, v => { v with cap := true }
  | f + 1, v =>
    if v.done || v.cap then v
    else if max ≤ v.iter then
      (match v.p, selectRow i.k i.rows v.x v.act v.dep with
       | none, none => { v with done := true }
       | _, _ => { v with cap := true })
    else solveLoop i max f (solveStep i v)

/-- A cold start: the equality minimum (R384). -/
def coldStart (i : SolveIn) : Solve :=
  let p := Config.equalityMin i.k i.xs i.mask i.tau
  { x := p.x, ovf := noteOvf 0 p.ovf none }

/-- Factor the carried rows in their order; a failed pivot, or a negative multiplier at the end, restarts the solve cold (R382, R383). -/
def factorCarried (i : SolveIn) (x0 : List Int) : List AlsRow → List AlsRow → Nat → Solve
  | [], act, n =>
    let p := Config.carriedPoint i.k i.xs i.mask act i.tau
    match (List.range act.length).find? (fun j => decide (nth p.u j 0 < 0)) with
    | some j => { coldStart i with cold := some (1, (match act[j]? with | some a => a.tag | none => 0), n) }
    | none => { x := p.x, act := act, u := p.u, iter := n, ovf := noteOvf n p.ovf none }
  | r :: rs, act, n =>
    let d := (Config.direction i.k i.xs i.mask act r).d
    if pivotFails (violation2 i.k x0 r) d then { coldStart i with cold := some (0, r.tag, n + 1) }
    else factorCarried i x0 rs (act ++ [r]) (n + 1)

/-- A main solve with a carried set, or cold (R382 to R384). -/
def mainSolve (i : SolveIn) (carried : List Nat) : Solve :=
  let rows := carried.filterMap (fun t => i.rows.find? (fun r => r.tag == t))
  let v := if rows = [] then coldStart i else factorCarried i (coldStart i).x rows [] 0
  solveLoop i i.k.iterMax (i.k.iterMax + 1) v

/-- A case of consequence analysis: cold, with CA_ITER_MAX (R395). -/
def caseSolve (i : SolveIn) : Solve := solveLoop i i.k.caIterMax (i.k.caIterMax + 1) (coldStart i)

end Sys2Proof.Machine
end

