-- ==== Sys2Proof/Machine/Alloc.lean ====
section
/-! DEFINITION. Thrust allocation: bounds and rows, structures and their loads, the outcome of the main solve, misses and the fallback, and consequence analysis (R348 to R406). Thrust bounds are held in mN. -/

namespace Sys2Proof.Machine

open Sys2Proof

def State.alc (s : State) : ImgAlloc := s.image.alloc
def updAls (f : Als → Als) (s : State) : State := { s with als := f s.als }
def State.slot (s : State) (i : Nat) : SlotCfg := nth s.alc.slots i {}
def State.slotXs (s : State) : List Int := s.image.fusion.slotX

/-! ## Availability, draught bounds, sectors (R353 to R361) -/

/-- Bounds of a table at a draught, held at its ends (R353). -/
def boundsAt : List (Int × Nat × Nat) → Int → Nat × Nat
  | [], _ => (0, 0)
  | [p], _ => p.2
  | p :: q :: rest, d =>
    if d ≤ p.1 then p.2
    else if d < q.1 then
      let at_ := fun (a b : Nat) => (a + roundAway (((b : Int) - a) * (d - p.1)) (q.1 - p.1).toNat).toNat
      (at_ p.2.1 q.2.1, at_ p.2.2 q.2.2)
    else boundsAt (q :: rest) d

/-- The latest sample of a slot's THRUSTER context. -/
def State.thruster (s : State) (i : Nat) : List Int := match (s.ctx (s.slot i).thrCtx).meas with | some m => m.2.1 | none => []

/-- A slot is available: its context unmasked, its drive ready (bit 0 of the status word), no operator command against it (R360). -/
def State.slotAvail (s : State) (i : Nat) : Bool :=
  (s.slot i).kind != .none && (s.ctx (s.slot i).thrCtx).mask == 0 && decide (nth (s.thruster i) 0 0 % 2 = 1) && !bitAt s.als.disabled i

/-- The mask of available slots (R364). -/
def State.availMask (s : State) : BitVec 16 := maskOf 16 s.slotAvail

/-- A binary angle in 0 to 2^32 − 1. -/
def turn (a : Int) : Nat := (a % 4294967296).toNat

/-- An angle lies inside a forbidden sector, clockwise from its start (R357). -/
def inSector (sec : Int × Int) (a : Int) : Bool := decide (turn (a - sec.1) < turn (sec.2 - sec.1)) && a != sec.1

/-- Angle to starboard from a direction to the first sector, and to port (R356). -/
def arcRight (secs : List (Int × Int)) (a : Int) : Nat := secs.foldl (fun m sec => min m (turn (sec.1 - a))) (2 ^ 31)
def arcLeft (secs : List (Int × Int)) (a : Int) : Nat := secs.foldl (fun m sec => min m (turn (a - sec.2))) (2 ^ 31)

/-- The azimuth step of a tick (R354). -/
def dPhi (k : SlotCfg) : Int := roundAway (k.azRate * 4294967296) 360000000

/-- The widths of the cone to port and starboard (R356, R357). -/
def coneWidths (k : SlotCfg) (phi : Int) (standby : Bool) : Int × Int :=
  if standby then (0, 0)
  else
    match k.sectors.find? (fun sec => inSector sec phi) with
    | some sec => if turn (phi - sec.1) ≤ turn (sec.2 - phi) then (dPhi k, 0) else (0, dPhi k)
    | none => (min (dPhi k) (arcLeft k.sectors phi), min (dPhi k) (arcRight k.sectors phi))

/-- The measured azimuth of a slot, when its feedback is not lost (R361). -/
def State.measuredAz (s : State) (i : Nat) : Option Int :=
  let x := nth s.srv.axes (2 * i) {}
  if x.enabled && !x.fbLost then some x.fb else none

/-- What AP2 forms for one slot: reference azimuth, widths, bounds in mN, static bounds, RATE_YIELD, and the start of a lag. -/
structure SlotForm where
  phi   : Int := 0
  left  : Int := 0
  right : Int := 0
  upper : Int := 0
  lower : Int := 0
  tmax  : Nat := 0
  tmaxRev : Nat := 0
  yield : Option Int := none
  lag   : Bool := false
  deriving DecidableEq, Repr

/-- The bounds of a slot (R353 to R357, R360, R361). -/
def State.formSlot (s : State) (avail : Bool) (i : Nat) : SlotForm :=
  let k := s.slot i
  let t0 : Int := nth s.als.record.thrust i 0 * 1000
  let az0 := nth s.als.record.az i 0
  let tb := boundsAt k.tb (nth s.fus.slotDraught i 0)
  let lag := match s.measuredAz i with
    | some m => k.kind == .azimuth && decide (s.alc.azLagTol < (milliDeg (m - az0)).natAbs)
    | none => false
  let phi := if lag then (s.measuredAz i).getD az0 else az0
  let w := if k.kind = .azimuth then coneWidths k phi (s.pcl.mode == 0) else (0, 0)
  if ¬ avail then { phi := phi, left := w.1, right := w.2, tmax := tb.1, tmaxRev := tb.2, lag := lag }
  else
    let top : Int := (tb.1 : Int) * 1000
    let bottom : Int := if k.kind = .azimuth then 0 else -((tb.2 : Int) * 1000)
    let up := min top (t0 + k.thrRate)
    let lo := max bottom (t0 - k.thrRate)
    let static := if top < t0 then top else bottom
    let bad := decide (up < lo)
    let up := if bad then static else up
    let lo := if bad then static else lo
    let up := if lag then min up t0 else up
    let sector := k.kind == .azimuth && k.sectors.any (fun sec => inSector sec phi)
    let up := if sector then 0 else up
    { phi := phi, left := w.1, right := w.2, upper := up, lower := if sector then min lo 0 else lo, tmax := tb.1, tmaxRev := tb.2
      yield := if bad then some static else none, lag := lag }

/-! ## Power (R358, R359) -/

/-- PWR_POINT's value while it is neither stale nor bad (R359). -/
def State.powerGood (s : State) (b : Nat) : Option Nat :=
  match nth s.alc.pwrPoint b none with
  | some p => let r := s.point p; if r.quality ≤ 1 then some r.value.toNat else none
  | none => none

/-- Keep the last good power of each board (R359). -/
def readPower (s : State) : State :=
  updAls (fun a => { a with
    pwrGood := (List.range 8).map (fun b => match s.powerGood b with | some v => some (v, s.up) | none => nth a.pwrGood b none)
    pwrOut := maskOf 8 (fun b => bitAt a.pwrOut b && (s.powerGood b).isNone) }) s

/-- P_b: the point's value, its last good value for PWR_HOLD, then PWR_DEFAULT (R359). -/
def State.power (s : State) (b : Nat) : Nat :=
  match nth s.als.pwrGood b none with
  | some (v, _) => if bitAt s.als.pwrOut b then nth s.alc.pwrDefault b 0 else v
  | none => nth s.alc.pwrDefault b 0

/-- A stale power point exceeds PWR_HOLD (R359). -/
def pwrHoldExpiry (b : Nat) (s : State) : State :=
  match nth s.als.pwrGood b none with
  | some (_, u) =>
    if (s.powerGood b).isNone ∧ u + s.alc.pwrHoldS * nsPerS ≤ s.up then updAls (fun a => { a with pwrOut := setBit a.pwrOut b true }) s else s
  | none => s

def execPwrHoldExpiry (t b : Nat) (s : State) : Host.Outcome State Fault Refusal := .next (pwrHoldExpiry b (start t s))

/-- p_s(t) in W, t in mN (R358). -/
def powerOf (k : SlotCfg) (t : Nat) : Int := ((k.pwrK * isqrt (t * t * t * 2 ^ 32) / (65536 * 65536) * 1000) / 31622776 : Nat)

/-! ## Rows (R351, R358, R362) -/

/-- Tag of a thruster row (R362). -/
def thrTag (slot kind idx : Nat) : Nat := slot * 2048 + kind * 256 + idx

/-- Tag of a shared row: kind 0 POWER, 1 USER (R362). -/
def sharedTag (kind idx : Nat) : Nat := 0x8000 + kind * 2048 + idx * 256

/-- ROW_SCALE of a row (R373). -/
def State.rowScale (s : State) (tag : Nat) : Nat := (assoc s.alc.rowScale tag).getD 1

/-- Unit of the DIR class. -/
def dirOne : Int := 2 ^ 30

def sinI (a : Int) : Int := sinQ30 (wordI a)
def cosI (a : Int) : Int := cosQ30 (wordI a)

/-- The rows of a slot in the tick form (R351). -/
def State.slotRows (s : State) (i : Nat) (f : SlotForm) : List AlsRow :=
  let e := s.alc.expForce
  let row := fun (kind : Nat) (n : List (Nat × Int)) (b : Int) => ({ tag := thrTag i kind 0, normal := n, rhs := toClass e b 1000, scale := s.rowScale (thrTag i kind 0) } : AlsRow)
  match (s.slot i).kind with
  | .azimuth =>
    let c := cosI f.phi
    let d := sinI f.phi
    let l := f.phi - f.left
    let r := f.phi + f.right
    [row 0 [(2 * i, c), (2 * i + 1, d)] f.upper, row 1 [(2 * i, -c), (2 * i + 1, -d)] (-f.lower),
     row 2 [(2 * i, sinI l), (2 * i + 1, -cosI l)] 0, row 3 [(2 * i, -sinI r), (2 * i + 1, cosI r)] 0]
  | .tunnel => [row 0 [(2 * i + 1, dirOne)] f.upper, row 1 [(2 * i + 1, -dirOne)] (-f.lower)]
  | .fixed => [row 0 [(2 * i, dirOne)] f.upper, row 1 [(2 * i, -dirOne)] (-f.lower)]
  | .none => []

/-- The POWER row of a board (R358). -/
def State.powerRow (s : State) (slots : List Nat) (fs : List SlotForm) (b : Nat) : Option AlsRow :=
  let on := slots.filter (fun i => (s.slot i).board == some b)
  if on = [] then none
  else
    let t0 := fun (i : Nat) => ((nth s.als.record.thrust i 0).natAbs * 1000 : Nat)
    let p := fun (i : Nat) => powerOf (s.slot i) (t0 i)
    -- g_s in W per N, as a ratio over THR_RATE in mN
    let dp := fun (i : Nat) => (powerOf (s.slot i) (t0 i + (s.slot i).thrRate) - p i) * 1000
    let coef := fun (i : Nat) (d : Int) => toClass s.alc.expCoef (dp i * d) ((s.slot i).thrRate * 2 ^ 30)
    let sigma := fun (i : Nat) => if nth s.als.record.thrust i 0 < 0 then -dirOne else dirOne
    let normal := on.flatMap (fun i =>
      let phi := (nth fs i {}).phi
      match (s.slot i).kind with
      | .azimuth => [(2 * i, coef i (cosI phi)), (2 * i + 1, coef i (sinI phi))]
      | .tunnel => [(2 * i + 1, coef i (sigma i))]
      | .fixed => [(2 * i, coef i (sigma i))]
      | .none => [])
    let used := on.foldl (fun a i => a + p i - roundAway (dp i * (t0 i : Nat)) ((s.slot i).thrRate * 1000)) 0
    some { tag := sharedTag 0 b, normal := normal, rhs := toClass s.alc.expPower ((s.power b : Int) - used) 1, scale := s.rowScale (sharedTag 0 b) }

/-- The user rows of a structure (R351). -/
def State.userRows (s : State) (k : StructCfg) : List AlsRow :=
  (List.range k.users.length).map (fun j =>
    let u := nth k.users j { coefs := [], rhs := 0 }
    { tag := sharedTag 1 j, normal := u.coefs.flatMap (fun c => [(2 * c.1, c.2.1), (2 * c.1 + 1, c.2.2)]), rhs := u.rhs, scale := s.rowScale (sharedTag 1 j) })

/-! ## Structures (R363 to R366) -/

def State.structCfg (s : State) (n : Nat) : StructCfg := (nth s.alc.structs n none).getD { avail := 0 }

/-- Structures that are READY or ACTIVE, by number. -/
def State.resident (s : State) : List Nat := ((s.als.slots.filter (fun x => decide (2 ≤ x.state))).map (·.num))

/-- The ACTIVE structure. -/
def State.activeStruct (s : State) : Option Nat := (s.als.slots.find? (fun x => x.state == 3)).map (·.num)

/-- Selection of the structure for a mask: its number, and whether its AVAIL equals the mask (R364). -/
def State.selectStruct (s : State) (mask : BitVec 16) : Option (Nat × Bool) :=
  match s.resident.find? (fun n => (s.structCfg n).avail == mask) with
  | some n => some (n, true)
  | none =>
    ((s.resident.filter (fun n => (s.structCfg n).avail &&& mask == mask)).foldl
      (fun (b : Option Nat) n => match b with
        | none => some n
        | some m =>
          let pn := popCount (s.structCfg n).avail
          let pm := popCount (s.structCfg m).avail
          if pn < pm ∨ (pn = pm ∧ n < m) then some n else some m) none).map (fun n => (n, false))

/-- The image structure whose AVAIL equals a mask. -/
def State.structFor (s : State) (mask : BitVec 16) : Option Nat :=
  (List.range 64).find? (fun n => match nth s.alc.structs n none with | some k => k.avail == mask | none => false)

/-- Begin a requested load when none runs: into a FREE slot, or the READY slot used longest ago, except structure 0 (R365). -/
def beginLoad (s : State) : State :=
  match s.als.loading, s.als.loadReq with
  | none, some n =>
    let free := (List.range 8).find? (fun j => (nth s.als.slots j {}).state == 0)
    let oldest := ((List.range 8).filter (fun j => let x := nth s.als.slots j {}; x.state == 2 && x.num != 0)).foldl
      (fun (b : Option Nat) j => match b with
        | none => some j
        | some i => if (nth s.als.slots j {}).used < (nth s.als.slots i {}).used then some j else some i) none
    match (match free with | some j => some j | none => oldest) with
    | some j => updAls (fun a => { a with loadReq := none, loading := some { slot := j, num := n, since := s.up }, slots := put a.slots j { state := 1, num := n, used := 0 } }) s
    | none => s
  | _, _ => s

/-- Request the load of a structure; a request not yet begun is replaced (R364, R365). -/
def requestLoad (n : Nat) (s : State) : State :=
  let same : Bool := match s.als.loading with | some l => l.num == n | none => false
  if same || s.resident.contains n then s else beginLoad (updAls (fun a => { a with loadReq := some n }) s)

/-- A load completes: its slot is READY, and a waiting request begins (R365). -/
def structureLoaded (s : State) : State :=
  match s.als.loading with
  | none => s
  | some l =>
    let s := updAls (fun a => { a with loading := none, slots := put a.slots l.slot { state := 2, num := l.num, used := s.tks.tickExt } }) s
    beginLoad (record 0x0B08 2 l.num l.slot ((s.up - l.since) / 1000 : Nat) s.tickNo s)

def execStructureLoaded (t : Nat) (s : State) : Host.Outcome State Fault Refusal := .next (structureLoaded (start t s))

/-- Resident structures at S10: structure 0 and those with PRELOAD (R363, R700). -/
def alsStart (s : State) : State :=
  let want := ((List.range 64).filter (fun n => match nth s.alc.structs n none with | some k => n == 0 || k.preload | none => false)).take 8
  updAls (fun a => { a with slots := (List.range 8).map (fun j => match want[j]? with | some n => ({ state := 2, num := n } : AlsSlot) | none => {}) }) s

/-- The selected structure becomes ACTIVE and the one before it READY (R366). -/
def switchStruct (n : Nat) (s : State) : State :=
  let old := s.activeStruct
  if old = some n then s
  else
    let s := updAls (fun a => { a with slots := a.slots.map (fun x =>
      if x.state = 3 then { x with state := 2, used := s.tks.tickExt } else if x.state = 2 ∧ x.num = n then { x with state := 3 } else x) }) s
    let s := if old.isSome then record 0x0B04 3 (old.getD 0) n s.als.prob.mask.toNat s.tickNo s else s
    updAls (fun a => { a with caOld := a.caRun && !a.caForm }) s

/-! ## AP2's part of P3 (R351 to R367) -/

/-- The key of an entry: tag and place in the row; DEMAND entries stand above the tags (R367). -/
def entries (p : AlsProblem) : List (Nat × Int) :=
  (List.range 3).map (fun a => (0x400000 + a, nth p.tau a 0)) ++
    p.rows.flatMap (fun r => (r.tag * 64, r.rhs) :: r.normal.map (fun c => (r.tag * 64 + 1 + c.1, c.2)))

/-- RATE_YIELD and ALS_AZ_LAG of a slot (R355, R361). -/
def noteSlot (fs : List SlotForm) (s : State) (i : Nat) : State :=
  let f := nth fs i {}
  let due := f.yield.isSome && oncePerSecond (nth s.als.yieldMark i none) s.up
  let s := if due then updAls (fun a => { a with yieldMark := put a.yieldMark i (some s.up) }) s else s
  let s := recordIf due 0x0B09 3 i (roundAway (f.yield.getD 0) 1000) (nth s.als.record.thrust i 0) s.tickNo s
  let s := recordIf (f.lag && !bitAt s.als.lagging i) 0x0B0A 4 i (nth s.als.record.az i 0) f.phi s.tickNo s
  updAls (fun a => { a with lagging := setBit a.lagging i f.lag }) s

/-- AP2's part of P3: bounds, structure, rows and the delta list; at level 2 AP0 forms it for the structure last ACTIVE (R351 to R367, R389). -/
def alsForm (s : State) : State :=
  let s := readPower s
  let mask := s.availMask
  let sel := if s.sys.level < 3 then s.activeStruct.map (fun n => (n, true)) else s.selectStruct mask
  match sel with
  | none => s
  | some (num, exact) =>
    let s := if exact then s else (match s.structFor mask with | some n => requestLoad n s | none => s)
    let slots := bitsOf (s.structCfg num).avail
    let fs := (List.range 16).map (fun i => s.formSlot (bitAt mask i) i)
    let s := slots.foldl (noteSlot fs) s
    let rows := slots.flatMap (fun i => s.slotRows i (nth fs i {})) ++ (List.range 8).filterMap (s.powerRow slots fs) ++ s.userRows (s.structCfg num)
    let d := s.pcl.dem.f
    let tau := [toClass s.alc.expForce (nth d 0 0) 1, toClass s.alc.expForce (nth d 1 0) 1, toClass s.alc.expMoment (nth d 2 0) 1]
    let p : AlsProblem := {
      num := num, mask := mask, exact := exact, rows := rows, tau := tau, t0 := s.als.record.thrust
      phi0 := fs.map (·.phi), left := fs.map (·.left), right := fs.map (·.right), upper := fs.map (·.upper), lower := fs.map (·.lower)
      tmax := fs.map (·.tmax), tmaxRev := fs.map (·.tmaxRev), yield := slots.any (fun i => (nth fs i {}).yield.isSome) }
    let switch_ := s.activeStruct != some num
    let held := if switch_ then s.als.resident.filter (fun e => decide (0x400000 ≤ e.1)) else s.als.resident
    let new := (entries p).filter (fun e => (assoc held e.1).getD 0 != e.2)
    updAls (fun a => { a with
      prob := p, switch_ := if switch_ then some num else none, delta := min 512 (new.length + b2n switch_), applied := 0
      next := (entries p).filter (fun e => e.2 != 0) }) s

/-- The outer loop of a P3 that waits for it: the law, the demand, and AP2's delta list (R296, R300). -/
def outerCommand (s : State) : State :=
  if s.tks.phase = 3 && s.tks.phaseOpen && s.pcl.outerWait then alsForm (outerRun s) else s

def execOuterLoop (t : Nat) (s : State) : Host.Outcome State Fault Refusal := .next (inTick outerCommand (start t s))

/-! ## The result (R377 to R379, R390) -/

/-- What a solve commands for a slot: thrust in mN, azimuth, and the tag and amount of a clamp (R378, R379). -/
structure SlotOut where
  t   : Int := 0
  az  : Int := 0
  clamp : Option (Nat × Int) := none
  deriving DecidableEq, Repr

/-- Bring a value onto its bounds. -/
def clampSlot (i : Nat) (lo hi t : Int) : Int × Option (Nat × Int) :=
  if hi < t then (hi, some (thrTag i 0 0, roundAway (t - hi) 1000)) else if t < lo then (lo, some (thrTag i 1 0, roundAway (lo - t) 1000)) else (t, none)

/-- The result of a slot (R378, R379). -/
def State.slotResult (s : State) (p : AlsProblem) (x : List Int) (i : Nat) : SlotOut :=
  let k := s.slot i
  let e := s.alc.expForce
  let fx := fromClassMilli e (nth x (2 * i) 0)
  let fy := fromClassMilli e (nth x (2 * i + 1) 0)
  let hi := nth p.upper i 0
  let lo := nth p.lower i 0
  if ¬ bitAt (s.structCfg p.num).avail i then { az := if k.kind = .tunnel then 0x40000000 else if k.kind = .azimuth then nth p.phi0 i 0 else 0 }
  else
    match k.kind with
    | .tunnel => let c := clampSlot i lo hi fy; { t := c.1, az := 0x40000000, clamp := c.2 }
    | .fixed => let c := clampSlot i lo hi fx; { t := c.1, clamp := c.2 }
    | .none => {}
    | .azimuth =>
      let phi := nth p.phi0 i 0
      let l := nth p.left i 0
      let r := nth p.right i 0
      let m : Int := isqrt ((fx * fx + fy * fy).toNat)
      if m = 0 then
        let inside := k.sectors.any (fun sec => inSector sec phi)
        let mv := if inside then (if l = 0 then r else -l) else if l < r then -l else r
        let c := clampSlot i lo hi 0
        { t := c.1, az := wrapAngle (phi + mv), clamp := c.2 }
      else
        let dir := wrapAngle ((atan2W fy fx).toInt - phi)
        let az := if dir < -l then phi - l else if r < dir then phi + r else phi + dir
        let proj := q30 fx (cosI phi) + q30 fy (sinI phi)
        let c := if hi < proj then clampSlot i lo hi proj else if proj < lo then clampSlot i lo hi proj else (m, none)
        let edge := if dir < -l then some (thrTag i 2 0, roundAway (q30 m (sinI (-l - dir))) 1000) else if r < dir then some (thrTag i 3 0, roundAway (q30 m (sinI (dir - r))) 1000) else none
        { t := c.1, az := wrapAngle az, clamp := match c.2 with | some x => some x | none => edge }

/-- The force and moment of thrusts (N) and azimuths (R350). -/
def State.achievedOf (s : State) (t az : List Int) : List Int :=
  let f := fun (i : Nat) => (q30 (nth t i 0) (cosI (nth az i 0)), q30 (nth t i 0) (sinI (nth az i 0)))
  let used := (List.range 16).filter (fun i => (s.slot i).kind != .none)
  [used.foldl (fun a i => a + (f i).1) 0, used.foldl (fun a i => a + (f i).2) 0,
   roundAway (used.foldl (fun a i => a + nth s.slotXs i 0 * (f i).2 - (s.slot i).y * (f i).1) 0) 1000]

/-- The slack bits of a slack (R377). -/
def State.slackBits (s : State) (l : List Int) : BitVec 3 := maskOf 3 (fun a => decide ((nth s.alc.slackTol a 0) < (nth l a 0).natAbs))

def sub3 (a b : List Int) : List Int := (List.range 3).map (fun i => nth a i 0 - nth b i 0)

/-- The main solve of the tick on its problem. -/
def State.solveIn (s : State) : SolveIn :=
  { k := s.alc, xs := s.slotXs, mask := (s.structCfg s.als.prob.num).avail, rows := s.als.prob.rows, tau := s.als.prob.tau }

/-- The solve starts cold (R384). -/
def State.startsCold (s : State) : Bool := s.als.needCold || !s.als.prob.exact

def State.tickSolve (s : State) : Solve := mainSolve s.solveIn (if s.startsCold then [] else s.als.carried)

/-- Time of an instant of the solve after the edge, 0.01 µs: the delta list, then 150 cycles an iteration (R368, R376). -/
def solveTime (n iters : Nat) : Nat := 42000 + ((24 + n) + 150 * iters) * 100 / 600

/-- The case of consequence analysis formed after P4 of the round's first tick (R392). -/
def caForm (s : State) : State :=
  let r := s.fus.state
  let b := s.toVessel r.biasN r.biasE
  let f := fun (x : Int) => roundAway (-(x * s.alc.caFactor)) 100
  updAls (fun a => { a with caForm := false, caOld := false, caSnap := {
    num := s.activeStruct.getD 0, mask := s.als.prob.mask, tau := [f b.1, f b.2, f r.biasMz]
    tmax := s.als.prob.tmax, tmaxRev := s.als.prob.tmaxRev, az := s.als.record.az, pwr := (List.range 8).map s.power, edgeNs := s.tim.latSys } }) s

/-- The main solve has posted: the Reckoner returns to consequence analysis (R50, R392). -/
def solvePosted (ns : Nat) (s : State) : State :=
  let s := updAls (fun a => { a with solving := false, reckonerHeld := false, endNs := ns, endMax := max a.endMax (ns / 10 % 65536) }) s
  if s.als.caRun && s.als.caForm then caForm s else s

/-- An allocation miss (R380, R386). -/
def allocMiss (outcome iter : Nat) (s : State) : State :=
  let run := s.als.missRun + 1
  let s := updAls (fun a => { a with
    missRun := run, goodRun := 0, missIter := if outcome = 2 then satAdd a.missIter 1 65535 else a.missIter, missDead := if outcome = 3 then satAdd a.missDead 1 65535 else a.missDead
    record := if a.fallback then { a.record with outcome := outcome } else { a.record with tickNo := s.tickNo, outcome := outcome, source := if a.record.source = 3 then 3 else 1, iter := iter, yield := a.prob.yield } }) s
  let s := record 0x0B01 5 outcome iter run s.tickNo s
  noteSlack s.als.record.slackBits s

/-- A cold restart, counted, with ALS_COLD at most once a second (R383). -/
def noteCold (v : Solve) (s : State) : State :=
  match v.cold with
  | some (c, tag, n) =>
    let due := oncePerSecond s.als.coldMark s.up
    let s := updAls (fun a => { a with coldCnt := satAdd a.coldCnt 1 65535, coldMark := if due then some s.up else a.coldMark, coldNs := solveTime a.delta n * 10 }) s
    recordIf due 0x0B05 2 s.als.prob.num c tag s.tickNo s
  | none => updAls (fun a => { a with coldNs := 0 }) s

/-- A row marked DEPENDENT, counted, with ALS_DEPENDENT at most once a second (R374). -/
def noteDep (s : State) (tag : Nat) : State :=
  let log := s.up :: s.als.depLog.filter (fun u => decide (s.up < u + nsPerS))
  let due := oncePerSecond s.als.depMark s.up
  let s := updAls (fun a => { a with depCnt := satAdd a.depCnt 1 255, depLog := log, depMark := if due then some s.up else a.depMark }) s
  recordIf due 0x0B06 2 tag log.length s.als.prob.num s.tickNo s

/-- A saturation in the solve, counted, with ALS_OVF at most once a second (R371). -/
def noteSaturation (v : Solve) (s : State) : State :=
  match v.ovf with
  | some (c, n) =>
    let due := oncePerSecond s.als.ovfMark s.up
    let s := updAls (fun a => { a with ovfCnt := satAdd a.ovfCnt 1 255, ovfMark := if due then some s.up else a.ovfMark }) s
    recordIf due 0x0B07 4 c n 0 s.tickNo s
  | none => s

/-- Events of a solve (R371, R374, R383). -/
def solveEvents (v : Solve) (s : State) : State := noteSaturation v (v.dep.foldl noteDep (noteCold v s))

/-- The allocation record of a solve that was not a miss (R377 to R379, R390). -/
def State.solveRecord (s : State) (v : Solve) (outs : List SlotOut) : AlsRec :=
  let t := outs.map (fun o => roundAway o.t 1000)
  let az := outs.map (·.az)
  let ach := s.achievedOf t az
  let slack := sub3 s.pcl.dem.f ach
  let bits := s.slackBits slack
  { tickNo := s.tickNo, source := 0, outcome := if bits = 0 then 0 else 1, cold := s.startsCold || v.cold.isSome, ovf := v.ovf.isSome
    clamped := outs.any (fun o => o.clamp.isSome), slackBits := bits, struct_ := s.als.prob.num, iter := v.iter, yield := s.als.prob.yield
    ach := ach, slack := slack, thrust := t, az := az }

/-- ALS_CLAMP for the first slot brought onto a bound, at most once a second (R378). -/
def noteClamp (outs : List SlotOut) (s : State) : State :=
  match (List.range 16).find? (fun i => (nth outs i {}).clamp.isSome) with
  | some i =>
    let c := (nth outs i {}).clamp.getD (0, 0)
    let due := oncePerSecond s.als.clampMark s.up
    recordIf due 0x0B0B 3 i c.1 c.2 s.tickNo (updAls (fun a => { a with clampMark := if due then some s.up else a.clampMark }) s)
  | none => s

/-- The result of a solve that was not a miss: written, or held while the fallback is in use (R377 to R381, R388). -/
def takeSolve (v : Solve) (s : State) : State :=
  let outs := (List.range 16).map (s.slotResult s.als.prob v.x)
  let r := s.solveRecord v outs
  let s := updAls (fun a => { a with
    missRun := 0, goodRun := a.goodRun + 1, carried := v.act.map (·.tag), needCold := false
    record := if a.fallback then { a.record with outcome := r.outcome } else r, held := if a.fallback then some r else none }) (noteClamp outs s)
  noteSlack s.als.record.slackBits s

/-- The main solve ends: its record is written, or it is a miss by ITER_MAX (R377 to R388). -/
def solveOutcome (s : State) : State :=
  if ¬ s.als.solving ∨ 618000 ≤ s.tks.sinceEdge then s
  else
    let v := s.tickSolve
    let s := solvePosted s.tks.sinceEdge (solveEvents v s)
    if v.cap then allocMiss 2 v.iter s else takeSolve v s

def execSolveOutcome (t : Nat) (s : State) : Host.Outcome State Fault Refusal := .next (inTick solveOutcome (start t s))

/-- The main solve reaches 618 µs; the iterations it had made by then, fewer than ITER_MAX, are a free value (R377, R380). -/
def solveDeadline (s : State) : State :=
  if ¬ s.als.solving ∨ s.tks.sinceEdge < 618000 then s
  else
    let d := s.draw
    allocMiss 3 (d.1.toNat % s.alc.iterMax) (solvePosted s.tks.sinceEdge d.2)

def execSolveDeadline (t : Nat) (s : State) : Host.Outcome State Fault Refusal := .next (inTick solveDeadline (start t s))

/-! ## The fallback (R386 to R389) -/

/-- An azimuth moved towards another by at most a step: the shorter way, unless that way crosses a forbidden sector, and never into one (R387). -/
def moveAz (secs : List (Int × Int)) (step from_ target : Int) : Int :=
  let d := wrapAngle (target - from_)
  let blocked := if 0 ≤ d then decide ((arcRight secs from_ : Int) < d) else decide ((arcLeft secs from_ : Int) < -d)
  let right := if blocked then decide (d < 0) else decide (0 ≤ d)
  let way : Int := if right then turn (target - from_) else turn (from_ - target)
  let mv := min step way
  if right then wrapAngle (from_ + min mv (arcRight secs from_)) else wrapAngle (from_ - min mv (arcLeft secs from_))

/-- The fallback allocation for a structure and the demand of the tick (R387). -/
def fallbackAlloc (s : State) : State :=
  let p := s.als.prob
  let k := s.structCfg p.num
  let tau := s.pcl.dem.f
  let slots := List.range 16
  let az := slots.map (fun i =>
    match (s.slot i).kind with
    | .azimuth => if bitAt p.mask i then moveAz (s.slot i).sectors (dPhi (s.slot i)) (nth p.phi0 i 0) (nth k.fbAz i 0) else nth p.phi0 i 0
    | .tunnel => 0x40000000
    | _ => 0)
  let v := slots.map (fun i =>
    if ¬ bitAt p.mask i ∨ (s.slot i).kind = .none then (0 : Int)
    else
      let g := nth k.fbGain i []
      let v := roundAway ((nth g 0 0 * nth tau 0 0 + nth g 1 0 * nth tau 1 0 + nth g 2 0 * nth tau 2 0) * 1000) 65536
      if (s.slot i).kind = .azimuth then q30 (max 0 v) (max 0 (cosI (nth az i 0 - nth k.fbAz i 0))) else v)
  -- q as a ratio: the largest of |v| over its bound
  let q := slots.foldl (fun (b : Nat × Nat) i =>
    let x := nth v i 0
    let m := if x < 0 then nth p.tmaxRev i 0 * 1000 else nth p.tmax i 0 * 1000
    if x = 0 ∨ m = 0 then b else if b.1 * m < x.natAbs * b.2 then (x.natAbs, m) else b) (0, 1)
  let v := if q.2 < q.1 then v.map (fun x => roundAway (x * (q.2 : Int)) q.1) else v
  let t := slots.map (fun i =>
    let t0 : Int := nth p.t0 i 0 * 1000
    let r : Int := (s.slot i).thrRate
    if bitAt p.mask i then roundAway (t0 + clampI (-r) r (nth v i 0 - t0)) 1000 else 0)
  let ach := s.achievedOf t az
  let slack := sub3 tau ach
  let s := updAls (fun a => { a with record := { a.record with
    tickNo := s.tickNo, source := 2, slackBits := s.slackBits slack, struct_ := p.num, ach := ach, slack := slack, thrust := t, az := az, yield := p.yield } }) s
  noteSlack s.als.record.slackBits s

/-- The fallback comes into use: cause 0 misses, 1 service level 2 (R386, R389). -/
def fallbackBegin (cause : Nat) (s : State) : State :=
  record 0x0B02 6 s.als.prob.num cause 0 s.tickNo (updAls (fun a => { a with fallback := true, fbSince := s.tks.tickExt, goodRun := 0, held := none }) s)

/-- The third consecutive miss, or service level 2 in JOYSTICK MANUAL, brings the fallback into use (R338, R386). -/
def fallbackOn (s : State) : State :=
  if s.als.fallback then s
  else if 3 ≤ s.als.missRun then fallbackBegin 0 s
  else if s.sys.level = 2 ∧ s.tks.running then fallbackBegin 1 s
  else s

def execFallbackOn (t : Nat) (s : State) : Host.Outcome State Fault Refusal := .next (inTick fallbackOn (start t s))

/-- FALLBACK_EXIT solves in a row have not missed: the last of them is used in its tick (R388). -/
def fallbackOff (s : State) : State :=
  match s.als.held with
  | some r =>
    if s.als.fallback ∧ s.alc.fallbackExit ≤ s.als.goodRun ∧ 3 ≤ s.sys.level then
      let n := s.tks.tickExt - s.als.fbSince
      record 0x0B03 4 s.als.prob.num n 0 s.tickNo (updAls (fun a => { a with fallback := false, record := r, held := none }) s)
    else s
  | none => s

def execFallbackOff (t : Nat) (s : State) : Host.Outcome State Fault Refusal := .next (inTick fallbackOff (start t s))

/-- P4 opens: the delta list is applied, the structures exchanged, and the main solve begins; the fallback is evaluated when it is in use (R366, R368, R387 to R389). -/
def p4Open (s : State) : State :=
  let s := fallbackOn s
  let s := match s.als.switch_ with | some n => switchStruct n s | none => s
  let s := updAls (fun a => { a with resident := a.next, applied := a.delta, switch_ := none, solving := decide (3 ≤ s.sys.level) && s.works 12, held := none }) s
  if s.als.fallback then fallbackAlloc s else s

/-- P4 abandoned under R42 is no miss. -/
def p4Abandon (s : State) : State := updAls (fun a => { a with solving := false, reckonerHeld := false }) s

/-! ## Consequence analysis (R391 to R401) -/

/-- TKS requests the Reckoner at 418 µs: a case in progress yields (R49). -/
def reckonerRequest (s : State) : State :=
  if s.tks.running ∧ s.works 12 ∧ 418000 ≤ s.tks.sinceEdge ∧ s.tks.sinceEdge < 620000 ∧ ¬ s.als.reckonerHeld then
    { (updAls (fun a => { a with reckonerHeld := true }) s) with tks.reckoner := true }
  else s

def execReckonerRequest (t : Nat) (s : State) : Host.Outcome State Fault Refusal := .next (reckonerRequest (start t s))

/-- A round begins: its number, its first case (R391, R400, R401). -/
def beginRound (s : State) : State :=
  updAls (fun a => { a with caRound := (a.caRound + 1) % 65536, caRun := true, caCase := 0, caForm := true, caOld := false, caAgain := 0, caDue := false }) s

/-- CA_PERIOD in ticks. -/
def State.caTicks (s : State) : Nat := s.alc.caPeriodMs

/-- A round begins at a tick edge of its cadence, or at the edge after a late round's end (R391, R400). -/
def caRoundStart (s : State) : State :=
  let due := s.tks.tickExt % s.caTicks == 0 || s.als.caDue
  if (s.sys.state = .standby ∨ s.sys.state = .active) ∧ s.tks.running ∧ due ∧ ¬ s.als.caRun ∧ s.alc.groups ≠ [] then
    let late := s.als.caDue
    updAls (fun a => { a with caLate := late, caStale := false }) (beginRound s)
  else s

def execCaRoundStart (t : Nat) (s : State) : Host.Outcome State Fault Refusal := .next (caRoundStart (start t s))

/-- The next round is due while one runs (R400). -/
def caRoundLate (s : State) : State :=
  if s.als.caRun ∧ s.tks.tickExt % s.caTicks = 0 ∧ ¬ s.als.caDue then
    record 0x0B0E 4 s.als.caRound s.als.caCase 0 s.tickNo (updAls (fun a => { a with caDue := true, caLate := true }) s)
  else s

def execCaRoundLate (t : Nat) (s : State) : Host.Outcome State Fault Refusal := .next (caRoundLate (start t s))

/-- ALS_CA_CMD.START: the case in progress finishes and a new round follows (R401). -/
def caCommand (s : State) : State :=
  if s.als.caRun then updAls (fun a => { a with caAgain := max a.caAgain 2 }) s
  else if (s.sys.state = .standby ∨ s.sys.state = .active) ∧ s.alc.groups ≠ [] then caForm (beginRound s) else s

/-- Cube root of a ratio squared, Q30: min(1, n / d)^(2/3) (R394). -/
def derate (n d : Nat) : Nat :=
  if d ≤ n ∨ d = 0 then 2 ^ 30
  else
    -- the largest r with r³ d² ≤ n² 2^90
    (List.range 31).foldl (fun r i => let q := r + 2 ^ (30 - i); if q * q * q * (d * d) ≤ n * n * 2 ^ 90 then q else r) 0

/-- The bounds of a surviving slot in a case, N with the derating (R394). -/
def State.caBound (s : State) (c : CaSnap) (live : List Nat) (boards : BitVec 8) (i : Nat) : Nat × Nat :=
  let f := match (s.slot i).board with
    | some b => derate (if bitAt boards b then 0 else nth c.pwr b 0) ((live.filter (fun j => (s.slot j).board == some b)).foldl (fun a j => a + (s.slot j).pwrRated) 0)
    | none => 2 ^ 30
  (nth c.tmax i 0 * f / 2 ^ 30, nth c.tmaxRev i 0 * f / 2 ^ 30)

/-- The rows of the capability form of a slot (R393). -/
def State.caRows (s : State) (c : CaSnap) (i : Nat) (b : Nat × Nat) : List AlsRow :=
  let e := s.alc.expForce
  let row := fun (kind idx : Nat) (n : List (Nat × Int)) (r : Int) => ({ tag := thrTag i kind idx, normal := n, rhs := r, scale := s.rowScale (thrTag i kind idx) } : AlsRow)
  let top := toClass e b.1 1
  match (s.slot i).kind with
  | .azimuth =>
    let phi := nth c.az i 0
    let span := milliToBin s.alc.caAzSpan
    let l : Int := min span (arcLeft (s.slot i).sectors phi)
    let r : Int := min span (arcRight (s.slot i).sectors phi)
    let meets := fun (n : Nat) =>
      let from_ := wrapAngle ((n : Int) * 268435456 - phi)
      decide (-l ≤ from_ + 268435456 ∧ from_ ≤ r)
    ((List.range 16).filter meets).map (fun (n : Nat) =>
      let m : Int := (n : Int) * 268435456 + 134217728
      row 4 n [(2 * i, cosI m), (2 * i + 1, sinI m)] (q30 top (cosI 134217728))) ++
    [row 5 0 [(2 * i, sinI (phi - l)), (2 * i + 1, -cosI (phi - l))] 0, row 6 0 [(2 * i, -sinI (phi + r)), (2 * i + 1, cosI (phi + r))] 0]
  | .tunnel => [row 0 0 [(2 * i + 1, dirOne)] top, row 1 0 [(2 * i + 1, -dirOne)] (toClass e b.2 1)]
  | .fixed => [row 0 0 [(2 * i, dirOne)] top, row 1 0 [(2 * i, -dirOne)] (toClass e b.2 1)]
  | .none => []

/-- The result of the case of a group (R393 to R397). -/
def State.caseResult (s : State) (c : CaSnap) (g : Nat) (stale : Bool) : CaResult :=
  let grp := nth s.alc.groups g (0, 0)
  let mask := (s.structCfg c.num).avail &&& c.mask &&& ~~~grp.1
  let live := bitsOf mask
  let bound := s.caBound c live grp.2
  let rows := live.flatMap (fun i => s.caRows c i (bound i)) ++ s.userRows (s.structCfg c.num)
  let tau := [toClass s.alc.expForce (nth c.tau 0 0) 1, toClass s.alc.expForce (nth c.tau 1 0) 1, toClass s.alc.expMoment (nth c.tau 2 0) 1]
  let v := caseSolve { k := s.alc, xs := s.slotXs, mask := mask, rows := rows, tau := tau }
  let sl := [fromClass s.alc.expForce (nth v.x 32 0), fromClass s.alc.expForce (nth v.x 33 0), fromClass s.alc.expMoment (nth v.x 34 0)]
  let m := fun (a : Nat) =>
    let x := (nth sl a 0).natAbs
    let t := (nth c.tau a 0).natAbs
    if v.cap then 0
    else if t ≤ nth s.alc.slackTol a 0 then (if x ≤ nth s.alc.slackTol a 0 then 1000 else 0)
    else (clampI 0 1000 (roundAway (1000 * ((t : Int) - x)) t)).toNat
  let thr := fun (i : Nat) =>
    let fx := fromClass s.alc.expForce (nth v.x (2 * i) 0)
    let fy := fromClass s.alc.expForce (nth v.x (2 * i + 1) 0)
    let t := isqrt ((fx * fx + fy * fy).toNat)
    let rev := (match (s.slot i).kind with | .tunnel => decide (fy < 0) | .fixed => decide (fx < 0) | _ => false)
    let b := if rev then (bound i).2 else (bound i).1
    if b = 0 then 0 else min 1000 (t * 1000 / b)
  let bits := s.slackBits sl
  let util := live.foldl (fun u i => max u (thr i)) 0
  { m := [m 0, m 1, m 2], util := util, slack := bits, state := if v.cap then 1 else if stale then 2 else 0
    alarm := v.cap || bits != 0, warn := decide (s.alc.caUtilWarn < util), round := s.als.caRound % 32768 }

/-- ALS_CA_FLAGS_g (R406). -/
def CaResult.flags (r : CaResult) : Word :=
  packWord [(22, 10, r.util), (19, 3, r.slack.toNat), (17, 2, r.state), (16, 1, b2n r.alarm), (15, 1, b2n r.warn), (0, 15, r.round)]

/-- The alarm and warning masks (R398). -/
def Als.alarmMask (a : Als) : BitVec 32 := maskOf 32 (fun g => (nth a.caRes g {}).alarm)
def Als.warnMask (a : Als) : BitVec 32 := maskOf 32 (fun g => (nth a.caRes g {}).warn)

/-- A point of the capability block (R398). -/
def State.caPoint (s : State) (i : Nat) : Option Nat := s.alc.caPointBase.map (fun b => b + i)

/-- The points of a group at the end of its case (R398). -/
def writeGroup (g : Nat) (r : CaResult) (s : State) : State :=
  let q := if r.state = 1 ∨ r.state = 2 then 1 else 0
  let ns := s.als.caSnap.edgeNs
  let s := (List.range 3).foldl (fun s a => blockPoint 0x0B (s.caPoint (4 * g + a)) (wordN (nth r.m a 0)) 0 q false ns s) s
  blockPoint 0x0B (s.caPoint (4 * g + 3)) r.flags 1 q false ns s

/-- The summary points at the end of a round (R398). -/
def writeRound (s : State) : State :=
  let ns := s.als.caSnap.edgeNs
  let s := blockPoint 0x0B (s.caPoint 128) s.als.alarmMask 1 0 false ns s
  let s := blockPoint 0x0B (s.caPoint 129) s.als.warnMask 1 0 false ns s
  blockPoint 0x0B (s.caPoint 130) (wordN s.als.caRound) 1 0 false ns s

/-- Note the result of a case, with its events and points (R397, R398). -/
def caNote (g : Nat) (r : CaResult) (s : State) : State :=
  let old := nth s.als.caRes g {}
  let s := updAls (fun a => { a with caRes := put a.caRes g r, caStale := a.caStale || a.caOld }) s
  let s := recordIf (r.alarm && !old.alarm) 0x0B0C 6 g (nth r.m 0 0 * 2 ^ 20 + nth r.m 1 0 * 2 ^ 10 + nth r.m 2 0 : Nat) r.util s.als.caRound s
  let s := recordIf (old.alarm && !r.alarm) 0x0B0D 4 g 0 r.util s.als.caRound s
  writeGroup g r s

/-- What follows the case of a group: a new round at once, the next group, or the end of the round (R399 to R401). -/
def caNext (g : Nat) (s : State) : State :=
  if s.als.caOld ∨ s.als.caAgain ≠ 0 then caForm (beginRound (writeRound s))
  else if g + 1 < s.alc.groups.length then updAls (fun a => { a with caCase := g + 1 }) s
  else writeRound (updAls (fun a => { a with caRun := false, caCase := 0 }) s)

/-- A case ends on the Reckoner, while the main solve does not hold it (R396 to R401). -/
def caCaseDone (s : State) : State :=
  if ¬ s.als.caRun ∨ s.als.caForm ∨ s.als.solving ∨ s.als.reckonerHeld ∨ ¬ s.works 12 then s
  else caNext s.als.caCase (caNote s.als.caCase (s.caseResult s.als.caSnap s.als.caCase s.als.caOld) s)

def execCaCaseDone (t : Nat) (s : State) : Host.Outcome State Fault Refusal := .next (caCaseDone (start t s))

/-- A SLOT command: 0 enables, 1 disables (R360, R527). -/
def slotCommand (i act : Nat) (s : State) : (Nat × Nat) × State :=
  if 16 ≤ i ∨ 2 ≤ act ∨ (s.slot i).kind = .none then ((4, 0), s)
  else ((0, 0), updAls (fun a => { a with disabled := setBit a.disabled i (act == 1) }) s)

/-- ALS_STATUS (R406). -/
def State.alsStatus (s : State) : Word :=
  let r := s.als.record
  packWord [(30, 2, r.source), (27, 3, r.outcome), (26, 1, b2n r.cold), (25, 1, b2n r.ovf), (24, 1, b2n r.clamped), (21, 3, r.slackBits.toNat),
    (18, 3, min 7 s.als.missRun), (17, 1, b2n s.als.fallback), (16, 1, b2n r.yield), (10, 6, (s.activeStruct.getD r.struct_)), (0, 8, r.iter)]

end Sys2Proof.Machine
end

