-- ==== Sys2Proof/Machine/Tally.lean ====
section
/-! DEFINITION. The Tally: flush of pending records, commit of a page and the placing rule, the books, the opening and repair of the store, and read-out (R643 to R661). -/

namespace Sys2Proof.Machine

open Sys2Proof

def updEvr (f : Evr → Evr) (s : State) : State := { s with evr := f s.evr }

/-- Slots of a store of some bytes: the largest multiple of 128 whose record area ends within it (R647). -/
def slotsFit (bytes n : Nat) : Bool := decide ((0x2000 + 4 * n + 4095) / 4096 * 4096 + 32 * n ≤ bytes)
def slotsOf (mib : Nat) : Nat :=
  let bytes := mib * 1048576
  let top := bytes / 36 / 128
  if mib = 0 then 0 else ((List.range 64).map (fun i => (top - i) * 128)).find? (slotsFit bytes) |>.getD 0

/-- Records of a severity. -/
def sevCounts (l : List Nat) : List Nat := (List.range 8).map (fun v => (l.filter (fun x => x == v)).length)

/-! ## Placing and committing (R648, R649, R654) -/

/-- Place a record, or a void one, in the store; none where it is lost (R649, R651). The entries stand in age order. -/
def placeStore (r : Rec) (void : Bool) (e : Evr) : Option Evr :=
  let st := e.store
  let mk := fun (slot : Nat) => ({ slot := slot, severity := r.severity, seq := r.seq.getD 0, record := if void then none else some r } : StoreEntry)
  let stored := if void then e.stored else inc32 e.stored
  if st.freeNext < st.slots then
    some { e with stored := stored, store := { st with freeNext := st.freeNext + 1, entries := st.entries ++ [mk st.freeNext] } }
  else
    match lowestSev (st.entries.map (fun x => x.severity)) r.severity with
    | none => none
    | some v =>
      match st.entries.find? (fun x => x.severity == v) with
      | none => none
      | some old =>
        let rest := dropFirst (fun x => x.severity == v) st.entries
        some { e with
          stored := if old.record.isSome then (stored + 2 ^ 32 - 1) % 2 ^ 32 else stored
          overwritten := if old.record.isSome then inc32 e.overwritten else e.overwritten
          store := { st with entries := rest ++ [mk old.slot] } }

/-- The header after a page: GEN two above, the counts and the pending records (R647, R648). -/
def writeHeader (e : Evr) : Evr :=
  { e with store := { e.store with valid := true, gen := (e.store.gen + 2) % 2 ^ 32, nextSeq := e.nextSeq, written := e.written, stored := e.stored,
                                   overwritten := e.overwritten, dropped := e.dropped, drop := e.drop, pendingSev := sevCounts (e.pend.map (fun p => p.record.severity)) } }

/-- Place one record of a page; a record lost is counted and noted (R649, R660). -/
def placeOne (s : State) (r : Rec) : State :=
  match placeStore r false s.evr with
  | some e => { s with evr := e }
  | none => noteDrop r.severity 1 { s with evr := s.evr.countDrop r.severity s.up }

/-- A page is committed (R648, R654). -/
def commitPage (s : State) : State :=
  let n := s.evr.inFlight.length
  let s := s.evr.inFlight.foldl placeOne (updEvr (fun e => { e with inFlight := [] }) s)
  updEvr (fun e => writeHeader { e with urgent := e.urgent.map (fun u => { u with count := u.count + n }) }) s

/-- The store fails: ring-only working until the next start; what was pending stays in the ring as stored (R653). -/
def storeFails (s : State) : State :=
  let e := s.evr
  let s := updEvr (fun e => { e with storeState := 3, stored := (e.stored + e.pend.length + e.inFlight.length) % 2 ^ 32, pend := [], inFlight := [], urgent := none }) s
  record 0x1101 5 e.storeState 3 s.image.events.storeMiB s.tickNo s

/-- A page is due: 16 pending, the oldest at FLUSH_AGE, an urgent flush, or PFAIL_N low (R644, R645). -/
def State.pageDue (s : State) : Bool :=
  match s.evr.pend with
  | [] => false
  | p :: _ => decide (16 ≤ s.evr.pend.length) || decide (p.up + s.image.events.flushAgeMs * nsPerMs ≤ s.up) || s.evr.urgent.isSome || s.saf.pfailLow

/-- The flush engine takes up to 16 records, oldest first (R644, R654). -/
def flushPageStart (s : State) : State :=
  if s.evr.storeState = 2 ∧ s.evr.inFlight = [] ∧ s.domOk 0 = true ∧ s.pageDue = true then
    updEvr (fun e => { e with inFlight := (e.pend.take 16).map (·.record), pend := e.pend.drop 16 }) s
  else s

def execFlushPageStart (t : Nat) (s : State) : Host.Outcome State Fault Refusal := .next (flushPageStart (start t s))

/-- The last write of a page completes, or the store does not complete a write (R648, R653). -/
def pageCommit (ok : Bool) (s : State) : State :=
  if s.evr.inFlight = [] then s else if ok then commitPage s else storeFails s

def execPageCommit (t : Nat) (ok : Bool) (s : State) : Host.Outcome State Fault Refusal := .next (pageCommit ok (start t s))

/-- No record remains pending: the urgent flush ends (R645, R660). -/
def urgentFlushDone (s : State) : State :=
  match s.evr.urgent with
  | none => s
  | some u =>
    if s.evr.pend = [] ∧ s.evr.inFlight = [] then
      let us := (s.up - u.since) / 1000
      record 0x1106 2 u.trigger u.count us s.tickNo (updEvr (fun e => { e with urgent := none, flushMax := max e.flushMax (min us 65535) }) s)
    else s

def execUrgentFlushDone (t : Nat) (s : State) : Host.Outcome State Fault Refusal := .next (urgentFlushDone (start t s))

/-! ## Opening and repair (R651) -/

/-- The store as formatted (R651). -/
def formatStore (cause slots : Nat) (s : State) : State :=
  let s := updEvr (fun e => { e with
    nextSeq := 0, written := 0, stored := 0, overwritten := 0, dropped := 0, drop := List.replicate 8 0
    store := { attached := e.store.attached, valid := true, gen := 1, slots := slots, imageId := s.image.id } }) s
  record 0x1102 4 slots cause 0 0 s

/-- Repair the page an intent block names: its records are placed again, those that did not reach their slots as void (R651). -/
def repairPage (s : State) : State :=
  match s.evr.store.torn with
  | none => s
  | some p =>
    if p.gen ≠ (s.evr.store.gen + 1) % 2 ^ 32 then updEvr (fun e => { e with store := { e.store with torn := none } }) s
    else
      let e := p.items.foldl (fun (e : Evr) it =>
        match placeStore it.1 (!it.2) e with
        | some e' => if it.2 then e' else { e' with dropped := inc32 e'.dropped, drop := upd e'.drop it.1.severity inc32 }
        | none => { e with dropped := inc32 e.dropped, drop := upd e.drop it.1.severity inc32 }) s.evr
      let sevs := p.items.map (fun it => it.1.severity)
      let left := (List.range 8).map (fun v => nth e.store.pendingSev v 0 - (sevs.filter (fun x => x == v)).length)
      let e := writeHeader { e with nextSeq := e.store.nextSeq }
      record 0x1104 4 (p.items.filter (fun it => !it.2)).length p.gen 0 0 { s with evr := { e with store := { e.store with torn := none, pendingSev := left } } }

/-- The counts of the header taken become the Tally's, and the records lost at power loss are added (R651). -/
def takeHeader (s : State) : State :=
  let st := s.evr.store
  let lost := st.pendingSev.foldl (· + ·) 0
  let first := (st.nextSeq + 2048) % 2 ^ 32
  let s := updEvr (fun e => { e with
    dropped := (e.dropped + lost) % 2 ^ 32, drop := (List.range 8).map (fun v => (nth e.drop v 0 + nth st.pendingSev v 0) % 2 ^ 32), nextSeq := first
    store := { e.store with pendingSev := List.replicate 8 0 } }) s
  recordIf (decide (0 < lost)) 0x1103 5 lost st.nextSeq first 0 s

/-- The numbers of the records held in the ring, at the end of S6 (R641). -/
def giveNumbers (s : State) : State :=
  let held := s.evr.ring
  let e := { s.evr with ring := [], numbered := true }
  { s with evr := held.foldl (fun e r => e.admitNumbered r s.up) e }

/-- Start step S6: the store is opened, formatted or repaired, or the Tally works ring-only (R650, R651, R653, R660). `ok` tells that the read-back succeeded. -/
def openStore (ok : Bool) (s : State) : State :=
  let size := s.image.events.storeMiB
  let want := slotsOf size
  if size = 0 ∨ ¬ s.evr.store.attached then
    let s := if size = 0 then s else record 0x1101 5 1 3 size s.tickNo (record 0x1101 5 0 1 size s.tickNo { s with evr := { s.evr with storeState := 3 } })
    giveNumbers s
  else
    let s := record 0x1101 5 0 1 size s.tickNo { s with evr := { s.evr with storeState := 1 } }
    if ¬ ok then giveNumbers (record 0x1101 5 1 3 size s.tickNo { s with evr := { s.evr with storeState := 3 } })
    else
      let st := s.evr.store
      let s :=
        if ¬ st.valid then formatStore 0 want s
        else if st.slots ≠ want then formatStore 1 want s
        else
          let s := updEvr (fun e => { e with written := st.written, stored := st.stored, overwritten := st.overwritten, dropped := st.dropped, drop := st.drop }) s
          let s := takeHeader (repairPage s)
          -- with nothing pending the books balance (R654): records of a repaired page that the header had not counted are in WRITTEN
          updEvr (fun e => { e with written := (e.stored + e.overwritten + e.dropped) % 2 ^ 32 }) s
      giveNumbers (record 0x1101 5 1 2 size s.tickNo { s with evr := { s.evr with storeState := 2 } })

/-! ## Read-out (R529, R655 to R657) -/

/-- Distance of a sequence number after another, in sequence order. -/
def seqAfter (x from_ : Nat) : Nat := (x + 2 ^ 32 - from_) % 2 ^ 32

/-- A sequence number is at or after another, by signed difference (R641). -/
def atOrAfter (x from_ : Nat) : Bool := decide (seqAfter x from_ < 2 ^ 31)

/-- The numbered records of the ring, and those of the store (void slots skipped), each once (R652, R656). -/
def Evr.held (e : Evr) : List Rec :=
  let ring := e.ring.filter (fun r => r.seq.isSome)
  let old := if e.storeState = 2 then e.store.entries.filterMap (fun x => x.record) else []
  old.filter (fun r => !ring.any (fun q => q.seq == r.seq)) ++ ring

/-- The records held at or after a sequence number, in sequence order. -/
def Evr.heldFrom (e : Evr) (from_ : Nat) : List Rec :=
  sortBy (fun r => (seqAfter (r.seq.getD 0) from_ : Nat)) (e.held.filter (fun r => atOrAfter (r.seq.getD 0) from_))

/-- A sequence number lies in the ring (R656). -/
def Evr.inRing (e : Evr) (from_ : Nat) : Bool :=
  match e.ring.find? (fun r => r.seq.isSome) with
  | some r => atOrAfter from_ (r.seq.getD 0)
  | none => false

/-- EVENT FETCH: first sequence, whether more follow, and the records (R529, R656). -/
def State.fetch (s : State) (from_ count : Nat) : Nat × Bool × List Rec :=
  let e := s.evr
  if e.urgent.isSome ∧ e.storeState = 2 ∧ ¬ e.inRing from_ then (from_, true, [])
  else
    let l := e.heldFrom from_
    match l with
    | [] => (e.nextSeq, false, [])
    | r :: _ => (r.seq.getD 0, decide (min count 40 < l.length), l.take (min count 40))

/-- A write of EVR_READ_SEQ (R657). -/
def readSeqWrite (p : Path) (v : Word) (s : State) : State := updEvr (fun e => { e with readSeq := assocSet e.readSeq p v }) s

def execEvrReadSeqWrite (t : Nat) (p : Path) (v : Word) (s : State) : Host.Outcome State Fault Refusal := .next (readSeqWrite p v (start t s))

/-- The words of a record (R639). -/
def recWord (r : Rec) (w : Nat) : Word :=
  match w with
  | 0 => packWord [(16, 16, r.code), (12, 4, r.severity), (6, 6, r.source), (5, 1, b2n r.start), (4, 1, b2n r.active), (2, 2, r.role), (1, 1, b2n r.timeFree), (0, 1, b2n r.stepped)]
  | 1 => wordN (r.seq.getD 0)
  | 2 => wordN r.seconds
  | 3 => wordN r.ns
  | 4 => r.p0
  | 5 => r.p1
  | 6 => r.p2
  | _ => r.p3

/-- The window of a path: word w of record k from its selected sequence (R657). -/
def State.evrWindow (s : State) (p : Path) (k w : Nat) : Word :=
  let sel := (assoc s.evr.readSeq p).getD 0
  match (s.evr.heldFrom sel.toNat)[k]? with
  | some r => recWord r w
  | none => 0

/-- The set frozen by a read of EVR_WRITTEN: the records of a page in flight count as pending, so it balances (R655). -/
def Evr.bookSet (e : Evr) : EvrBooks := { stored := e.stored, overwritten := e.overwritten, dropped := e.dropped, pending := e.pend.length + e.inFlight.length }

/-- EVR_STATUS (R661). -/
def Evr.status (e : Evr) : Word :=
  packWord [(30, 2, e.storeState), (29, 1, b2n (!e.inFlight.isEmpty)), (28, 1, b2n e.urgent.isSome), (23, 5, e.inFlight.length)]

end Sys2Proof.Machine
end

