-- ==== Sys2Proof/Machine/Rtc.lean ====
section
/-! DEFINITION. The backup domain: the calendar and its seconds, trim, synchronisation, leap seconds, commits, shadows, the supply switch and the backup reset, the wake timer, and the rounds of harbour watch (R662 to R697). -/

namespace Sys2Proof.Machine

open Sys2Proof

def updRtc (f : Rtc → Rtc) (s : State) : State := { s with rtc := f s.rtc }

/-! ## Dates (R664, R665) -/

/-- The weekday of a day counted from 2000-01-01: 1 Monday to 7 Sunday. -/
def weekdayOf (day : Nat) : Nat := (day + 5) % 7 + 1

/-- Month and day from a day of the year, 0 for 1 January. -/
def monthDay : Nat → Nat → Nat → Nat → Nat × Nat
  | 0, _, m, d => (m, d + 1)
  | f + 1, y, m, d => if d < daysInMonth y m then (m, d + 1) else monthDay f y (m + 1) (d - daysInMonth y m)

/-- The date of a day counted from 2000-01-01, as a calendar at midnight. -/
def dateOf (day : Nat) : Calendar :=
  let y0 := 2000 + day * 400 / 146097
  let y := if dayNumber (y0 + 1) 1 1 ≤ day then y0 + 1 else if day < dayNumber y0 1 1 then y0 - 1 else y0
  let md := monthDay 11 y 1 (day - dayNumber y 1 1)
  { year := y, month := md.1, day := md.2, weekday := weekdayOf day }

/-- The day of a calendar reading counted from 2000-01-01. -/
def dayOf (c : Calendar) : Nat := dayNumber c.year c.month c.day

/-- Midnight of the next day; after 2399-12-31 the calendar wraps. -/
def nextDay (c : Calendar) : Calendar := if c.year = 2399 ∧ c.month = 12 ∧ c.day = 31 then {} else dateOf (dayOf c + 1)

/-- A calendar from seconds since 1970-01-01, every day counted as 86,400 s. -/
def ofSeconds (n : Nat) : Calendar :=
  let d := n / 86400 - 10957
  let t := n % 86400
  { dateOf d with hour := t / 3600, min := t / 60 % 60, sec := t % 60 }

/-- Two decimal digits in BCD, and four. -/
def bcd2 (n : Nat) : Nat := n / 10 % 10 * 16 + n % 10
def bcd4 (n : Nat) : Nat := bcd2 (n / 100) * 256 + bcd2 (n % 100)

/-- The value of BCD digits, none where a digit is above 9. -/
def unbcd : Nat → Nat → Option Nat
  | 0, _ => some 0
  | k + 1, n => match unbcd k (n / 16) with | some v => if n % 16 ≤ 9 then some (10 * v + n % 16) else none | none => none

/-- RTC_TIME and RTC_DATE of a calendar (R697). -/
def calTime (c : Calendar) : Word := packWord [(16, 6, bcd2 c.hour), (8, 7, bcd2 c.min), (0, 7, bcd2 c.sec)]
def calDate (c : Calendar) : Word := packWord [(16, 16, bcd4 c.year), (13, 3, c.weekday), (8, 5, bcd2 c.month), (0, 6, bcd2 c.day)]

/-- The staged date and time, none where a field is not valid (R664, R665, R674). -/
def stagedDate (time date : Word) : Option Calendar :=
  match unbcd 2 (fieldOf time 16 6), unbcd 2 (fieldOf time 8 7), unbcd 2 (fieldOf time 0 7),
        unbcd 4 (fieldOf date 16 16), unbcd 2 (fieldOf date 8 5), unbcd 2 (fieldOf date 0 6) with
  | some h, some mi, some sc, some y, some mo, some d =>
    if h ≤ 23 ∧ mi ≤ 59 ∧ sc ≤ 59 ∧ 2000 ≤ y ∧ y ≤ 2399 ∧ 1 ≤ mo ∧ mo ≤ 12 ∧ 1 ≤ d ∧ d ≤ daysInMonth y mo then
      some { dateOf (dayNumber y mo d) with hour := h, min := mi, sec := sc }
    else none
  | _, _, _, _, _, _ => none

/-! ## The second (R666, R670 to R672) -/

/-- The unit is powered and records events. -/
def State.powered (s : State) : Bool := s.sys.state != .off

/-- Set the calendar at an edge of its second. -/
def setCal (c : Calendar) (s : State) : State := updRtc (fun r => { r with cal := { c with subsec := 0 }, secUp := s.up }) s

/-- A leap has been applied (R671, R672). -/
def leapDone (positive : Bool) (c : Calendar) (s : State) : State :=
  updRtc (fun r => { r with leapArmed := .none, leapFlag := false, leapToReport := some { positive := positive, date := calDate c } }) s

/-- The calendar advances one second, with an armed leap and the wrap (R666, R670 to R672). -/
def calendarSecond (s : State) : State :=
  if s.clkLost 11 then s
  else
    let c := s.rtc.cal
    let s := updRtc (fun r => { r with vbuSeconds := if r.onCell then inc32 r.vbuSeconds else r.vbuSeconds }) s
    let last := c.hour = 23 ∧ c.min = 59
    if last ∧ c.sec = 59 ∧ s.rtc.leapArmed = .positive ∧ ¬ s.rtc.leapFlag then updRtc (fun r => { r with leapFlag := true }) (setCal c s)
    else if last ∧ c.sec = 58 ∧ s.rtc.leapArmed = .negative then setCal (nextDay c) (leapDone false c s)
    else if last ∧ c.sec = 59 then
      let wraps := c.year = 2399 ∧ c.month = 12 ∧ c.day = 31
      let s := if s.rtc.leapFlag then leapDone true c s else s
      let s := setCal (nextDay c) s
      if wraps then recordIf s.powered 0x1207 5 0 0 0 s.tickNo (updRtc (fun r => { r with valid := false }) s) else s
    else setCal (ofSeconds (calSeconds c + 1)) s

def execCalendarSecond (t : Nat) (s : State) : Host.Outcome State Fault Refusal := .next (calendarSecond (start t s))

/-! ## Keeping the calendar set (R667, R669) -/

/-- UTC of system time now, ns since 1970-01-01. -/
def State.utcNs (s : State) : Int := (s.sysNow : Int) - s.tim.utc.taiUtc * 1000000000

/-- Milliseconds, signed, saturated to 32 bits. -/
def satMs (ns : Int) : Int := sat31 (roundAway ns 1000000)

/-- The comparison with the UTC of system time at a whole second (R669, R670). The held 23:59:59 of a leap equals the leap second. -/
def calendarSync (s : State) : State :=
  let utc := s.utcNs
  if ¬ domLocked s.tim.selState ∨ ¬ s.tim.utc.valid ∨ s.clkLost 11 ∨ utc < 946684800000000000 ∨ 1000000 ≤ utc % 1000000000 then s
  else
    let diff : Int := (calNs s.calNow : Int) - utc + (if s.rtc.leapFlag then 1000000000 else 0)
    if (s.image.rtc.syncTolMs : Int) * 1000000 < diff.natAbs then
      let s := setCal (ofSeconds (utc / 1000000000).toNat) s
      record 0x1205 4 0 (satMs diff) s.rtc.trim s.tickNo (updRtc (fun r => { r with valid := true, leapFlag := false, trimRun := none }) s)
    else updRtc (fun r => { r with valid := true }) s

def execCalendarSync (t : Nat) (s : State) : Host.Outcome State Fault Refusal := .next (calendarSync (start t s))

/-- After 3,600 s of lock the rate of the calendar against system time moves RTC_TRIM to the step that cancels it (R667). -/
def trimAdjust (s : State) : State :=
  match s.rtc.trimRun with
  | none => s
  | some r =>
    let dSys := s.sysNow - r.sys0
    if ¬ s.image.rtc.trimAuto ∨ ¬ domLocked s.tim.selState ∨ dSys < 3600 * nsPerS ∨ s.clkLost 11 then s
    else
      let dCal : Int := (calNs s.calNow : Int) - r.cal0
      let step := roundAway (((dSys : Int) - dCal) * 1048576) dSys
      updRtc (fun v => { v with trim := clampI (-127) 127 (v.trim + step), trimRun := some { sys0 := s.sysNow, cal0 := calNs s.calNow } }) s

def execTrimAdjust (t : Nat) (s : State) : Host.Outcome State Fault Refusal := .next (trimAdjust (start t s))

/-- The leap TIM shows is armed in the backup domain while the calendar is in the day it ends (R671). -/
def armCalendarLeap (s : State) : State :=
  match s.tim.utc.leap with
  | some p =>
    let day : Int := ((p.at_ : Int) - s.tim.utc.taiUtc - 2) / 86400
    if s.leapNow p.positive ∧ ((calSeconds s.rtc.cal / 86400 : Nat) : Int) = day then
      updRtc (fun r => { r with leapArmed := if p.positive then .positive else .negative }) s
    else s
  | none => s

/-- What the backup domain does at a tick edge: a leap taken is recorded, a leap shown is armed, and the rate measurement begins or is dropped (R667, R671, R672). -/
def rtcTick (s : State) : State :=
  let s := match s.rtc.leapToReport with
    | some l => record 0x1206 3 (if l.positive then 1 else -1) l.date.toNat 0 s.tickNo (updRtc (fun r => { r with leapToReport := none }) s)
    | none => s
  let s := armCalendarLeap s
  let runs := domLocked s.tim.selState && s.image.rtc.trimAuto && !s.clkLost 11 && !s.stepped
  updRtc (fun r => { r with trimRun := if runs then some (r.trimRun.getD { sys0 := s.sysNow, cal0 := calNs s.calNow }) else none }) s

/-! ## Writing a date (R673 to R675, R694) -/

/-- A commit is rejected as a whole; source 0 is the maintenance port, 1 a REG WRITE (R674, R696). -/
def rejectCommit (source : Nat) (s : State) : State :=
  record 0x1204 3 s.rtc.stageDate.toInt s.rtc.stageTime.toInt source s.tickNo (updRtc (fun r => { r with dateErr := true, commit := none }) s)

/-- A write of RTC_COMMIT (R673, R674). -/
def commitWrite (source : Nat) (v : Word) (s : State) : State :=
  if ¬ bitAt v 0 then s
  else if s.clkLost 11 then rejectCommit source s
  else updRtc (fun r => { r with commit := some source }) s

def execRtcCommit (t source : Nat) (v : Word) (s : State) : Host.Outcome State Fault Refusal := .next (commitWrite source v (start t s))

/-- The next XTAL32 cycle checks the staged fields as one (R673, R674, R694). -/
def commitCheck (s : State) : State :=
  match s.rtc.commit with
  | none => s
  | some source =>
    if s.clkLost 11 then rejectCommit source s
    else
      match stagedDate s.rtc.stageTime s.rtc.stageDate with
      | none => rejectCommit source s
      | some c =>
        let diff : Int := (calNs s.calNow : Int) - calNs c
        let s := setCal c s
        record 0x1205 4 1 (satMs diff) s.rtc.trim s.tickNo
          (updRtc (fun r => { r with commit := none, leapArmed := .none, leapFlag := false, valid := true, trimRun := none }) s)

def execRtcCommitCheck (t : Nat) (s : State) : Host.Outcome State Fault Refusal := .next (commitCheck (start t s))

/-- A write of RTC_LOCAL_OFS; one that breaks R668 is ignored. -/
def localOfsWrite (v : Word) (s : State) : State :=
  let m := (v.setWidth 16 : BitVec 16).toInt
  if m % 15 = 0 ∧ -720 ≤ m ∧ m ≤ 840 then updRtc (fun r => { r with localOfs := m }) s else s

def execRtcLocalOfsWrite (t : Nat) (v : Word) (s : State) : Host.Outcome State Fault Refusal := .next (localOfsWrite v (start t s))

/-- A write of RTC_STATUS: DATE_ERR is the one field of class W1C (R697). -/
def statusWrite (v : Word) (s : State) : State := if bitAt v 1 then updRtc (fun r => { r with dateErr := false }) s else s

def execDateErrClear (t : Nat) (v : Word) (s : State) : Host.Outcome State Fault Refusal := .next (statusWrite v (start t s))

/-- 1 s after its freeze a path's shadow is released (R676). -/
def shadowTimeout (p : Path) (s : State) : State :=
  match assoc s.rtc.shadow p with
  | some (_, u) => if u + nsPerS ≤ s.up then updRtc (fun r => { r with shadow := assocDel r.shadow p }) s else s
  | none => s

def execCalendarShadowTimeout (t : Nat) (p : Path) (s : State) : Host.Outcome State Fault Refusal := .next (shadowTimeout p (start t s))

/-! ## Supply (R677, R680) -/

/-- VDD_IO33 and VBU in mV: the domain moves to VBU (R677, R679). -/
def toVbu (io vbu : Nat) (s : State) : State :=
  if ¬ s.rtc.onCell ∧ (io + 50 < vbu ∨ io < 2600) then updRtc (fun r => { r with onCell := true, switchCnt := inc32 r.switchCnt }) s else s

def execSupplySwitchToVbu (t io vbu : Nat) (s : State) : Host.Outcome State Fault Refusal := .next (toVbu io vbu (start t s))

/-- The domain returns to VDD_IO33 (R677). -/
def toMain (io vbu : Nat) (s : State) : State :=
  if s.rtc.onCell ∧ vbu + 50 ≤ io ∧ 2700 ≤ io then updRtc (fun r => { r with onCell := false }) s else s

def execSupplySwitchToMain (t io vbu : Nat) (s : State) : Host.Outcome State Fault Refusal := .next (toMain io vbu (start t s))

/-- VBU_CAP stays below 1.6 V for a time, ns: above 20 µs the backup domain resets (R680, R694). A round in progress goes on. -/
def backupReset (lowNs : Nat) (s : State) : State :=
  if lowNs ≤ 20000 then s
  else
    updRtc (fun r =>
      { bkupRst := true, bkupSince := true, startCause := .backupReset, pwrOn := true, onCell := r.onCell
        stageTime := r.stageTime, stageDate := r.stageDate, commit := r.commit, dateErr := r.dateErr, secUp := s.up
        hwRunning := r.hwRunning, hwRound := r.hwRound, hwHeld := r.hwHeld, hwHeldRec := r.hwHeldRec, hwT0 := r.hwT0, hwT0Up := r.hwT0Up, hwUnacked := r.hwUnacked }) s

def execBackupReset (t lowNs : Nat) (s : State) : Host.Outcome State Fault Refusal := .next (backupReset lowNs (start t s))

/-! ## Wakes and rounds (R685 to R691) -/

/-- A round begins (R689). -/
def beginWatchRound (s : State) : State :=
  updRtc (fun r => { r with hwRunning := true, hwRound := (r.hwRound + 1) % 65536, hwT0 := s.sysNow, hwT0Up := s.up, hwReleasedUp := none }) s

/-- A wake as the unit sees it: cause 0 timer, 1 bus (R686, R688). -/
def hwWake (cause : Nat) (s : State) : State :=
  if ¬ s.powered then s
  else
    let begins := s.sys.state == .harbourWatch && !s.rtc.hwRunning
    let s := if begins then beginWatchRound s else updRtc (fun r => { r with merged := satAdd r.merged 1 255 }) s
    record 0x120C 2 cause s.rtc.merged 0 s.tickNo s

/-- The wake timer fires (R683 to R686, R694). -/
def wakeTimer (s : State) : State :=
  if ¬ s.rtc.wakeEn ∨ s.clkLost 11 then s
  else hwWake 0 (updRtc (fun r => { r with pwrOn := true, wakePending := !s.powered }) s)

def execWakeTimer (t : Nat) (s : State) : Host.Outcome State Fault Refusal := .next (wakeTimer (start t s))

/-- HARBOUR WATCH by station command: the wake is armed and a round runs at once (R687). -/
def watchArm (s : State) : State :=
  beginWatchRound (updRtc (fun r => { r with wakePeriod := s.image.rtc.hwPeriodS * 64, wakeEn := true, hwArm := true, hwRound := 0, hwHeld := false, hwHeldRec := false, hwUnacked := false }) s)

/-- A station command selecting any other mode disarms before the restart (R693). -/
def watchDisarm (s : State) : State := updRtc (fun r => { r with hwArm := false, wakeEn := false }) s

/-- XTAL32 has stopped: RTC_VALID clears, and no wake comes until harbour watch is entered again (R670, R694). -/
def xtalStops (s : State) : State :=
  updRtc (fun r => { r with valid := false, wakeEn := if s.sys.state = .harbourWatch then false else r.wakeEn, cal := s.calNow, trimRun := none }) s

/-- XTAL32 runs again: the calendar resumes from the value it held (R670). -/
def xtalReturns (s : State) : State := updRtc (fun r => { r with secUp := s.up }) s

/-- A point holds a write of quality GOOD stamped after the start of the round (R689). -/
def State.hwFresh (s : State) (p : Nat) : Bool :=
  let r := s.point p
  r.quality == 0 && decide (s.rtc.hwT0 < s.pointInstant r)

/-- The order of values of a type: signed, unsigned, Q16.16, or binary32 by sign and magnitude (R534). -/
def typedValue (type : Nat) (v : Word) : Int :=
  if type = 1 then v.toNat
  else if type = 3 then (if bitAt v 31 then -((v.toNat % 2 ^ 31 : Nat) : Int) else v.toNat)
  else v.toInt

/-- A limit of the image in its point's type; one of binary32 is held as its bits. -/
def limitValue (type : Nat) (v : Int) : Int := if type = 3 then typedValue 3 (wordI v) else v

/-- The alarm mask as its point holds it. -/
def State.hwMask (s : State) : Word :=
  match s.image.rtc.hwAlarmPoint with
  | some p => let r := s.point p; if r.quality = 4 then 0 else r.value
  | none => 0

/-- Sample one point of a round: whether it is in alarm, and what is recorded (R689). -/
def sampleHwPoint (h : HwPoint) (s : State) : Bool × State :=
  let r := s.point h.point
  let type := (s.pointCfg h.point).type
  let v := typedValue type r.value
  let s := record 0x1209 2 h.point r.value.toInt (r.quality * 256 + r.flags) s.rtc.hwRound s
  if r.quality ≠ 0 then (true, record 0x120A 6 h.point r.value.toInt 0 s.rtc.hwRound s)
  else if v < limitValue type h.low then (true, record 0x120A 6 h.point r.value.toInt h.low s.rtc.hwRound s)
  else if limitValue type h.high < v then (true, record 0x120A 6 h.point r.value.toInt h.high s.rtc.hwRound s)
  else (false, s)

/-- The points of a round in image order: the alarm mask, and the state (R689, R690). -/
def sampleHwPoints : List HwPoint → Nat → Word → State → Word × State
  | [], _, m, s => (m, s)
  | h :: hs, i, m, s =>
    let a := sampleHwPoint h s
    sampleHwPoints hs (i + 1) (setBit m i a.1) a.2

/-- The end of a round: every point fresh, or HW_SETTLE passed (R689, R690). PWR_ON is released while no alarm stands or waits for its acknowledgement. -/
def hwRoundSample (s : State) : State :=
  let k := s.image.rtc
  let ready := k.hwPoints.all (fun h => s.hwFresh h.point) || decide (s.rtc.hwT0Up + k.hwSettleS * nsPerS ≤ s.up)
  if ¬ (s.sys.state == .harbourWatch) ∨ ¬ s.rtc.hwRunning ∨ ¬ ready then s
  else
    let r := sampleHwPoints k.hwPoints 0 0 s
    let alarms := popCount r.1
    let s := r.2
    let s := blockPoint 10 k.hwAlarmPoint r.1 1 0 (r.1 != 0) s.sysNow s
    let s := record 0x1208 3 s.rtc.hwRound k.hwPoints.length alarms ((s.up - s.rtc.hwT0Up) / 1000000) s
    let s := updRtc (fun v => { v with hwRunning := false, hwUnacked := v.hwUnacked || r.1 != 0 }) s
    if r.1 = 0 ∧ ¬ s.rtc.hwUnacked ∧ s.rtc.hwArm then updRtc (fun v => { v with pwrOn := false, hwReleasedUp := some s.up }) s else s

def execHwRoundSample (t : Nat) (s : State) : Host.Outcome State Fault Refusal := .next (hwRoundSample (start t s))

/-- Power is still present HW_OFF_WAIT after PWR_ON was released (R691). -/
def hwPowerHeld (s : State) : State :=
  match s.rtc.hwReleasedUp with
  | some u =>
    if s.sys.state = .harbourWatch ∧ ¬ s.rtc.pwrOn ∧ ¬ s.rtc.hwHeld ∧ u + s.image.rtc.hwOffWaitS * nsPerS ≤ s.up then
      let first := !s.rtc.hwHeldRec
      recordIf first 0x120B 4 s.rtc.hwRound 0 0 s.tickNo (updRtc (fun r => { r with hwHeld := true, hwHeldRec := true }) s)
    else s
  | none => s

def execHwPowerHeld (t : Nat) (s : State) : Host.Outcome State Fault Refusal := .next (hwPowerHeld (start t s))

/-- RTC_STATUS (R697). -/
def leapCode : LeapArm → Nat
  | .none => 0 | .positive => 1 | .negative => 2
def causeCode : StartCause → Nat
  | .power => 0 | .rtcWake => 1 | .rstN => 2 | .backupReset => 3
def Rtc.status (r : Rtc) : Word :=
  packWord [(10, 2, causeCode r.startCause), (9, 1, b2n r.hwArm), (8, 1, b2n r.wakeEn), (7, 1, b2n r.onCell), (6, 1, b2n r.pwrOn), (5, 1, b2n r.bkupRst),
    (4, 1, b2n r.leapFlag), (2, 2, leapCode r.leapArmed), (1, 1, b2n r.dateErr), (0, 1, b2n r.valid)]

end Sys2Proof.Machine
end

