-- ==== Sys2Proof/Machine/Servo.lean ====
section
/-! DEFINITION. Thruster servo and position feedback: encoder channels and their index, SSI frames, latches and speed, presets and captures, pulse division, the servo loops of P5, and the PWM outputs (R407 to R449). -/

namespace Sys2Proof.Machine

open Sys2Proof

/-! ## Encoder channels (R407 to R419) -/

def State.encCfg (s : State) (n : Nat) : EncCfg := nth s.image.servo.encs n {}
def State.enc (s : State) (n : Nat) : EncCh := nth s.srv.encs n {}
def updSrv (f : Srv → Srv) (s : State) : State := { s with srv := f s.srv }
def updEnc (n : Nat) (f : EncCh → EncCh) (s : State) : State := updSrv (fun v => { v with encs := upd v.encs n f }) s

/-- A channel works: claimed by the image, in a mode, from start step S10, with the IO domain running (R407, R411, R428). -/
def State.encOn (s : State) (n : Nat) : Bool :=
  decide (n < 16) && s.claimed (.encoder n) && (s.encCfg n).mode != .off && decide (10 ≤ s.boot.step) && s.domOk 10 && s.sys.state != .off

/-- The instant of an edge on the count of IO cycles, 10 ns (R410). -/
def ioTime (up : Nat) : Nat := up / 10 * 10

/-- The instant STILL_TIME runs from. -/
def EncCh.stillFrom (c : EncCh) (ssi : Bool) : Nat := if ssi then c.openUp else c.lastUp.getD c.openUp

/-- STILL_TIME has passed without an edge (R418). -/
def State.stillDue (s : State) (n : Nat) : Bool :=
  let k := s.encCfg n
  let c := s.enc n
  !c.standstill && decide (c.stillFrom (k.mode == .ssi) + k.stillMs * nsPerMs ≤ s.up)

/-- Class codes of LAST_CLASS (R415). -/
def edgeClass (c : EncCh) (d : Bool) : Nat :=
  if c.standstill ∨ c.lastUp.isNone then 1
  else if d ≠ c.lastDir then 2
  else if c.lastClass = 2 then 3
  else 0

/-- A counted edge: COUNT, its class, DIR, and what SPEED will need (R409, R411, R415 to R418). -/
def countEdge (d : Bool) (up : Nat) (c : EncCh) : EncCh :=
  let cls := edgeClass c d
  { c with
    count := if d then c.count + 1 else c.count - 1
    dir := if c.lastUp.isSome && d == c.lastDir then d else c.dir
    standstill := false
    starting := if cls = 1 then true else if cls = 0 ∨ cls = 2 then false else c.starting
    lastClass := cls, lastDir := d, edgeSeen := true
    runV := if cls = 0 then c.runV + 1 else 0
    openUp := if cls = 0 ∧ c.runV = 0 then c.lastUp.getD up else c.openUp
    lastUp := some up }

/-- An error of a channel counted in QERR, with its event at most once a second (R409, R421, R450). -/
def countError (n code : Nat) (p1 : Nat → Int) (p2 : Nat → Int) (s : State) : State :=
  let c := s.enc n
  let ssi := code = 0x0C03
  let log := s.up :: (if ssi then c.ssiLog else c.qerrLog).filter (fun u => decide (s.up < u + nsPerS))
  let due := oncePerSecond (if ssi then c.ssiMark else c.qerrMark) s.up
  let s := updEnc n (fun c => if ssi then { c with qerr := satAdd c.qerr 1 65535, ssiLog := log, ssiMark := if due then some s.up else c.ssiMark }
    else { c with qerr := satAdd c.qerr 1 65535, qerrLog := log, qerrMark := if due then some s.up else c.qerrMark }) s
  recordIf due code 3 n (p1 log.length) (p2 log.length) s.tickNo s

/-! ## Pulse division (R429 to R431) -/

def State.pdivCfg (s : State) (p : Nat) : PdivCfg := nth s.image.servo.pdivs p {}

/-- Counts of the source: the accumulator, and the steps then owed (R430). -/
def divide (k : PdivCfg) (counts acc : Int) : Int × Int :=
  let a := acc + counts * k.n
  (a.tmod k.m, a.tdiv k.m)

/-- Counts of the source of a pair; owed steps beyond 65,535 are lost (R430, R431). -/
def pdivCount (p : Nat) (counts : Int) (s : State) : State :=
  let k := s.pdivCfg p
  let x := nth s.srv.pdivs p {}
  let d := divide k counts x.acc
  let want := x.owed + d.2
  let owed := clampI (-65535) 65535 want
  let lost := (want - owed).natAbs
  let log := if lost = 0 then x.lostLog else (s.up, lost) :: x.lostLog.filter (fun e => decide (s.up < e.1 + nsPerS))
  let due := lost ≠ 0 && oncePerSecond x.lostMark s.up
  let s := updSrv (fun v => { v with pdivs := upd v.pdivs p (fun x => { x with
    acc := d.1, owed := owed, since := x.since + counts, lost := satAdd x.lost lost 2047, lostLog := log
    lostMark := if due then some s.up else x.lostMark }) }) s
  recordIf due 0x0C08 4 p (log.foldl (fun a e => a + e.2) 0) 0 s.tickNo s

/-- The pairs a channel feeds. -/
def pdivFeed (n : Nat) (counts : Int) (s : State) : State :=
  (List.range 4).foldl (fun s p => if s.claimed (.pdiv p) && (s.pdivCfg p).src == some n then pdivCount p counts s else s) s

/-- A standby that shadows an active unit runs its dividers with the outputs gated (R432). -/
def State.pdivShadows (s : State) : Bool := s.sys.state == .standby && s.twn.synced && s.hbMiss == 0

/-- One owed step is emitted, no sooner than PDIV_RATE allows (R431, R432). -/
def pdivStep (p : Nat) (s : State) : State :=
  let k := s.pdivCfg p
  let x := nth s.srv.pdivs p {}
  let ready : Bool := match x.lastUp with | some u => decide (u + nsPerS / k.rate ≤ s.up) | none => true
  let gate := bitAt s.saf.gatePdiv p
  if x.owed = 0 ∨ ¬ ready ∨ ¬ s.claimed (.pdiv p) ∨ ¬ s.domOk 10 ∨ ¬ (gate || s.pdivShadows) then s
  else
    let up1 : Int := if 0 < x.owed then 1 else -1
    let ph := ((x.phase + (if 0 < x.owed then 1 else 3)) % 4 : Nat)
    let s := updSrv (fun v => { v with pdivs := upd v.pdivs p (fun x => { x with owed := x.owed - up1, phase := ph, lastUp := some s.up }) }) s
    if gate then emit (.pdivStep p ph) s else s

def execPdivStep (t p : Nat) (s : State) : Host.Outcome State Fault Refusal := .next (pdivStep p (start t s))

/-- The state of a pair is latched at a tick edge (R432). -/
def pdivLatch (x : Pdiv) : Pdiv :=
  { x with oldAcc := x.latAcc, oldOwed := x.latOwed, oldPhase := x.latPhase, oldSince := x.since
           latAcc := x.acc, latOwed := x.owed, latPhase := x.phase, since := 0 }

/-- A standby takes the carried state of a pair and keeps its counts since that edge (R432). `old`: the edge is the one before the last. -/
def pdivTake (old : Bool) (p : Nat) (acc owed : Int) (phase : Nat) (s : State) : State :=
  let x := nth s.srv.pdivs p {}
  let own := if old then (x.oldAcc, x.oldOwed, x.oldPhase) else (x.latAcc, x.latOwed, x.latPhase)
  if own = (acc, owed, phase) then s
  else
    let d := divide (s.pdivCfg p) (if old then x.oldSince + x.since else x.since) acc
    let x := { x with acc := d.1, owed := clampI (-65535) 65535 (owed + d.2), phase := phase }
    let x := if old then { x with oldAcc := acc, oldOwed := owed, oldPhase := phase } else { x with latAcc := acc, latOwed := owed, latPhase := phase }
    record 0x0C09 3 p own.1 acc s.tickNo (updSrv (fun v => { v with pdivs := put v.pdivs p x }) s)

/-! ## Edges and the index (R409, R412, R413) -/

/-- Direction of a quadrature transition: A leads B for up. -/
def quadDir (a0 a1 b : Bool) (aMoved : Bool) : Bool := if aMoved then a1 != b else b == a0

/-- Accepted levels on A and B: one counted edge, an illegal transition, or nothing to count (R407, R409). -/
def encoderEdge (n : Nat) (a b : Bool) (s : State) : State :=
  let k := s.encCfg n
  let c := s.enc n
  if ¬ s.encOn n ∨ k.mode = .ssi then s
  else
    let sw := updEnc n (fun c => { c with a := a, b := b }) s
    let counted := fun (d : Bool) =>
      pdivFeed n (if d then 1 else -1) (updEnc n (countEdge d (ioTime s.up)) sw)
    match k.mode with
    | .quad =>
      if a ≠ c.a ∧ b ≠ c.b then countError n 0x0C01 (fun m => m) (fun _ => c.count.toInt) sw
      else if a ≠ c.a then counted (quadDir c.a a b true != k.invert)
      else if b ≠ c.b then counted (quadDir a a b false != k.invert)
      else sw
    | .pulseDir => if a && !c.a then counted (b != k.invert) else sw
    | _ => sw

def execEncoderEdge (t n : Nat) (a b : Bool) (s : State) : Host.Outcome State Fault Refusal := .next (encoderEdge n a b (start t s))

/-- A rising edge of Z (R412, R413). -/
def encoderIndex (n : Nat) (s : State) : State :=
  let k := s.encCfg n
  let c := s.enc n
  if ¬ s.encOn n ∨ k.mode = .ssi ∨ k.indexMode = .none ∨ (k.zGate = true ∧ ¬ (c.a = true ∧ c.b = true)) then s
  else
    let reset := k.indexMode == .resetEvery || (k.indexMode == .resetFirst && !c.indexed)
    let after := if reset then k.indexVal else c.count
    let s := updEnc n (fun c => { c with indexPos := c.count, count := after, indexed := true }) s
    recordIf (!c.indexed) 0x0C02 2 n c.count.toInt after.toInt s.tickNo s

def execEncoderIndex (t n : Nat) (s : State) : Host.Outcome State Fault Refusal := .next (encoderIndex n (start t s))

/-- STILL_TIME passes without an edge (R418). -/
def standstill (n : Nat) (s : State) : State :=
  if s.encOn n && s.stillDue n then updEnc n (fun c => { c with standstill := true }) s else s

def execStandstill (t n : Nat) (s : State) : Host.Outcome State Fault Refusal := .next (standstill n (start t s))

/-! ## Speed (R417, R419, R423) -/

/-- Take a SPEED: saturation, and OVERSPEED with its episodes (R419). -/
def takeSpeed (n : Nat) (v : Int) (s : State) : State :=
  let k := s.encCfg n
  let was := (s.enc n).overspeed
  let x := sat31 v
  let excess := decide (k.spdMax < x.natAbs)
  let s := updEnc n (fun c => { c with speed := x, spdSat := x != v, overspeed := excess }) s
  if excess && !was then record 0x0C04 5 n 1 x s.tickNo s
  else if was && !excess then record 0x0C05 3 n 1 0 s.tickNo s
  else s

/-- SPEED at a tick edge by the first rule that applies (R417). -/
def EncCh.speedAt (c : EncCh) (up : Nat) : Int :=
  if c.standstill then 0
  else if c.lastClass ≠ 0 ∧ c.lastUp.isSome then 0
  else
    match c.lastUp with
    | none => 0
    | some u =>
      if 1 ≤ c.runV then
        let v : Int := roundAway (256000000000 * c.runV) (u - c.openUp)
        if c.dir then v else -v
      else if c.edgeSeen then 0
      else
        let cap : Int := roundAway 256000000000 (up - u)
        let m : Int := if up ≤ u then c.speed.natAbs else min c.speed.natAbs cap
        if c.speed < 0 then -m else m

/-! ## SSI channels (R420 to R423) -/

/-- Length of an SSI frame with its final bit, ns. -/
def ssiNs (k : EncCfg) : Nat := (k.ssiBits + 1) * 1000000 / k.ssiRateKHz

/-- A frame begins SSI_OFFSET after the edge of its tick; its first falling edge of A is the sampling instant (R420). -/
def ssiFrameStart (n : Nat) (s : State) : State :=
  let k := s.encCfg n
  if s.encOn n && k.mode == .ssi && s.tks.running && s.tickNo % k.ssiDiv == 0 && decide (k.ssiOffsetUs * 1000 ≤ s.tks.sinceEdge) && (s.enc n).ssiBusy.isNone then
    emit (.ssiFrame n) (updEnc n (fun c => { c with ssiBusy := some (ioTime s.up) }) s)
  else s

def execSsiFrameStart (t n : Nat) (s : State) : Host.Outcome State Fault Refusal := .next (ssiFrameStart n (start t s))

/-- Gray code to binary, over a number of bits. -/
def grayDecode : Nat → Nat → Nat → Nat
  | 0, _, acc => acc
  | b + 1, w, acc => grayDecode b w (2 * acc + ((w / 2 ^ b % 2) + acc % 2) % 2)

/-- The word of a frame: decoded, shifted, limited to its low W bits (R422). -/
def ssiWord (k : EncCfg) (raw : Nat) : Nat :=
  let r := raw % 2 ^ k.ssiBits
  ((if k.ssiGray then grayDecode k.ssiBits r 0 else r) / 2 ^ k.ssiShift) % 2 ^ (k.ssiBits - k.ssiShift)

/-- The signed difference of two words modulo 2^W. -/
def wordDiff (w : Nat) (new old : Nat) : Int :=
  let d : Int := ((new : Int) - old) % 2 ^ w
  if d < 2 ^ (w - 1) then d else d - 2 ^ w

/-- A frame in error (R421). -/
def ssiBad (n cause : Nat) (s : State) : State :=
  let s := countError n 0x0C03 (fun _ => cause) (fun m => m) s
  let c := s.enc n
  let run := c.ssiErrRun + 1
  let enters := 3 ≤ run && !c.fault
  let s := updEnc n (fun c => { c with ssiBusy := none, ssiErrRun := run, ssiGoodRun := 0, fault := c.fault || enters }) s
  recordIf enters 0x0C04 5 n 0 c.speed s.tickNo s

/-- The change of COUNT a good frame brings; none at the first (R422). -/
def ssiMove (k : EncCfg) (w : Nat) (c : EncCh) : Int := match c.ssiWord with | some o => wordDiff (k.ssiBits - k.ssiShift) w o | none => 0

/-- A change has the sign opposite to DIR (R423). -/
def against (c : EncCh) (d : Int) : Bool := d ≠ 0 && (decide (0 < d) != c.dir)

/-- SPEED of a good frame, by its stamp and the one before (R423). -/
def ssiSpeed (stamp : Nat) (c : EncCh) (d : Int) : Int :=
  let dt : Nat := match c.lastUp with | some u => stamp - u | none => 0
  if against c d ∨ dt = 0 then 0 else roundAway (d * 256000000000) dt

/-- The sixteenth good frame in a row ends FAULT (R421). -/
def ssiLeaves (c : EncCh) : Bool := c.fault && decide (16 ≤ c.ssiGoodRun + 1)

/-- The channel after a good frame, but for SPEED (R421 to R423). -/
def ssiTake (stamp w : Nat) (d : Int) (c : EncCh) : EncCh :=
  let turn2 := against c d && decide (1 ≤ c.ssiOpp)
  { c with
    ssiBusy := none, ssiErrRun := 0, ssiGoodRun := c.ssiGoodRun + 1, fault := c.fault && !ssiLeaves c
    count := match c.ssiWord with | some _ => c.count + wordI d | none => wordN w
    ssiWord := some w, lastUp := some stamp
    ssiOpp := if against c d ∧ ¬ turn2 then 1 else 0
    dir := if turn2 then decide (0 < d) else c.dir
    starting := if d = 0 then c.starting else c.standstill
    lastClass := if d = 0 then c.lastClass else b2n c.standstill
    standstill := c.standstill && d == 0
    openUp := if d = 0 then c.openUp else stamp }

/-- A good frame (R421 to R423, R430). -/
def ssiGood (n : Nat) (sampled raw : Nat) (s : State) : State :=
  let k := s.encCfg n
  let c := s.enc n
  let w := ssiWord k raw
  let stamp := sampled + k.ssiDelayUs * 1000
  let d := ssiMove k w c
  let s := updEnc n (ssiTake stamp w d) s
  let s := recordIf (ssiLeaves c) 0x0C05 3 n 0 0 s.tickNo s
  let s := takeSpeed n (ssiSpeed stamp c d) s
  if d = 0 then s else pdivFeed n d s

/-- An SSI frame ends: the bits read, the level before the first falling edge and the level after the last bit (R421, R422). -/
def ssiFrameDone (n : Nat) (raw : Word) (idleHigh finalLow : Bool) (s : State) : State :=
  let k := s.encCfg n
  match (s.enc n).ssiBusy with
  | none => s
  | some b =>
    if ¬ s.encOn n ∨ k.mode ≠ .ssi ∨ s.up < b + ssiNs k then s
    else if k.ssiCheck = true ∧ idleHigh = false then ssiBad n 0 s
    else if k.ssiCheck = true ∧ finalLow = false then ssiBad n 1 s
    else ssiGood n b raw.toNat s

def execSsiFrameDone (t n : Nat) (raw : Word) (idleHigh finalLow : Bool) (s : State) : Host.Outcome State Fault Refusal :=
  .next (ssiFrameDone n raw idleHigh finalLow (start t s))

/-! ## Latches, presets and captures (R411, R414, R425, R427, R428) -/

/-- Codes of MODE in ENC_CH_STATUS. -/
def encModeCode : EncMode → Nat
  | .off => 0 | .quad => 1 | .pulseDir => 2 | .ssi => 3

/-- ENC_CH_STATUS of a channel (R451). -/
def State.encStatus (s : State) (n : Nat) : Word :=
  let c := s.enc n
  packWord [(30, 2, if s.claimed (.encoder n) then encModeCode (s.encCfg n).mode else 0), (29, 1, b2n c.dir), (28, 1, b2n c.standstill), (27, 1, b2n c.starting),
    (26, 1, b2n c.indexed), (25, 1, b2n c.fault), (24, 1, b2n c.overspeed), (23, 1, b2n c.spdSat), (22, 1, b2n c.presetDone), (20, 2, c.lastClass)]

/-- The short stamp of an instant on the time since reset release (R410). -/
def State.stampOf (s : State) (u : Nat) : Word := BitVec.ofInt 32 ((s.sysNow : Int) - s.up + u)

/-- EDGE_NS of a channel, 0 before its first edge. -/
def State.edgeNs (s : State) (n : Nat) : Word := match (s.enc n).lastUp with | some u => s.stampOf u | none => 0

/-- A channel as it starts: COUNT takes PRESET (R411, R413, R428). The levels of its inputs and its error counts stay. -/
def restartEnc (k : EncCfg) (up : Nat) (c : EncCh) : EncCh :=
  { a := c.a, b := c.b, count := k.preset, openUp := up, qerr := c.qerr, capLost := c.capLost, qerrMark := c.qerrMark, qerrLog := c.qerrLog,
    capMark := c.capMark, capLog := c.capLog, ssiMark := c.ssiMark, ssiLog := c.ssiLog }

/-- Start step S10, or the return of the IO domain (R411, R413, R428). -/
def encStart (s : State) : State :=
  updSrv (fun v => { v with encs := (List.range 16).map (fun n => restartEnc (s.encCfg n) s.up (s.enc n)) }) s

/-- The latch of one channel at a tick edge (R414, R417, R425, R428). -/
def latchEnc (s : State) (n : Nat) : State :=
  if ¬ s.encOn n then s
  else
    let s := standstill n s
    let s := if (s.encCfg n).mode = .ssi then (if (s.enc n).standstill then takeSpeed n 0 s else s) else takeSpeed n ((s.enc n).speedAt s.up) s
    let c := s.enc n
    let s :=
      match c.preset with
      | some v => record 0x0C07 3 n c.count.toInt v.toInt s.tickNo (updEnc n (fun c => { c with count := v, preset := none, presetDone := true }) s)
      | none => updEnc n (fun c => { c with presetDone := false }) s
    let c := s.enc n
    let l : EncLatch := { count := c.count, speed := c.speed, edgeUp := c.lastUp, edgeNs := s.edgeNs n, status := s.encStatus n }
    updSrv (fun v => { v with lat := put v.lat n l, encs := upd v.encs n (fun c => { c with runV := 0, edgeSeen := false }) }) s

/-- Every channel and every pair at a tick edge; no latch without the IO domain (R425, R428, R432). -/
def encTick (s : State) : State :=
  if ¬ s.domOk 10 then s
  else
    let s := (List.range 16).foldl latchEnc s
    updSrv (fun v => { v with latTick := s.tickNo, pdivs := v.pdivs.map pdivLatch }) s

/-- P0: the latch window is replaced as a whole, and the captures are drained (R21, R425, R427). -/
def encPublish (s : State) : State :=
  updSrv (fun v => { v with win := v.lat, winTick := v.latTick, encs := v.encs.map (fun c => { c with caps := [] }) }) s

/-- The samples the latch window gives to ENCODER stream sources (R202, R425). -/
def State.encSamples (s : State) : List RawSample :=
  if s.srv.winTick ≠ s.tickNo then []
  else
    s.ctxsDefined.filterMap (fun c =>
      match s.ctxCfg c with
      | some k =>
        match k.src with
        | .encoder n =>
          let l := nth s.srv.win n {}
          if s.encOn n then some { ctx := c, arrival := s.up, inst := some (s.tks.upEdge : Int), vals := [l.count.toInt], valid := fieldOf l.status 24 2 == 0 } else none
        | _ => none
      | none => none)

/-- A preset taken from the commands of its tick waits for the next tick edge; one that names an SSI channel is ignored (R414). -/
def encPreset (v : Word) (n : Nat) (s : State) : State :=
  if (s.encCfg n).mode = .ssi ∨ (s.encCfg n).mode = .off ∨ 16 ≤ n then s else updEnc n (fun c => { c with preset := some v }) s

/-- A channel that names the input copies its state with the stamp of a capture; a fifth one between two ticks is lost (R427). -/
def captureOne (input : Nat) (stamp : Word) (s : State) (n : Nat) : State :=
  let c := s.enc n
  if ¬ s.encOn n ∨ (s.encCfg n).evtSel ≠ some input then s
  else if c.caps.length < 4 then
    updEnc n (fun c => { c with caps := c.caps ++ [{ count := c.count, speed := c.speed, edge := s.edgeNs n, stamp := stamp }] }) s
  else
    let log := s.up :: c.capLog.filter (fun u => decide (s.up < u + nsPerS))
    let due := oncePerSecond c.capMark s.up
    let s := updEnc n (fun c => { c with capLost := satAdd c.capLost 1 255, capLog := log, capMark := if due then some s.up else c.capMark }) s
    recordIf due 0x0C06 3 n log.length 0 s.tickNo s

/-- A capture on an EVT_IN input is copied by the channels that name it (R427). -/
def encCapture (input : Nat) (stamp : Word) (s : State) : State := (List.range 16).foldl (captureOne input stamp) s

/-- The selected edge of an EVT_IN input (R113). -/
def State.evtWanted (s : State) (n : Nat) (fall : Bool) : Bool := match nth s.image.time.evtEdge n .rise with | .rise => !fall | .fall => fall | .both => true

/-- An input takes a capture, or loses it when 16 are held (R113 to R115). -/
def evtTake (up now : Nat) (fall stepped : Bool) (e : EvtIn) : EvtIn :=
  if 16 ≤ e.held.length then
    { e with lost := satAdd e.lost 1 65535, lostLog := up :: e.lostLog.filter (fun u => decide (up < u + nsPerS))
             ovfMark := if oncePerSecond e.ovfMark up then some up else e.ovfMark }
  else
    let cap : EvtCapture := { ss := shortStamp now, sec := lowSeconds now, fall := fall, stepped := stepped }
    { e with count := (e.count + 1) % 65536, lastSs := cap.ss, lastSec := cap.sec, lastFall := fall, lastStepped := stepped, held := e.held ++ [cap] }

/-- A selected edge of a claimed EVT_IN input is captured; captures beyond 16 are lost (R113 to R115). -/
def evtCapture (n : Nat) (fall : Bool) (s : State) : State :=
  if 8 ≤ n ∨ ¬ s.claimed .evtIn ∨ ¬ s.evtWanted n fall ∨ s.boot.step < 10 then s
  else
    let now := s.sysNow / 4 * 4
    let e := nth s.tim.evt n {}
    let due := decide (16 ≤ e.held.length) && oncePerSecond e.ovfMark s.up
    let s := { s with tim := { s.tim with evt := upd s.tim.evt n (evtTake s.up now fall s.stepped) } }
    encCapture n (shortStamp now) (recordIf due 0x040A 3 n (nth s.tim.evt n {}).lostLog.length 0 s.tickNo s)

def execEvtInCapture (t n : Nat) (fall : Bool) (s : State) : Host.Outcome State Fault Refusal := .next (evtCapture n fall (start t s))

/-! ## Feedback of an axis (R426, R436, R437) -/

def State.axisCfg (s : State) (x : Nat) : AxisCfg := nth s.image.servo.axes x {}
def State.axis (s : State) (x : Nat) : SrvAxis := nth s.srv.axes x {}
def updAxis (x : Nat) (f : SrvAxis → SrvAxis) (s : State) : State := updSrv (fun v => { v with axes := upd v.axes x f }) s

/-- An axis is in use: its slot has a kind, and an even axis an azimuth (R433, R435). -/
def State.axisUsed (s : State) (x : Nat) : Bool :=
  (s.slot (x / 2)).kind != .none && (x % 2 == 1 || (s.slot (x / 2)).kind == .azimuth)

/-- Extrapolated part of a position in counts × 256 × 10^9, at most one count in the direction of DIR (R426). -/
def extraCount (l : EncLatch) (up : Nat) : Int :=
  match l.edgeUp with
  | none => 0
  | some u =>
    let p : Int := l.speed * ((up : Int) - u)
    if l.speed = 0 then 0 else if bitAt l.status 29 then clampI 0 256000000000 p else clampI (-256000000000) 0 p

/-- φm from a latch: (count − AZ_ZERO) × 2^32 / AZ_CPR modulo 2^32, with the count extrapolated to the tick edge (R426, R436). -/
def azimuthOf (k : AxisCfg) (l : EncLatch) (up : Nat) : Int :=
  wrapAngle (roundAway ((sdiff32 l.count k.zero * 256000000000 + extraCount l up) * 4294967296) (256000000000 * k.cpr))

/-- Shaft speed from a latch, 0.01 rpm (R436). -/
def shaftSpeed (k : AxisCfg) (l : EncLatch) : Int := roundAway (l.speed * 6000) (256 * k.cpr)

/-- The feedback of an axis and why it is lost, if it is: 0 stale, 1 encoder fault, 2 not indexed, 3 bad quality (R437). -/
def State.feedbackOf (s : State) (x : Nat) : Int × Option Nat :=
  let k := s.axisCfg x
  match k.fb with
  | none => (0, if x % 2 == 0 || k.pi then some 0 else none)
  | some (.enc n) =>
    let l := nth s.srv.win n {}
    let ssi := (s.encCfg n).mode == .ssi
    let age : Nat := if ssi then s.up - (l.edgeUp.getD 0) else (s.tickNo - s.srv.winTick) * nsPerMs
    let v := if x % 2 = 0 then azimuthOf k l s.tks.upEdge else shaftSpeed k l
    let cause : Option Nat :=
      if ¬ s.encOn n ∨ k.fbStaleMs * nsPerMs < age then some 0
      else if bitAt l.status 25 ∨ bitAt l.status 24 then some 1
      else if (s.encCfg n).indexMode = .resetFirst ∧ ¬ ssi ∧ ¬ bitAt l.status 26 then some 2
      else none
    (v, cause)
  | some (.field i) =>
    let c := s.ctx (s.slot (x / 2)).thrCtx
    match c.meas with
    | none => (0, some 0)
    | some m =>
      (nth m.2.1 i 0, if c.badLast then some 3 else if (k.fbStaleMs * nsPerMs : Int) < (s.up : Int) - m.1 then some 0 else none)

/-- An axis loses its feedback, or has it back (R437). -/
def noteFeedback (x : Nat) (cause : Option Nat) (s : State) : State :=
  let was := (s.axis x).fbLost
  match cause with
  | some c => let s := updAxis x (fun a => { a with fbLost := true, integ := 0, out := 0 }) s; recordIf (!was) 0x0C0A 5 x c (x / 2) s.tickNo s
  | none => let s := updAxis x (fun a => { a with fbLost := false }) s; recordIf was 0x0C0B 3 x (x / 2) 0 s.tickNo s

/-- Feedback becomes older than FB_STALE or invalid (R437). -/
def feedbackLost (x : Nat) (s : State) : State :=
  if s.axisUsed x && decide (x < 32) && s.tks.running then
    match (s.feedbackOf x).2 with
    | some c => if (s.axis x).fbLost then s else noteFeedback x (some c) s
    | none => s
  else s

def execFeedbackLost (t x : Nat) (s : State) : Host.Outcome State Fault Refusal := .next (feedbackLost x (start t s))

/-! ## The azimuth loop (R438, R439) -/

/-- A turn from φm passes a whole sector. -/
def turnCrosses (phi e : Int) (sec : Int × Int) : Bool :=
  if 0 ≤ e then decide (turn (sec.1 - phi) ≤ turn (sec.2 - phi)) && decide ((turn (sec.2 - phi) : Int) ≤ e)
  else decide (turn (phi - sec.2) ≤ turn (phi - sec.1)) && decide ((turn (phi - sec.1) : Int) ≤ -e)

/-- The error the loop turns by, and whether it is the long way (R438, R443). -/
def azError (secs : List (Int × Int)) (phiC phiM : Int) : Int × Bool :=
  let e := wrapAngle (phiC - phiM)
  if e ≠ 0 ∧ secs.any (turnCrosses phiM e) then (e - (if e < 0 then -4294967296 else 4294967296), true) else (e, false)

/-- AZ_ACC × 1 ms as a binary angle per s. -/
def azAccStep (k : AxisCfg) : Int := roundAway (k.azAcc * 4294967296) 360000000

/-- The rate of an azimuth axis before and after its clamps (R438). -/
def azRate (k : AxisCfg) (e ff prev : Int) : Int × Int :=
  let w := roundAway (k.kpAz * e + k.kffAz * ff) 1000
  let m := milliToBin k.azOutMax
  let v := clampI (-m) m w
  (w, clampI (prev - azAccStep k) (prev + azAccStep k) v)

/-- The azimuth loop of a slot (R438, R439). -/
def azimuthAxis (x : Nat) (fb : Int) (s : State) : State :=
  let k := s.axisCfg x
  let a := s.axis x
  let phiC := nth s.als.record.az (x / 2) 0
  let ff := wrapAngle (phiC - nth s.srv.prevAz (x / 2) 0) * 1000
  let e := azError (s.slot (x / 2)).sectors phiC fb
  let w := azRate k e.1 ff a.limited
  let above := decide (milliToBin k.azFollow < e.1.natAbs)
  let clears := decide (2 * (e.1.natAbs : Int) < milliToBin k.azFollow)
  let s := updAxis x (fun a => { a with
    sp := phiC, fb := fb, err := e.1, longWay := e.2, out := sat31 w.2, limited := w.2, sat := w.1 != w.2
    aboveSince := if above then some (a.aboveSince.getD s.up) else none
    follow := a.follow && !clears }) s
  recordIf (e.2 && !a.longWay) 0x0C0D 2 x phiC fb s.tickNo s

/-- The error has stayed above AZ_FOLLOW for AZ_FOLLOW_TIME (R439). -/
def azFollow (x : Nat) (s : State) : State :=
  let a := s.axis x
  match a.aboveSince with
  | some u =>
    if s.axisUsed x ∧ x % 2 = 0 ∧ ¬ a.follow ∧ u + (s.axisCfg x).azFollowMs * nsPerMs ≤ s.up then
      record 0x0C0C 4 x a.err a.sp s.tickNo (updAxis x (fun a => { a with follow := true }) s)
    else s
  | none => s

def execAzFollow (t x : Nat) (s : State) : Host.Outcome State Fault Refusal := .next (azFollow x (start t s))

/-! ## The thrust loop (R440, R441) -/

/-- Linear interpolation between the entries of THR_CURVE, held at its ends (R440). -/
def curveAt : List (Int × Int) → Int → Int
  | [], _ => 0
  | [p], _ => p.2
  | p :: q :: rest, v =>
    if v ≤ p.1 then p.2
    else if v < q.1 then p.2 + roundAway ((v - p.1) * (q.2 - p.2)) (q.1 - p.1).toNat
    else curveAt (q :: rest) v

/-- The rate-limited set-point, 16 fraction bits (R440). -/
def rampTo (k : AxisCfg) (prev target : Int) : Int :=
  let step := roundAway (k.spRate * 65536) 1000
  clampI (prev - step) (prev + step) (target * 65536)

/-- The output of a PI loop: before the clamp, after it, and the new integral (R441). -/
def piOut (k : AxisCfg) (e integ : Int) : Int × Int × Int :=
  let u := k.kp * e + integ
  let hi := k.outMax * 65536
  let lo := k.outMin * 65536
  let free := (decide (lo ≤ u) && decide (u ≤ hi)) || (decide (hi < u) && decide (e < 0)) || (decide (u < lo) && decide (0 < e))
  let i := clampI lo hi (if free then integ + roundAway (k.ki * e) 1000 else integ)
  (roundAway u 65536, roundAway (clampI lo hi u) 65536, i)

/-- The thrust loop of a slot (R440, R441). -/
def thrustAxis (x : Nat) (fb : Int) (s : State) : State :=
  let k := s.axisCfg x
  let a := s.axis x
  let lim := rampTo k a.limited (curveAt k.curve (nth s.als.record.thrust (x / 2) 0))
  let sp := roundAway lim 65536
  if k.pi then
    let o := piOut k (sp - fb) a.integ
    let clamped := o.1 != o.2.1
    let due := clamped && oncePerSecond a.satMark s.up
    let s := updAxis x (fun a => { a with sp := sp, fb := fb, err := sp - fb, limited := lim, integ := o.2.2, out := o.2.1, sat := clamped
                                          satMark := if due then some s.up else a.satMark }) s
    recordIf due 0x0C0E 2 x (sat31 o.1) o.2.1 s.tickNo s
  else updAxis x (fun a => { a with sp := sp, fb := fb, err := sp - fb, limited := lim, integ := 0, out := sat31 sp, sat := false }) s

/-! ## P5 (R434, R435, R437, R443) -/

/-- One axis in P5: lost feedback is recorded even where the slot is unavailable. -/
def runAxis (s : State) (x : Nat) : State :=
  if ¬ s.axisUsed x then updAxis x (fun a => { a with enabled := false, integ := 0, limited := 0, out := 0 }) s
  else
    let f := s.feedbackOf x
    let s := noteFeedback x f.2 s
    if ¬ s.slotAvail (x / 2) then updAxis x (fun a => { a with enabled := false, integ := 0, limited := 0, out := 0, fb := f.1, aboveSince := none }) s
    else
      let s := updAxis x (fun a => { a with enabled := true }) s
      if f.2.isSome then
        updAxis x (fun a => { a with out := 0, integ := 0, limited := if x % 2 = 0 then 0 else a.limited, aboveSince := none }) s
      else if x % 2 = 0 then azimuthAxis x f.1 s
      else thrustAxis x f.1 s

/-- The axes of one servo engine, in increasing order (R433, R434). -/
def runEngine (s : State) (e : Nat) : State :=
  if s.works (13 + e) && !bitAt s.tks.stalled (10 + e) then (List.range 8).foldl (fun s i => runAxis s (8 * e + i)) s else s

/-- The high time of a PWM output for an axis output, to 10 ns (R445). -/
def pwmPeriodNs (k : PwmCfg) : Nat := (200000000 + k.freq) / (2 * k.freq) * 10
def pwmHigh (k : PwmCfg) (a : AxisCfg) (u : Int) : Nat :=
  let v := clampI a.outMin a.outMax u
  let span := a.outMax - a.outMin
  (roundAway (((pwmPeriodNs k / 10 : Nat) : Int) * (k.dutyMin * span + (v - a.outMin) * ((k.dutyMax : Int) - k.dutyMin))) (10000 * span.toNat) * 10).toNat

/-- The close of P5: engines that closed it, and the duties that begin with the next period (R434, R445). -/
def servoClose (s : State) : State :=
  updSrv (fun v => { v with
    engineOk := maskOf 4 (fun e => s.works (13 + e) && !bitAt s.tks.stalled (10 + e)), prevAz := s.als.record.az
    pwms := (List.range 16).map (fun k =>
      let c := nth s.image.servo.pwms k {}
      match c.axis with
      | some x => { (nth v.pwms k {}) with next := pwmHigh c (s.axisCfg x) (nth v.axes x {}).out }
      | none => nth v.pwms k {}) }) s

/-- A PWM period begins with the newest duty; it leaves the part only through an open gate (R445, R446). -/
def pwmPeriodStart (k : Nat) (s : State) : State :=
  let c := nth s.image.servo.pwms k {}
  if ¬ s.claimed (.pwm k) ∨ c.axis.isNone ∨ ¬ s.domOk 10 then s
  else
    let s := updSrv (fun v => { v with pwms := upd v.pwms k (fun p => { p with cur := p.next }) }) s
    if bitAt s.saf.gatePwm k then emit (.pwmPeriod k (nth s.srv.pwms k {}).cur (pwmPeriodNs c)) s else s

def execPwmPeriodStart (t k : Nat) (s : State) : Host.Outcome State Fault Refusal := .next (pwmPeriodStart k (start t s))

/-- SRV_STATUS (R451). -/
def State.srvStatus (s : State) : Word :=
  packWord [(16, 16, (maskOf 16 (fun n => (s.enc n).fault || (s.enc n).overspeed)).toNat), (12, 4, (maskOf 4 (fun p => s.claimed (.pdiv p) && (nth s.srv.pdivs p {}).owed != 0)).toNat),
    (8, 4, s.srv.engineOk.toNat), (0, 8, (s.srv.axes.filter (·.fbLost)).length)]

end Sys2Proof.Machine
end

