-- ==== Sys2Proof/Machine/Bus.lean ====
section
/-! DEFINITION. The message buses: drive maps and their encoding, queueing and arbitration, errors, bus-off and recovery, failover to the partner, reception, stamps, sleep and wake (R452 to R501). -/

namespace Sys2Proof.Machine

open Sys2Proof

/-! ## Entries and buffers (R460, R461) -/

def State.busImg (s : State) : ImgBus := s.image.bus
def State.entry (s : State) (e : Nat) : MapEntry := nth s.busImg.entries e { dir := .fifo, mbc := 8, id := 0 }
def State.mbcCfg (s : State) (n : Nat) : MbcCfg := nth s.busImg.mbcs n {}

/-- The entries of a controller that own buffers, in image order: the buffer is the place in this list (R460). -/
def State.bufEntries (s : State) (n : Nat) : List Nat :=
  (List.range s.busImg.entries.length).filter (fun e => (s.entry e).mbc == n && (s.entry e).dir != .fifo)

/-- The place of an element in a list. -/
def placeOf (l : List Nat) (x : Nat) : Nat := l.findIdx (fun y => y == x)

def State.bufOf (s : State) (e : Nat) : Nat := placeOf (s.bufEntries (s.entry e).mbc) e

/-- The transmit entries, in image order. -/
def State.txEntries (s : State) : List Nat := (List.range s.busImg.entries.length).filter (fun e => (s.entry e).dir == .tx)

/-- A transmit entry is scheduled on a tick (R461). -/
def State.scheduled (s : State) (e : Nat) : Bool :=
  let k := s.entry e
  s.tks.tickExt % 2 ^ 32 % k.tickDiv == k.tickPhase && bitAt k.roleEn s.pin.strapRole

/-- The partner of a controller, where the image pairs them (R474). -/
def State.partner (s : State) (n : Nat) : Option Nat := if bitAt s.busImg.paired (n / 2) then some (n / 2 * 2 + (1 - n % 2)) else none

/-! ## Encoding and decoding (R462 to R464, R771) -/

/-- Saturate to a width (R462). -/
def saturateField (signed : Bool) (w : Nat) (v : Int) : Int :=
  if signed then clampI (-(2 ^ (w - 1))) (2 ^ (w - 1) - 1) v else clampI 0 (2 ^ w - 1) v

/-- Byte and bit where bit k of a field lies (R771). -/
def fieldBit (f : MapField) (k : Nat) : Nat × Nat :=
  let b := f.bit + k
  (if f.little then f.byte + b / 8 else f.byte - b / 8, b % 8)

/-- Set or clear a bit of a byte. -/
def byteBit (b : Byte) (i : Nat) (v : Bool) : Byte := setBit b i v

/-- Place the low WIDTH bits of a value in the data bytes (R771). -/
def placeField (f : MapField) (v : Nat) (data : List Byte) : List Byte :=
  (List.range f.width).foldl (fun d k => let p := fieldBit f k; upd d p.1 (fun b => byteBit b p.2 (v.testBit k))) data

/-- Read the bits of a field from the data bytes, with its sign (R771). -/
def readField (f : MapField) (data : List Byte) : Int :=
  let n : Nat := (List.range f.width).foldl (fun a k => let p := fieldBit f k; a + (if bitAt (nth data p.1 0) p.2 then 2 ^ k else 0)) 0
  if f.signed ∧ n.testBit (f.width - 1) then (n : Int) - 2 ^ f.width else n

/-- The value of a field and whether it saturated (R462 to R464). `seq` is the count of the entry. -/
def State.fieldValue (s : State) (f : MapField) (seq : Nat) : Nat × Bool :=
  let scaled := fun (v : Int) =>
    let x := roundAway (v * f.gain + f.offset * 65536) 65536
    let y := saturateField f.signed f.width x
    ((y % 2 ^ f.width).toNat, x != y)
  match f.src with
  | .axis x => scaled (s.axis x).out
  | .thrust i => scaled (nth s.als.record.thrust i 0)
  | .azimuth i => scaled (nth s.als.record.az i 0)
  | .const v => scaled v
  | .seq => (seq % 2 ^ f.width, false)
  | .role => (s.pin.strapRole % 2 ^ f.width, false)
  | .epoch => (s.twn.epoch.toNat % 2 ^ f.width, false)
  | .ctx _ _ => (0, false)

/-- Encode the frame of an entry, with the places of the fields that saturated (R461, R462). -/
def State.encodeEntry (s : State) (e seq : Nat) : CanFrame × List Nat :=
  let k := s.entry e
  let vals := k.fields.map (fun f => (f, s.fieldValue f seq))
  let data := vals.foldl (fun d v => placeField v.1 v.2.1 d) (List.replicate k.len (0 : Byte))
  ({ ide := k.ide, fdf := k.fdf, brs := k.brs, id := k.id, data := data },
   (List.range vals.length).filter (fun i => match vals[i]? with | some v => v.2.2 | none => false))

/-- A frame sent again: unchanged but for its SEQ fields (R43, R463). -/
def State.repeatEntry (s : State) (e seq : Nat) (f : CanFrame) : CanFrame :=
  { f with data := (s.entry e).fields.foldl (fun d x => match x.src with | .seq => placeField x (seq % 2 ^ x.width) d | _ => d) f.data }

/-! ## Queueing (R466, R467, R475 to R478, R496) -/

/-- The order of identifiers in arbitration: base identifier, then extended after base, then the rest (R466). -/
def arbKey (f : CanFrame) : Nat := if f.ide then (f.id / 2 ^ 18 * 2 + 1) * 2 ^ 18 + f.id % 2 ^ 18 else (f.id * 2) * 2 ^ 18

/-- The frame a controller offers first (R466). -/
def headTx (l : List CanTx) : Option CanTx :=
  l.foldl (fun b f => match b with
    | none => some f
    | some g => if arbKey f.frame < arbKey g.frame ∨ (arbKey f.frame = arbKey g.frame ∧ f.buf < g.buf) then some f else b) none

/-- The frame in transmission or first offered. -/
def Mbc.current (m : Mbc) : Option CanTx :=
  match m.wire with
  | some e => match m.txq.find? (fun f => f.entry == e) with | some f => some f | none => headTx m.txq
  | none => headTx m.txq

/-- A controller is error active (warning included) (R472, R475). -/
def Mbc.errActive (m : Mbc) : Bool := decide (m.errState < 2)

/-- Where a frame of an entry is queued now (R475, R476, R478). -/
def State.txHome (s : State) (e : Nat) : Nat :=
  let n := (s.entry e).mbc
  match s.partner n with
  | some p => if (s.entry e).failover ∧ (s.mbc p).errActive = true ∧ ((s.mbc n).failedOver.isSome = true ∨ (s.mbc n).errActive = false) then p else n
  | none => n

/-- Put a frame of an entry in place of its older one, or behind it while that is in transmission (R467, R780). -/
def queueFrame (e : Nat) (f : CanFrame) (s : State) : State :=
  let n := (s.entry e).mbc
  let d := s.txHome e
  let x : CanTx := { entry := e, buf := s.bufOf e, home := n, frame := f, expire := s.tks.tickExt + (s.entry e).ttl }
  let here := [n, (s.partner n).getD n].eraseDups
  let drop := fun (s : State) (c : Nat) =>
    match (s.mbc c).txq.find? (fun g => g.entry == e && g.home == n) with
    | some g => if (s.mbc c).wire = some e then (if c = d then s else stagedCancelled c g s) else txCancelled c g 7 s
    | none => s
  let s := here.foldl drop s
  let s := updMbc d (fun m => { m with queued := inc16 m.queued }) s
  match (s.mbc d).txq.find? (fun g => g.entry == e && g.home == n) with
  | some g =>
    let s := stagedCancelled d g s
    updMbc d (fun m => { m with txq := m.txq.map (fun h => if h.entry == e && h.home == n then { h with staged := some (f, x.expire) } else h) }) s
  | none =>
    updMbc n (fun m => { m with bufs := upd m.bufs x.buf (fun b => { b with arbLost := 0, errs := 0 }) })
      (updMbc d (fun m => { m with txq := m.txq ++ [x] }) s)

/-- The frame in the staging of a frame, as it enters the buffer: its counts at 0 (R467). -/
def CanTx.nextUp (f : CanTx) : List CanTx :=
  match f.staged with
  | some (g, ex) => [{ entry := f.entry, buf := f.buf, home := f.home, frame := g, expire := ex }]
  | none => []

/-- A staged frame enters the buffer at the end of a transmission, with its counts at 0 (R467). -/
def unstage (n : Nat) (f : CanTx) (s : State) : State :=
  if f.staged.isSome then
    updMbc f.home (fun m => { m with bufs := upd m.bufs f.buf (fun b => { b with arbLost := 0, errs := 0 }) })
      (updMbc n (fun m => { m with txq := m.txq ++ f.nextUp }) s)
  else s

/-- Note a saturated field (R462): MAP_SAT, and MBC_MAP_SAT at most once a second per entry. -/
def noteMapSat (e : Nat) (sat : List Nat) (s : State) : State :=
  let n := (s.entry e).mbc
  let s := updMbc n (fun m => { m with bufs := upd m.bufs (s.bufOf e) (fun b => { b with mapSat := !sat.isEmpty }) }) s
  match sat with
  | [] => s
  | i :: _ =>
    let due := oncePerSecond (assoc s.bus.satMarks e) s.up
    let s := { s with bus := { s.bus with satMarks := if due then setKey s.bus.satMarks e s.up else s.bus.satMarks } }
    recordIf due 0x0D0B 2 n e i s.tickNo s

/-! ## Error states, failover and failback (R472, R475 to R479) -/

/-- PAIR_FAILOVER frames move to the partner: one event for each move of the controller's traffic (R475). -/
def failover (n : Nat) (s : State) : State :=
  let m := s.mbc n
  match s.partner n with
  | none => s
  | some p =>
    if s.sys.state ≠ .active ∨ m.errActive ∨ ¬ (s.mbc p).errActive ∨ ¬ s.txEntries.any (fun e => (s.entry e).mbc == n && (s.entry e).failover) then s
    else
      let goes := fun (f : CanTx) => f.home == n && (s.entry f.entry).failover && !(m.wire == some f.entry)
      let moved := m.txq.filter goes
      let s := moved.foldl (fun s f => txOutcome f 5 s) s
      let s := updMbc n (fun m => { m with txq := m.txq.filter (fun f => !goes f), moved := (m.moved + moved.length) % 65536, failedOver := some (m.failedOver.getD s.tks.tickExt) }) s
      let s := updMbc p (fun q => { q with txq := q.txq ++ moved.map (fun f => { f with arbLost := 0, errs := 0 }), freshIn := q.freshIn + moved.length }) s
      recordIf (m.failedOver.isNone || !moved.isEmpty) 0x0D03 5 n p moved.length s.tickNo s

/-- The error state the counters give; bus-off lasts until recovery (R472, R473). -/
def Mbc.errNow (m : Mbc) : Nat := if m.errState = 3 then 3 else errStateOf m.tec m.rec_

/-- A controller takes another error state: `auto` with RECOVERY AUTO (R472, R473, R477). -/
def errTo (auto : Bool) (up tick new : Nat) (m : Mbc) : Mbc :=
  { m with
    errState := new
    goodSince := if 2 ≤ new then none else if 2 ≤ m.errState then some tick else m.goodSince
    busOffUp := if new = 3 then up else m.busOffUp
    recovering := if new = 3 ∧ auto = true then some up else m.recovering
    wire := if new = 3 then none else m.wire }

/-- The error state after a change of the counters: MBC_ERR_STATE at each change, and bus-off (R472, R473). -/
def noteErrors (n : Nat) (s : State) : State :=
  let m := s.mbc n
  if m.errNow = m.errState then s
  else record 0x0D01 4 n m.errNow m.tec m.rec_ (updMbc n (errTo (s.mbcCfg n).auto s.up s.tks.tickExt m.errNow) s)

/-- Every controller's moves (R475, R476). -/
def failovers (s : State) : State := (List.range 8).foldl (fun s n => if bitAt s.busImg.mbcEn n then failover n s else s) s

/-- The first P5 after FAILBACK_TICKS complete ticks error active (R477). -/
def failback (n : Nat) (s : State) : State :=
  let m := s.mbc n
  match m.failedOver, m.goodSince with
  | some t0, some g =>
    if m.errActive ∧ g + 1 + (s.mbcCfg n).failbackTicks ≤ s.tks.tickExt ∧ phaseStart 5 ≤ s.tks.sinceEdge then
      record 0x0D04 3 n (s.tks.tickExt - t0) 0 s.tickNo (updMbc n (fun m => { m with failedOver := none }) s)
    else s
  | _, _ => s

def execFailback (t n : Nat) (s : State) : Host.Outcome State Fault Refusal := .next (failback n (start t s))

/-! ## P5: the frames of a tick (R43, R434, R461 to R465) -/

/-- The counts of the scheduled entries advance on every scheduled tick (R463). -/
def advanceSeqs (s : State) : State :=
  let l := s.txEntries.filter s.scheduled
  { s with bus := { s.bus with seqs := l.foldl (fun q e => updKey q e 0 inc32) s.bus.seqs } }

/-- One scheduled entry: encoded from this tick, or repeated; queued by the active unit only (R43, R461, R465). -/
def sendEntry (fresh : Bool) (s : State) (e : Nat) : State :=
  let seq := (assoc s.bus.seqs e).getD 0
  let old := assoc s.bus.last e
  let new := s.encodeEntry e seq
  let f := match fresh, old with | false, some g => s.repeatEntry e seq g | _, _ => new.1
  let s := { s with bus := { s.bus with last := setKey s.bus.last e f } }
  let s := if fresh || old.isNone then noteMapSat e new.2 s else s
  if s.sys.state = .active ∧ bitAt s.busImg.mbcEn (s.entry e).mbc = true then queueFrame e f s else s

/-- AP3's work of P5 (R434, R461, R477). -/
def busFrames (fresh : Bool) (s : State) : State :=
  let s := (List.range 8).foldl (fun s n => failback n s) s
  let s := advanceSeqs (failovers s)
  (s.txEntries.filter s.scheduled).foldl (sendEntry fresh) s

/-! ## Transmission (R466 to R473, R479, R496) -/

/-- A controller is on its bus: it may send, or ends a frame begun before it left NORMAL. -/
def State.mbcSends (s : State) (n : Nat) : Bool :=
  let m := s.mbc n
  decide (n < 8) && s.domOk 9 && bitAt s.saf.gateMbc n && (m.mode == 2 || m.wire.isSome) && m.errState != 3

/-- The end of a transmission: an MBC gate that waits for it closes (R470, R611). -/
def wireEnds (n : Nat) (s : State) : State :=
  let s := updMbc n (fun m => { m with wire := none }) s
  if bitAt s.saf.mbcClosing n then { s with saf := { s.saf with gateMbc := setBit s.saf.gateMbc n false, mbcClosing := setBit s.saf.mbcClosing n false } } else s

/-- A frame has been sent (R469, R472). -/
def txDone (n : Nat) (s : State) : State :=
  match (s.mbc n).current with
  | none => s
  | some f =>
    if ¬ s.mbcSends n then s
    else
      let s := emit (.canFrame n f.frame) s
      let s := updMbc n (fun m => { m with sent := inc16 m.sent, tec := m.tec - 1, txq := m.txq.filter (fun g => !(g.entry == f.entry && g.home == f.home)) }) s
      let s := unstage n f (txOutcome f (if f.cancel then 2 else 1) s)
      failovers (noteErrors n (wireEnds n s))

def execTxDone (t n : Nat) (s : State) : Host.Outcome State Fault Refusal := .next (txDone n (start t s))

/-- A frame's retries are spent (R468). -/
def txFail (n : Nat) (f : CanTx) (s : State) : State :=
  record 0x0D05 4 n f.entry f.frame.id (f.arbLost + f.errs) (txCancelled n f 6 s)

/-- The counts of a transmit buffer while its frame is pending. -/
def txCounts (f : CanTx) (s : State) : State :=
  updMbc f.home (fun m => { m with bufs := upd m.bufs f.buf (fun b => { b with arbLost := f.arbLost, errs := f.errs }) }) s

/-- Change a pending frame. -/
def updTx (n : Nat) (f : CanTx) (g : CanTx → CanTx) (s : State) : State :=
  updMbc n (fun m => { m with txq := m.txq.map (fun x => if x.entry == f.entry && x.home == f.home then g x else x) }) s

/-- The frame first offered loses arbitration (R468). -/
def arbitrationLost (n : Nat) (s : State) : State :=
  match headTx (s.mbc n).txq with
  | none => s
  | some f =>
    if ¬ s.mbcSends n ∨ (s.mbc n).mode ≠ 2 then s
    else
      let f' := { f with arbLost := f.arbLost + 1 }
      let k := s.entry f.entry
      let s := wireEnds n s
      if k.arbRetry < 255 ∧ k.arbRetry < f'.arbLost then txFail n f' s
      else txCounts f' (updTx n f (fun x => { x with arbLost := x.arbLost + 1 }) s)

def execArbitrationLost (t n : Nat) (s : State) : Host.Outcome State Fault Refusal := .next (arbitrationLost n (start t s))

/-- Count an error kind (MBC_ERR_CNT). -/
def countKind (k : CanError) (m : Mbc) : Mbc :=
  match k with
  | .bit => { m with errBit := satAdd m.errBit 1 255 }
  | .stuff => { m with errStuff := satAdd m.errStuff 1 255 }
  | .crc => { m with errCrc := satAdd m.errCrc 1 255 }
  | .formAck => { m with errForm := satAdd m.errForm 1 255 }

/-- What becomes of a frame that met an error: cancelled before, its retries spent, superseded by the frame in its staging, or attempted again (R467 to R469). -/
def txErrorEnds (n : Nat) (f f' : CanTx) (spent : Bool) (s : State) : State :=
  if f.cancel then unstage n f (txCancelled n f' 3 s)
  else if spent then unstage n f (txFail n f' s)
  else if f.staged.isSome then unstage n f (txCancelled n f' 7 s)
  else txCounts f' s

/-- The frame in transmission, or first offered, meets an error; `exempt` where ISO 11898-1 leaves the transmit counter unchanged (R467 to R469, R472, R478, R479). -/
def txError (n : Nat) (k : CanError) (exempt : Bool) (s : State) : State :=
  match (s.mbc n).current with
  | none => s
  | some f =>
    if ¬ s.mbcSends n then s
    else
      let before := (s.mbc n).errState
      let f' := { f with errs := f.errs + 1 }
      let sighted := k == .bit && s.inProbation && s.sys.state == .active
        && (s.entry f.entry).fields.any (fun x => x.src == .role) && (s.entry f.entry).fields.any (fun x => x.src == .epoch)
      let s := if sighted then { s with twn := { s.twn with sighting := some ((s.twn.sighting).getD { frame := none, ctrl := n }) } } else s
      let s := updMbc n (fun m => countKind k { m with tec := if exempt ∨ m.mode ≠ 2 then m.tec else min 256 (m.tec + 8) }) s
      let s := wireEnds n (updTx n f (fun x => { x with errs := x.errs + 1 }) s)
      let s := noteErrors n s
      let worse := decide (2 ≤ (s.mbc n).errState) && (s.mbc n).errState != before
      failovers (txErrorEnds n f f' (decide ((s.entry f.entry).errRetry < f'.errs) && !((s.entry f.entry).failover && worse)) s)

def execTxError (t n : Nat) (k : CanError) (exempt : Bool) (s : State) : Host.Outcome State Fault Refusal :=
  .next (txError n k exempt (start t s))

/-- A write of MBC_TX_CANCEL; `won` tells that the buffer's frame has won arbitration by now (R469, R470, R497). -/
def txCancel (n buf : Nat) (won : Bool) (s : State) : State :=
  let find := fun (c : Nat) => ((s.mbc c).txq.find? (fun f => f.home == n && f.buf == buf)).map (fun f => (c, f))
  match (match find n with | some x => some x | none => (s.partner n).bind find) with
  | none => s
  | some (c, f) =>
    let first := match (s.mbc c).current with | some g => g.entry == f.entry | none => false
    if (s.mbc c).wire = some f.entry ∨ (won = true ∧ first = true) then
      updTx c f (fun x => { x with cancel := true }) (updMbc c (fun m => { m with wire := some f.entry }) s)
    else txCancelled c f 3 s

def execMbcTxCancel (t n : Nat) (v : Word) (won : Bool) (s : State) : Host.Outcome State Fault Refusal :=
  .next (txCancel n (fieldOf v 0 6) won (start t s))

/-- Frames whose TTL has run out are discarded at the tick edge (R471). A frame in transmission ends first. -/
def txExpire (n : Nat) (s : State) : State :=
  let m := s.mbc n
  (m.txq.filter (fun f => decide (f.expire ≤ s.tks.tickExt) && m.wire != some f.entry)).foldl (fun s f =>
    let h := (s.mbc n).expMark.hit s.up
    let s := txOutcome f 4 s
    let s := updMbc n (fun m => { m with expired := inc16 m.expired, expMark := h.1, txq := m.txq.filter (fun g => !(g.entry == f.entry && g.home == f.home)) }) s
    recordIf h.2.1 0x0D06 4 n h.2.2 f.entry s.tickNo s) s

def execTxExpired (t n : Nat) (s : State) : Host.Outcome State Fault Refusal := .next (txExpire n (start t s))

/-- At a tick edge: moved frames count as queued, TTLs run out, and the frame counter is latched (R471, R490, R496). -/
def State.frameCounter (s : State) (u : Nat) : Nat :=
  let live := match s.bus.lostAt with | some l => min u l | none => u
  (live - s.bus.stopped) * 80 / 1000
def busTick (s : State) : State :=
  let s := (List.range 8).foldl (fun s n => txExpire n (updMbc n (fun m => { m with queued := (m.queued + m.freshIn) % 65536, freshIn := 0 }) s)) s
  failovers { s with bus := { s.bus with prevCnt := s.bus.latCnt, prevUp := s.bus.latUp, latTick := s.tickNo, latCnt := wordN (s.frameCounter s.up),
                                         latA := s.domNow 0, latUp := s.up } }

/-- The BUS domain is lost, and returns: every controller integrates again (R489, R497). -/
def busLost (s : State) : State := { s with bus := { s.bus with lostAt := some (s.bus.lostAt.getD s.up) } }
def busReturns (s : State) : State :=
  match s.bus.lostAt with
  | none => s
  | some u =>
    { s with bus := { s.bus with lostAt := none, stopped := s.bus.stopped + (s.up - u) }
             mbcs := s.mbcs.map (fun m => if m.mode = 0 then m else { m with mode := 1, wire := none }) }

/-- Start step S10: the enabled controllers integrate (R454). -/
def busStart (s : State) : State :=
  { s with mbcs := (List.range 8).map (fun n => if bitAt s.busImg.mbcEn n then { (s.mbc n) with mode := 1 } else s.mbc n) }

/-- Eleven recessive bits have passed (R454, R780). -/
def integrationDone (n : Nat) (s : State) : State :=
  if (s.mbc n).mode = 1 ∧ s.domOk 9 = true then
    let s := updMbc n (fun m => { m with mode := 3 }) s
    updMbc n (fun m => { m with mode := match s.sys.state with | .active => 2 | .start => 3 | d => s.mbcMode n d }) s
  else s

def execIntegrationDone (t n : Nat) (s : State) : Host.Outcome State Fault Refusal := .next (integrationDone n (start t s))

/-! ## Recovery (R473) -/

/-- A recovery request: whether it starts the count (R473). -/
def recoverBus (n : Nat) (s : State) : Bool × State :=
  let m := s.mbc n
  if m.errState = 3 ∧ m.recovering.isNone then (true, updMbc n (fun m => { m with recovering := some s.up }) s) else (false, s)

def mbcRecover (n : Nat) (v : Word) (s : State) : State := if bitAt v 0 then (recoverBus n s).2 else s

def execMbcRecover (t n : Nat) (v : Word) (s : State) : Host.Outcome State Fault Refusal := .next (mbcRecover n v (start t s))

/-- Nominal bit time, in 12.5 ns (R455). -/
def bitTime (k : MbcCfg) : Nat := k.nomBrp * (1 + k.nomTseg1 + k.nomTseg2)

/-- 128 times 11 recessive bits have been counted (R473). -/
def busRecovered (n : Nat) (s : State) : State :=
  let m := s.mbc n
  match m.recovering with
  | none => s
  | some u =>
    if m.errState ≠ 3 ∨ s.domOk 9 = false ∨ (s.up - u) * 80 < 1408 * bitTime (s.mbcCfg n) * 1000 then s
    else
      let s := updMbc n (fun m => { m with tec := 0, rec_ := 0, errState := 0, recovering := none, goodSince := some s.tks.tickExt }) s
      let s := record 0x0D01 4 n 0 0 0 s
      failovers (record 0x0D02 4 n ((s.up - m.busOffUp) / 1000000) (b2n (s.mbcCfg n).auto) s.tickNo s)

def execBusRecovered (t n : Nat) (s : State) : Host.Outcome State Fault Refusal := .next (busRecovered n (start t s))

/-! ## Reception (R481 to R488, R495) -/

/-- A controller receives: NORMAL or bus monitoring, with the BUS domain and AP3's bus hardware running. -/
def State.mbcHears (s : State) (n : Nat) : Bool :=
  decide (n < 8) && s.domOk 9 && ((s.mbc n).mode == 2 || (s.mbc n).mode == 3)

/-- An entry's identifier and mask match a frame (R481). -/
def idMatches (k : MapEntry) (f : CanFrame) : Bool := k.ide == f.ide && ((k.id ^^^ f.id) &&& k.idMask) == 0

/-- An arrival loses a frame: the one in the shadow of a locked buffer, or the unread one (R484). -/
def MBuf.loses (x : MBuf) : Bool :=
  match x.lock with
  | some _ => x.shadow.isSome
  | none => x.unread

/-- A receive buffer after an arrival (R484). -/
def MBuf.takes (f : CanFrame) (st : Word) (x : MBuf) : MBuf :=
  match x.lock with
  | some _ => { x with shadow := some (f, st), overrun := x.overrun || x.loses }
  | none => { x with frame := some (f, st), unread := true, overrun := x.overrun || x.loses }

/-- A frame comes into a receive buffer (R484). -/
def takeIntoBuffer (n b : Nat) (f : CanFrame) (st : Word) (s : State) : State :=
  let m := s.mbc n
  let x := nth m.bufs b {}
  let s := updMbc n (fun m => { m with accepted := inc16 m.accepted, bufs := put m.bufs b (x.takes f st), overwritten := if x.loses then inc16 m.overwritten else m.overwritten }) s
  if x.loses then
    let h := m.ovrMark.hit s.up
    recordIf h.2.1 0x0D07 3 n h.2.2 b s.tickNo (updMbc n (fun m => { m with ovrMark := h.1 }) s)
  else s

/-- The receive FIFO takes a frame, or drops it when full (R486); whether it was taken. -/
def takeIntoFifo (n : Nat) (f : CanFrame) (st : Word) (s : State) : Bool × State :=
  let m := s.mbc n
  if m.fifo.length < 128 then (true, updMbc n (fun m => { m with fifo := m.fifo ++ [(f, st)] }) s)
  else
    let h := m.fifoMark.hit s.up
    (false, recordIf h.2.1 0x0D08 3 n h.2.2 0 s.tickNo (updMbc n (fun m => { m with fifoDropped := satAdd m.fifoDropped 1 65535, fifoMark := h.1 }) s))

/-- The key under which the SEQ of an entry and of its twin is kept (R487). -/
def State.seqKey (s : State) (e : Nat) : Nat := match (s.entry e).twin with | some t => min e t | none => e

/-- How far a SEQ value of a width lies after the last accepted one (R487). -/
def seqAhead (w v : Nat) : Option Nat → Nat
  | some o => (v + 2 ^ w - o) % 2 ^ w
  | none => 1

/-- The SEQ of a frame against the last accepted: taken or not, and the state with a skip counted (R487). -/
def checkSeq (n e : Nat) (f : CanFrame) (s : State) : Bool × State :=
  match (s.entry e).fields.find? (fun x => x.src == .seq) with
  | none => (true, s)
  | some x =>
    let v := (readField x f.data % 2 ^ x.width).toNat
    let key := s.seqKey e
    let d := seqAhead x.width v (assoc s.bus.seqIn key)
    if d = 0 then (false, s)
    else
      let s := { s with bus := { s.bus with seqIn := setKey s.bus.seqIn key v } }
      (true, if 1 < d then updMbc n (fun m => { m with seqSkips := satAdd m.seqSkips 1 65535 }) s else s)

/-- The sample a frame gives to one context: its fields by their places (R487). -/
def ctxValues (k : MapEntry) (f : CanFrame) (c : Nat) : List Int :=
  let l := k.fields.filterMap (fun x => match x.src with | .ctx d i => if d = c then some (i, roundAway (readField x f.data * x.gain) 65536 + x.offset) else none | _ => none)
  (List.range ((l.foldl (fun a p => max a (p.1 + 1)) 0))).map (fun i => (assoc l i).getD 0)

/-- The contexts the fields of an entry feed (R487). -/
def fedCtxs (k : MapEntry) : List Nat := (k.fields.filterMap (fun x => match x.src with | .ctx d _ => some d | _ => none)).eraseDups

/-- Decode a frame for its entry and hand it to the contexts it feeds (R487, R491). -/
def decodeFrame (n e : Nat) (f : CanFrame) (sof : Nat) (s : State) : State :=
  let c := checkSeq n e f s
  if ¬ c.1 then c.2
  else
    let k := s.entry e
    (fedCtxs k).foldl (fun s d => arrive { ctx := d, arrival := sof, inst := none, vals := ctxValues k f d, valid := true } s) c.2

/-- ROLE and EPOCH of a command frame, where its entry has both (R488, R578). -/
def roleEpoch (k : MapEntry) (f : CanFrame) : Option (Nat × Nat × Nat) :=
  match k.fields.find? (fun x => x.src == .role), k.fields.find? (fun x => x.src == .epoch) with
  | some r, some e => some ((readField r f.data % 2 ^ r.width).toNat, (readField e f.data % 2 ^ e.width).toNat, e.width)
  | _, _ => none

/-- The transmit entry a received frame belongs to, on its controller or, with failover, its partner (R488). -/
def State.commandEntry (s : State) (n : Nat) (f : CanFrame) : Option Nat :=
  s.txEntries.find? (fun e =>
    let k := s.entry e
    k.ide == f.ide && k.id == f.id && (k.mbc == n || (k.failover && s.partner k.mbc == some n)))

/-- A command frame of another unit: a sighting while ACTIVE, a sign of life while YIELDED (R488, R579, R581). -/
def foreignFrame (n : Nat) (f : CanFrame) (s : State) : State :=
  match s.commandEntry n f with
  | none => s
  | some e =>
    let re := roleEpoch (s.entry e) f
    if s.sys.state = .active then
      let due := oncePerSecond (s.mbc n).foreignMark s.up
      let s := updMbc n (fun m => { m with foreignMark := if due then some s.up else m.foreignMark }) s
      let s := recordIf due 0x0D0A 6 n f.id ((re.map (·.1)).getD 3) ((re.map (·.2.1)).getD 0) s
      match re with
      | some (r, ep, w) => if r ≠ s.pin.strapRole then { s with twn := { s.twn with sighting := some { frame := some (r, ep, w), ctrl := n } } } else s
      | none => s
    else
      match re with
      | some (r, _) => if r ≠ s.pin.strapRole then { s with twn := { s.twn with busSeen := true } } else s
      | none => s

/-- A good frame lowers the receive error counter, with what that asks for (R472, R475). -/
def countGood (n : Nat) (s : State) : State :=
  failovers (noteErrors n (updMbc n (fun m => { m with rec_ := if 127 < m.rec_ then 127 else m.rec_ - 1 }) s))

/-- The receive buffer's entry a frame is accepted for, and failing that the FIFO entry (R481). -/
def State.rxEntry (s : State) (n : Nat) (f : CanFrame) : Option Nat := (s.bufEntries n).find? (fun e => (s.entry e).dir == .rx && idMatches (s.entry e) f)
def State.fifoEntry (s : State) (n : Nat) (f : CanFrame) : Option Nat :=
  (List.range s.busImg.entries.length).find? (fun e => (s.entry e).mbc == n && (s.entry e).dir == .fifo && idMatches (s.entry e) f)

/-- A frame that no entry matches, or a remote frame, counts as ignored only (R452, R481). -/
def rxIgnore (n : Nat) (s : State) : State := updMbc n (fun m => { m with ignored := satAdd m.ignored 1 65535 }) s

/-- A data frame goes to its buffer or to the FIFO, and to the contexts (R481, R484, R486, R487). -/
def rxAccept (n : Nat) (f : CanFrame) (sof : Nat) (st : Word) (s : State) : State :=
  match s.rxEntry n f with
  | some e => decodeFrame n e f sof (takeIntoBuffer n (s.bufOf e) f st s)
  | none =>
    match s.fifoEntry n f with
    | some e =>
      let q := takeIntoFifo n f st s
      if q.1 then decodeFrame n e f sof q.2 else q.2
    | none => rxIgnore n s

/-- A good frame is received; its start of frame lies some ns before the command (R472, R481 to R488). -/
def rxFrame (n : Nat) (f : CanFrame) (sofAgo : Nat) (s : State) : State :=
  if ¬ s.mbcHears n then s
  else
    let sof := s.up - sofAgo
    let st := wordN (s.frameCounter sof)
    let s := countGood n s
    if f.remote then rxIgnore n s else rxAccept n f sof st (foreignFrame n f s)

def execRxFrame (t n : Nat) (f : CanFrame) (sofAgo : Nat) (s : State) : Host.Outcome State Fault Refusal := .next (rxFrame n f sofAgo (start t s))

/-- An error while receiving raises the receive error counter by 1, or by 8 as ISO 11898-1 has it (R472). -/
def rxError (n : Nat) (k : CanError) (by8 : Bool) (s : State) : State :=
  if ¬ s.mbcHears n then s
  else failovers (noteErrors n (updMbc n (fun m => countKind k { m with rec_ := min 255 (m.rec_ + (if by8 then 8 else 1)) }) s))

def execRxError (t n : Nat) (k : CanError) (by8 : Bool) (s : State) : Host.Outcome State Fault Refusal := .next (rxError n k by8 (start t s))

/-- A read of word 0 locks a receive buffer, or the FIFO head (64), to its path (R483). -/
def rxLock (p : Path) (n b : Nat) (s : State) : State :=
  if b = 64 then updMbc n (fun m => { m with fifoLock := match m.fifoLock with | some l => some l | none => if m.fifo.isEmpty then none else some (p, s.up) }) s
  else updMbc n (fun m => { m with bufs := upd m.bufs b (fun x => { x with lock := match x.lock with | some l => some l | none => some (p, s.up) }) }) s

/-- A receive buffer after its release: a frame in the shadow moves in and is unread (R483, R485). -/
def MBuf.freed (x : MBuf) : MBuf := { x with lock := none, overrun := false, shadow := none, unread := x.shadow.isSome, frame := x.shadow.or x.frame }

/-- The release of a buffer: its frame is read, and a frame in the shadow moves in (R483, R485, R495). -/
def rxFree (n b : Nat) (s : State) : State :=
  if b = 64 then updMbc n (fun m => { m with fifoLock := none, fifo := m.fifo.drop 1 }) s
  else
    let x := nth (s.mbc n).bufs b {}
    updMbc n (fun m => { m with read := if x.unread then inc16 m.read else m.read, bufs := put m.bufs b x.freed }) s

/-- The lock of a buffer, or of the FIFO head. -/
def State.rxLockOf (s : State) (n b : Nat) : Option (Path × Nat) := if b = 64 then (s.mbc n).fifoLock else (nth (s.mbc n).bufs b {}).lock

/-- A read of word 18 by the path that holds the lock releases it (R483). -/
def rxRelease (p : Path) (n b : Nat) (s : State) : State :=
  match s.rxLockOf n b with
  | some (q, _) => if p = q then rxFree n b s else s
  | none => s

/-- Number of an access path: 0 the maintenance port, then the sessions. -/
def pathCode : Path → Nat
  | .mspi => 0
  | .session n => n + 1

/-- A lock held for 100 µs is released (R483). -/
def rxLockTimeout (n b : Nat) (s : State) : State :=
  match s.rxLockOf n b with
  | some (p, u) => if u + 100000 ≤ s.up then record 0x0D09 3 n b (pathCode p) s.tickNo (rxFree n b s) else s
  | none => s

def execRxLockTimeout (t n b : Nat) (s : State) : Host.Outcome State Fault Refusal := .next (rxLockTimeout n b (start t s))

/-! ## Sleep and wake (R492 to R494, R497) -/

/-- A controller wakes: source 1 edge, 2 frame (R494). -/
def mbcWake (n source id : Nat) (s : State) : State :=
  hwWake 1 (record 0x0D0C 3 n source id s.tickNo (updMbc n (fun m => { m with mode := 3, wake := source }) s))

/-- A dominant level on RXD for some ns (R493). -/
def wakeEdge (n ns : Nat) (s : State) : State :=
  if (s.mbc n).mode = 4 ∧ (s.mbcCfg n).wakeMode = .edge ∧ (s.mbcCfg n).wakeFiltNs ≤ ns then mbcWake n 1 0 s else s

def execWakeEdge (t n ns : Nat) (s : State) : Host.Outcome State Fault Refusal := .next (wakeEdge n ns (start t s))

/-- The data of a frame match WAKE_DATA under WAKE_DMASK (R493). -/
def wakeDataOk (k : MbcCfg) (d : List Byte) : Bool :=
  (List.range k.wakeDlc).all (fun i => ((nth d i 0 ^^^ nth k.wakeData i 0) &&& nth k.wakeMask i 0) == 0)

/-- A good frame on the bus of a sleeping controller (R493). -/
def wakeFrame (n : Nat) (f : CanFrame) (s : State) : State :=
  let k := s.mbcCfg n
  if (s.mbc n).mode = 4 ∧ k.wakeMode = .frame ∧ s.domOk 9 ∧ ¬ f.fdf ∧ ¬ f.remote ∧ f.ide = k.wakeIde ∧ ((f.id ^^^ k.wakeId) &&& k.wakeIdMask) = 0
      ∧ f.data.length = k.wakeDlc ∧ wakeDataOk k f.data then mbcWake n 2 f.id s
  else s

def execWakeFrame (t n : Nat) (f : CanFrame) (s : State) : Host.Outcome State Fault Refusal := .next (wakeFrame n f (start t s))

end Sys2Proof.Machine
end

