-- ==== Sys2Proof/Machine/Reset.lean ====
section
/-! DEFINITION. A reset of the whole device: what outlasts it, and how it comes about (R663, R704, R710, R743). -/

namespace Sys2Proof.Machine

open Sys2Proof

/-- The backup domain through a reset of the device: the registers of R663 that are not of the domain take their reset values (R662, R663). -/
def Rtc.afterReset (r : Rtc) (cal : Calendar) : Rtc :=
  { r with stageTime := 0, stageDate := 0x20000101, commit := none, dateErr := false, trimRun := none, shadow := [], secUp := 0, cal := cal
           hwRunning := false, hwHeld := false, hwHeldRec := false, hwT0 := 0, hwT0Up := 0, hwReleasedUp := none, hwUnacked := false }

/-- The device is reset: the backup domain, the configuration memory and the Tally store keep what they hold. A reset with power present reports START_CAUSE 2 (R684, R710). -/
def deviceReset (s : State) : State :=
  { rtc := { (s.rtc.afterReset s.calNow) with startCause := .rstN }
    flash := s.flash, evr := { store := s.evr.store }, draws := s.draws, out := s.out, pending := s.pending }

/-- Passage from HARBOUR WATCH to START: the wake is disarmed, the change recorded, and the device reset (R335, R601, R693). Cause 2 or 3 of R772. -/
def restartFromWatch (cause : Nat) (s : State) : State :=
  deviceReset (watchDisarm (record 0x0101 4 (devCode s.sys.state) 0 (0x0500 + cause) s.tickNo s))

/-- The device is reset by the ball or a command, unless a programming command must end first (R710, R729, R743). -/
def restart (s : State) : State :=
  match s.boot.progBusy with
  | some _ => { s with boot := { s.boot with restartDue := true } }
  | none => deviceReset s

end Sys2Proof.Machine
end

