-- ==== Sys2Proof/Machine/Net.lean ====
section
/-! DEFINITION. The switch: ports, ingress FIFOs, forwarding, classes and buffer credits, PRP, ARP and ICMP (R502 to R516, R550). -/

namespace Sys2Proof.Machine

open Sys2Proof

/-- The NET domain and the SERDES reference run (R32). -/
def State.netRuns (s : State) : Bool := s.domOk 3 && s.domOk 13

/-- The controller takes part in the network: it has a unit address, AP4 works, and the switch runs (R514). -/
def State.controllerOn (s : State) : Bool :=
  s.hasAddress && s.netRuns && s.works 4 && s.sys.state != .off

/-- The addresses of this unit's role (R514). -/
def State.unitAddr (s : State) : UnitAddr :=
  match nth s.image.net.roles s.pin.strapRole none with
  | some a => a
  | none => { mac := 0, ip := 0, mask := 0, gw := 0 }

/-! ## Drops -/

/-- A counted drop at a port (4 DP): 0 credits, 1 check, 2 length, 3 queue; NET_DROP at most once a second for a port and cause (R503, R507, R549). -/
def netDrop (p cause : Nat) (s : State) : State :=
  let h := ((assoc s.net.dropMarks (4 * p + cause)).getD {}).hit s.up
  let s := { s with net := { s.net with
                              drops := upd s.net.drops p (fun l => upd l cause (fun n => satAdd n 1 255))
                              dropMarks := assocSet s.net.dropMarks (4 * p + cause) h.1 } }
  recordIf h.2.1 0x0E03 3 p cause h.2.2 s.tickNo s

/-! ## Credits (R506 to R509) -/

/-- Credits a frame of some bytes needs, 1 to 7 (R506). -/
def creditsOf (bytes : Nat) : Nat := min 7 (max 1 ((bytes + 16 + 255) / 256))

/-- Credits held by the frames of a class. -/
def Net.heldBy (n : Net) (c : FrameClass) : Nat :=
  n.held.foldl (fun k f => if f.cls = c then k + creditsOf f.bytes else k) 0

/-- Credits held by queued frames (NET_CREDITS.HELD). -/
def Net.heldAll (n : Net) : Nat := n.held.foldl (fun k f => k + creditsOf f.bytes) 0

/-- Free credits (NET_CREDITS.FREE). -/
def Net.free (n : Net) : Nat := 4096 - n.heldAll

/-- BULK credits on one output queue. -/
def Net.bulkOn (n : Net) (p : Nat) : Nat :=
  n.held.foldl (fun k f => if f.cls = .bulk && bitAt f.ports p then k + creditsOf f.bytes else k) 0

/-- What a class may take: the free credits less the reserves of other classes not in use, and for BULK at most 3,008 in all (R508). -/
def Net.mayTake (n : Net) (c : FrameClass) : Nat :=
  let ptpLeft := 64 - n.heldBy .ptp
  let ctrlLeft := 1024 - n.heldBy .ctrl
  match c with
  | .ptp => n.free - ctrlLeft
  | .ctrl => n.free - ptpLeft
  | .bulk => min (n.free - (ptpLeft + ctrlLeft)) (3008 - n.heldBy .bulk)

/-- Link an admitted frame to its output queues, or refuse and count it (R507, R508). A frame with no output port is gone. -/
def linkFrame (inPort : Nat) (cls : FrameClass) (bytes : Nat) (ports : BitVec 5) (s : State) : State :=
  if ports = 0 then s
  else if s.net.mayTake cls < creditsOf bytes then netDrop inPort 0 s
  else if cls = .bulk && (bitsOf ports).any (fun p => decide (s.image.net.portQmax < s.net.bulkOn p + creditsOf bytes)) then
    netDrop inPort 3 s
  else { s with net := { s.net with held := s.net.held ++ [{ from_ := inPort, cls := cls, bytes := bytes, ports := ports }] } }

/-! ## Ports (R502, R503) -/

/-- Frames no longer wait for a port that has gone down; their other ports send them (R506, R546). -/
def dropPort (p : Nat) (s : State) : State :=
  let held := s.net.held.map (fun f => { f with ports := setBit f.ports p false })
  { s with net := { s.net with held := held.filter (fun f => f.ports != 0) } }

/-- PHY_LINK_CHANGE (R502): a port is up at 1 Gbit/s full duplex alone. -/
def execPhyLinkChange (t p mbps : Nat) (full : Bool) (s : State) : Host.Outcome State Fault Refusal :=
  let s := start t s
  let up := mbps == 1000 && full
  if 4 ≤ p ∨ bitAt s.net.link p = up then .next s
  else
    let s := { s with net := { s.net with link := setBit s.net.link p up } }
    let s := if up then s else dropPort p s
    .next (record 0x0E01 4 p (b2n up) 0 s.tickNo s)

/-- A port belongs to a PRP pair: P0 and P1, and P2 and P3 when the image says so (R510). -/
def State.paired (s : State) (p : Nat) : Bool := decide (p < 2) || (decide (p < 4) && s.image.net.prp2)

/-- Something has been received on a LAN: port l carries LAN l (R510, R513). -/
def lanHeard (l : Nat) (s : State) : State :=
  if ¬ s.paired l then s
  else
    let was := nth s.net.heard l none
    let ok := bitAt s.net.lanOk l
    let s := { s with net := { s.net with heard := put s.net.heard l (some s.up), lanOk := setBit s.net.lanOk l true } }
    recordIf (!ok && was.isSome) 0x0E02 5 (l / 2) (l % 2) 1 s.tickNo s

/-- Bytes a frame FIFO holds (R503). -/
def fifoBytes : Nat := 2048

/-- PORT_FRAME_RECEIVED (R503): length and check are tested in the FIFO. -/
def execPortFrameReceived (t p : Nat) (f : NetFrame) (s : State) : Host.Outcome State Fault Refusal :=
  let s := start t s
  if 4 ≤ p ∨ ¬ s.netRuns ∨ ¬ bitAt s.net.link p then .next s
  else if f.bytes < 64 ∨ 1522 < f.bytes then .next (netDrop p 2 s)
  else if ¬ f.fcsOk then .next (netDrop p 1 s)
  else
    let s := lanHeard p s
    let fifo := nth s.net.ingress p []
    let used : Nat := fifo.foldl (fun n g => n + g.bytes) 0
    if fifoBytes < used + f.bytes then .next (netDrop p 0 s)
    else .next { s with net := { s.net with ingress := upd s.net.ingress p (fun l => l ++ [f]) } }

/-- A double-bit error in the switch buffer: the frame that held the word, if one did, is discarded and counted (R503, fault 21 of R624). Which frame it was is a free value. -/
def netBufferError (s : State) : State :=
  let d := s.draw
  let i := d.1.toNat % (d.2.net.held.length + 1)
  match d.2.net.held[i]? with
  | none => d.2
  | some f => netDrop f.from_ 1 { d.2 with net := { d.2.net with held := d.2.net.held.eraseIdx i } }

/-! ## Forwarding (R504) -/

/-- Ageing of a learned address (R504). -/
def ageNs : Nat := 300 * nsPerS

/-- Learn where a source address is, if the table has room (R504). -/
def learn (src : BitVec 48) (p : Nat) (s : State) : State :=
  let others := s.net.addrs.filter (fun a => a.1 != src)
  if others.length < 1024 then { s with net := { s.net with addrs := (src, p, s.up) :: others } } else s

/-- Ports of a mask whose link is up. -/
def State.upPorts (s : State) (m : BitVec 4) : BitVec 5 := (m &&& s.net.link).setWidth 5

/-- Output ports of a frame from an external port (R504): a known unicast goes to its port or to the controller; everything else to DP and to every port PORT_FWD allows. -/
def State.route (s : State) (p : Nat) (dst : BitVec 48) : BitVec 5 :=
  let dp : BitVec 5 := if bitAt s.image.net.dpPorts p then 16 else 0
  let fwd := setBit (nth s.image.net.portFwd p 0) p false
  let own := (s.hasAddress && dst == s.unitAddr.mac) || (s.net.activeIp && dst == s.image.net.activeMac)
  if own then dp
  else
    let multicast := bitAt dst 40
    match (if multicast then none else assoc s.net.addrs dst) with
    | some (q, _) => if bitAt fwd q then s.upPorts (setBit (0 : BitVec 4) q true) else 0
    | none => s.upPorts fwd ||| dp

/-! ## PRP (R510 to R513) -/

/-- The window of duplicate discard (R512). -/
def prpWindow : Nat := 400 * nsPerMs

/-- A frame with a trailer reaches DP: whether it is the first copy, and the table with it (R512). -/
def prpTake (src : BitVec 48) (seq : Nat) (tab : List PrpSource) (up : Nat) : Bool × List PrpSource :=
  match tab.find? (fun e => e.mac == src) with
  | some e =>
    let live := e.seqs.filter (fun q => decide (up < q.2 + prpWindow))
    let dup := live.any (fun q => q.1 == seq)
    (!dup, tab.map (fun g => if g.mac == src then { g with seqs := if dup then live else (seq, up) :: live, used := up } else g))
  | none =>
    let tab := if tab.length < 256 then tab
      else match tab.foldl (fun (b : Option PrpSource) e => match b with | some x => if e.used < x.used then some e else some x | none => some e) none with
        | some old => dropFirst (fun e => e.mac == old.mac) tab
        | none => tab
    (true, tab ++ [{ mac := src, seqs := [(seq, up)], used := up }])

/-- Counting of a frame with a trailer, and duplicate discard at DP (R512); answers whether the frame is delivered to DP. -/
def prpAtDp (p : Nat) (src : BitVec 48) (trailer : Option (Nat × Bool)) (s : State) : Bool × State :=
  match trailer with
  | none => (true, s)
  | some (seq, lanB) =>
    if ¬ s.paired p then (true, s)
    else
      let wrong := lanB != (p % 2 == 1)
      let r := prpTake src seq s.net.prpTab s.up
      (r.1, { s with net := { s.net with
                prpTab := r.2
                lans := upd s.net.lans p (fun c => { c with received := satAdd c.received 1 65535, duplicate := c.duplicate + b2n (!r.1), wrong := satAdd c.wrong (b2n wrong) 255 }) } })

/-- Ports a frame of the controller leaves by: both of a pair, but for PTP (R511, R77). -/
def State.pairPorts (s : State) (cls : FrameClass) (m : BitVec 4) : BitVec 4 :=
  if cls = .ptp then m
  else
    let a : BitVec 4 := if bitAt m 0 || bitAt m 1 then 3 else 0
    let b : BitVec 4 := if s.image.net.prp2 then (if bitAt m 2 || bitAt m 3 then 12 else 0) else m &&& 12
    a ||| b

/-- Bytes of the redundancy control trailer (R511). -/
def rctBytes : Nat := 6

/-- A frame of the controller is admitted from DP: a frame to a pair takes the pair's next sequence number and its trailer (R511). -/
def admitDp (f : DpFrame) (s : State) : State :=
  let m := s.pairPorts f.cls f.ports
  let pair0 : Bool := f.cls != .ptp && bitAt m 0
  let pair1 : Bool := f.cls != .ptp && s.image.net.prp2 && bitAt m 2
  let step := fun (b : Bool) (n : Nat) => if b then (n + 1) % 65536 else n
  let s := { s with net := { s.net with prpSeq := upd (upd s.net.prpSeq 0 (step pair0)) 1 (step pair1) } }
  linkFrame 4 f.cls (if pair0 || pair1 then f.bytes + rctBytes else f.bytes) (s.upPorts m) s

/-- A checked frame of an external port is admitted (R504, R507, R512). -/
def admitExternal (p : Nat) (f : NetFrame) (s : State) : State :=
  let ports := s.route p f.dst
  let s := learn f.src p s
  let r : Bool × State := if bitAt ports 4 then prpAtDp p f.src f.prp s else (true, s)
  linkFrame p f.cls f.bytes (if r.1 then ports else setBit ports 4 false) r.2

/-- The first of the FIFOs and DP, in rotation from a turn, that holds a frame. -/
def Net.nextTurn (n : Net) : Option Nat :=
  ((List.range 5).map (fun i => (n.turn + i) % 5)).find?
    (fun p => if p = 4 then !n.dp.isEmpty else !(nth n.ingress p []).isEmpty)

/-- FRAME_ADMISSION (R507): the next frame in rotation is admitted whole, or refused. -/
def execFrameAdmission (t : Nat) (s : State) : Host.Outcome State Fault Refusal :=
  let s := start t s
  if ¬ s.netRuns then .next s
  else
    match s.net.nextTurn with
    | none => .next s
    | some p =>
      let s := { s with net := { s.net with turn := (p + 1) % 5 } }
      if p = 4 then
        match s.net.dp with
        | [] => .next s
        | f :: fs => .next (admitDp f { s with net := { s.net with dp := fs } })
      else
        match nth s.net.ingress p [] with
        | [] => .next s
        | f :: fs => .next (admitExternal p f { s with net := { s.net with ingress := put s.net.ingress p fs } })

/-- The frame an output queue sends next: the first of the highest class (R505). -/
def Net.headOf (n : Net) (p : Nat) : Option Nat :=
  let idx := fun (c : FrameClass) => n.held.findIdx? (fun f => f.cls == c && bitAt f.ports p)
  match idx .ptp with
  | some i => some i
  | none => match idx .ctrl with
    | some i => some i
    | none => idx .bulk

/-- FRAME_TRANSMITTED (R505, R506): a port sends the head of its queue; the last port of a frame returns its credits. At 1 Gbit/s a byte takes 8 ns (R502), so the first bit left 8 ns a byte before the end. -/
def execFrameTransmitted (t p : Nat) (s : State) : Host.Outcome State Fault Refusal :=
  let s := start t s
  if 5 ≤ p ∨ ¬ s.netRuns ∨ (p < 4 ∧ ¬ bitAt s.net.link p) then .next s
  else
    match s.net.headOf p with
    | none => .next s
    | some i =>
      let bytes : Nat := match s.net.held[i]? with | some f => f.bytes | none => 0
      let held := (upd s.net.held i (fun f => { f with ports := setBit f.ports p false })).filter (fun f => f.ports != 0)
      let s := { s with net := { s.net with held := held } }
      .next (if p < 4 then emit (.portFrame p bytes (shortStamp (s.sysNow - 8 * bytes))) s else s)

/-- ADDRESS_AGEING (R504): entries not renewed for 300 s are removed. -/
def execAddressAgeing (t : Nat) (s : State) : Host.Outcome State Fault Refusal :=
  let s := start t s
  .next { s with net := { s.net with addrs := s.net.addrs.filter (fun a => decide (s.up < a.2.2 + ageNs)) } }

/-- Bytes of a supervision frame, before its trailer (R513): the least Ethernet frame. -/
def supervisionBytes : Nat := 64

/-- PRP_SUPERVISION_SEND (R513): every 2 s, on each LAN of each pair. -/
def execPrpSupervisionSend (t : Nat) (s : State) : Host.Outcome State Fault Refusal :=
  let s := start t s
  if ¬ s.controllerOn ∨ s.up < s.net.supUp + 2 * nsPerS then .next s
  else
    let s := { s with net := { s.net with supUp := s.up } }
    let s := dpSend .ctrl supervisionBytes 3 (emit (.prpSupervision 1) (emit (.prpSupervision 0) s))
    .next (if s.image.net.prp2 then dpSend .ctrl supervisionBytes 12 (emit (.prpSupervision 3) (emit (.prpSupervision 2) s)) else s)

/-- PRP_LAN_LOST (R513): nothing received on a LAN for 6 s. -/
def execPrpLanLost (t l : Nat) (s : State) : Host.Outcome State Fault Refusal :=
  let s := start t s
  let heard := nth s.net.heard l none
  if 4 ≤ l ∨ ¬ s.paired l ∨ ¬ s.netRuns ∨ (heard.isSome ∧ ¬ bitAt s.net.lanOk l) ∨ s.up < heard.getD 0 + 6 * nsPerS then .next s
  else
    let s := { s with net := { s.net with lanOk := setBit s.net.lanOk l false, heard := put s.net.heard l (some (heard.getD 0)) } }
    .next (record 0x0E02 5 (l / 2) (l % 2) 0 s.tickNo s)

/-! ## ACTIVE_IP, ARP and ICMP (R515, R516) -/

/-- Two gratuitous ARP frames for ACTIVE_IP on every port of DP_PORTS, and NET_ACTIVE_IP (R515). -/
def claimActiveIp (s : State) : State :=
  if ¬ s.hasAddress then s
  else
    let one := fun (s : State) =>
      dpSend .bulk 64 s.image.net.dpPorts (emit (.arp true s.image.net.activeIp s.image.net.activeMac s.image.net.dpPorts) s)
    let s := one (one { s with net := { s.net with activeIp := true } })
    record 0x0E06 4 1 s.pin.strapRole 0 s.tickNo s

/-- The unit no longer answers for ACTIVE_IP. -/
def releaseActiveIp (s : State) : State :=
  if s.net.activeIp then record 0x0E06 4 0 s.pin.strapRole 0 s.tickNo { s with net := { s.net with activeIp := false } } else s

/-- The address by which an IP address is answered, if it is (R515). -/
def State.answers (s : State) (ip : Word) : Option (BitVec 48) :=
  if ¬ s.controllerOn then none
  else if ip = s.unitAddr.ip then some s.unitAddr.mac
  else if ip = s.image.net.activeIp ∧ s.takesWrites then some s.image.net.activeMac
  else none

/-- ARP_REQUEST (R515, R516) on an external port. -/
def execArpRequest (t p : Nat) (ip : Word) (s : State) : Host.Outcome State Fault Refusal :=
  let s := start t s
  if 4 ≤ p ∨ ¬ bitAt s.image.net.dpPorts p then .next s
  else
    match s.answers ip with
    | none => .next s
    | some mac => .next (dpSend .bulk 64 (setBit (0 : BitVec 4) p true) (emit (.arp false ip mac (setBit (0 : BitVec 4) p true)) s))

/-- ICMP_ECHO (R516): answered when ICMP_EN is set. -/
def execIcmpEcho (t : Nat) (ip : Word) (id seq : Nat) (s : State) : Host.Outcome State Fault Refusal :=
  let s := start t s
  match (if s.image.net.icmp then s.answers ip else none) with
  | none => .next s
  | some _ => .next (dpSend .bulk 64 s.image.net.dpPorts (emit (.icmpEcho id seq) s))

end Sys2Proof.Machine
end

