-- ==== Sys2Proof/Machine/Flags.lean ====
section
/-! DEFINITION. Status and count words: what each register of the spec's register index shows, composed from the state. A register's offset is counted from its block's base; an offset that holds none answers none (R16 to R19, R61, R118, R167, R199, R243, R292, R347, R406, R451, R501, R550, R638, R661, R697, R731, R767). -/

namespace Sys2Proof.Machine

open Sys2Proof

/-- The index of an array of registers at an offset: base, stride, number of elements. -/
def arr (base stride n off : Nat) : Option Nat :=
  if base ≤ off ∧ (off - base) % stride = 0 ∧ (off - base) / stride < n then some ((off - base) / stride) else none

/-- The index and the word inside it, for an array of records of some words each. -/
def arrW (base stride n words off : Nat) : Option (Nat × Nat) :=
  let i := (off - base) / stride
  let w := (off - base) % stride / 4
  if base ≤ off ∧ off % 4 = 0 ∧ i < n ∧ w < words then some (i, w) else none

/-- The first of two that answers. -/
def orElse {α : Type} (a b : Option α) : Option α := match a with | some x => some x | none => b

/-! ## SYS, CLK, TKS -/

def State.sysReg (s : State) (off : Nat) : Option Word :=
  match off with
  | 0x00 => some s.healthWord
  | 0x10 => some (wordN s.sys.eccCorrCnt)
  | 0x14 => some s.sys.eccUncorrAddr
  | _ => none

/-- CLK_STATUS (R61). -/
def State.clkStatus (s : State) : Word :=
  packWord [(16, 14, s.clk.lost.toNat), (0, 14, (s.clk.running &&& ~~~s.clk.lost).toNat)]

/-- TKS_STATUS (R61). -/
def State.tksStatus (s : State) : Word :=
  packWord [(16, 16, s.tks.periodNs - 999000), (8, 3, s.tks.lastMiss), (6, 2, s.tks.missRun), (5, 1, b2n (s.tks.phaseErr != 0)),
    (4, 1, b2n s.tks.running), (0, 3, if s.tks.running then s.tks.phase else 0)]

/-- TKS registers; `p` is the access path of the frozen TICK_HI. -/
def State.tksReg (s : State) (p : Path) (off : Nat) : Option Word :=
  match off with
  | 0x00 => some (wordN s.tickNo)
  | 0x04 => some s.tksStatus
  | 0x08 => some (packWord ((List.range 8).map (fun i => (4 * i, 4, nth s.tks.missCnt i 0))))
  | 0x0C => some (packWord [(0, 16, (assoc s.tks.frozenHi p).getD (s.tks.tickExt / 2 ^ 32))])
  | _ => match arr 0x20 4 8 off with
    | some n => some (packWord [(0, 16, nth s.tks.phaseMax n 0)])
    | none => none

/-! ## SAF -/

/-- SAF_STATUS (R638). The reset value has FAULT and ALARM 0, so both read 0 until S1 has passed (DEDUCED from R767). -/
def State.safStatus (s : State) : Word :=
  packWord [(31, 1, b2n s.saf.spOk), (30, 1, b2n s.saf.safeOk), (29, 1, b2n s.saf.claimsLocked), (28, 1, b2n s.saf.fwLocked), (27, 1, b2n (s.saf.s1Passed && s.faultOut)),
    (26, 1, b2n (s.saf.s1Passed && s.alarmOut)), (25, 1, b2n s.saf.outenRead), (24, 1, b2n s.saf.outenDrive), (22, 2, s.classPresent), (21, 1, b2n s.handoverReq)]

/-- SAF_ROLE (R638). -/
def Saf.role (f : Saf) : Word := packWord [(31, 1, b2n f.roleConfirmed), (28, 3, f.roleCause), (20, 8, f.roleRefusals)]

/-- SAF_VMON: rails CORE, SERDES, VDDA, IO18, IO33 from bit 0 (R638). -/
def Saf.vmonWord (f : Saf) : Word := packWord ((List.range 5).map (fun i => (2 * i, 2, nth f.vmon i 0)))

/-- SAF_FREEZE_CAUSE_m (R638). -/
def Saf.freezeWord (f : Saf) (m : Nat) : Word :=
  let i := nth f.freeze m {}
  packWord [(29, 3, i.cause), (28, 1, b2n i.write), (0, 28, i.tick)]

def State.safReg (s : State) (off : Nat) : Option Word :=
  match off with
  | 0x00 => some s.safStatus
  | 0x04 => some s.saf.gate0
  | 0x08 => some s.saf.gate1
  | 0x0C => some (packWord [(0, 17, s.saf.frozen.toNat)])
  | 0x10 => some (packWord [(0, 22, s.saf.present.toNat)])
  | 0x14 => some (packWord [(0, 22, s.saf.latch.toNat)])
  | 0x18 => some (packWord [(0, 22, s.saf.unack.toNat)])
  | 0x1C => some s.saf.role
  | 0x20 => some s.saf.vmonWord
  | 0x24 => some (packWord [(16, 2, s.saf.tempBand), (0, 16, (wordI s.saf.tj).toNat)])
  | 0x80 => some 0
  | _ =>
    match arr 0x100 4 17 off, arr 0x200 4 17 off, arr 0x280 4 17 off with
    | some m, _, _ => if m = 6 then none else some 0
    | _, some m, _ => some (s.saf.freezeWord m)
    | _, _, some m => some (nth s.saf.freeze m {}).detail
    | _, _, _ => none

/-! ## TIM -/

/-- TIM_STATUS (R118). -/
def State.timStatus (s : State) : Word :=
  packWord [(18, 2, s.tim.sel), (17, 1, b2n s.tim.betterSince.isSome), (16, 1, b2n s.tim.residSlew.isSome), (11, 1, b2n (nth s.tim.tp 1 {}).run),
    (10, 1, b2n (nth s.tim.tp 0 {}).run), (9, 1, b2n s.tim.b.gm), (8, 1, b2n s.tim.a.gm), (4, 4, domCode s.tim.b.state), (0, 4, domCode s.tim.a.state)]

/-- System time slews: its residual, or the domain it rests on, does (R92, R101). -/
def State.slewing (s : State) : Bool :=
  s.tim.residSlew.isSome || (decide (s.tim.sel < 2) && (s.dom s.tim.sel).slew.isSome)

/-- Class and accuracy of the tick source; the backup counter is no grandmaster (R118). -/
def State.timeClass (s : State) : Nat × Nat :=
  if s.tim.sel < 2 then ((s.dom s.tim.sel).gmClass, (s.dom s.tim.sel).gmAcc) else (255, 254)

/-- TIM_QUALITY (R118). -/
def State.timQuality (s : State) : Word :=
  packWord [(24, 8, s.timeClass.1), (16, 8, s.timeClass.2), (11, 1, b2n s.tim.utc.valid), (10, 1, b2n s.stepped), (9, 1, b2n s.slewing),
    (8, 1, b2n (s.tim.sel == 1)), (0, 4, domCode s.tim.selState)]

/-- TIM_UTC (R118). -/
def State.timUtc (s : State) : Word :=
  packWord [(31, 1, b2n s.tim.utc.valid), (30, 1, b2n (s.leapNow true)), (29, 1, b2n (s.leapNow false)), (26, 3, s.tim.utc.source), (0, 16, (wordI s.tim.utc.taiUtc).toNat)]

/-- TIM_DOM_STATUS_n (R118). -/
def State.domStatus (s : State) (n : Nat) : Word :=
  let d := s.dom n
  let held := if d.state = .holdover ∨ d.state = .freerun then min 65535 (d.holdNs s.up / nsPerS) else 0
  packWord [(16, 16, held), (8, 8, d.gmClass), (6, 2, d.port), (5, 1, b2n d.gm), (4, 1, b2n d.stepPending.isSome), (3, 1, b2n d.slew.isSome), (0, 3, domCode d.state)]

/-- TIM_TP_STATUS (R118). -/
def State.tpStatus (s : State) : Word :=
  let src := match s.image.time.tp1Source with | .off => 0 | .system => 1 | .a => 2 | .b => 3
  packWord [(24, 8, (nth s.tim.tp 1 {}).omit_), (16, 8, (nth s.tim.tp 0 {}).omit_), (4, 2, src), (3, 1, b2n s.tpHeld), (2, 1, b2n s.tpHeld),
    (1, 1, b2n (nth s.tim.tp 1 {}).run), (0, 1, b2n (nth s.tim.tp 0 {}).run)]

/-- The last capture of an event input: its short stamp, and its seconds word (R118). -/
def EvtIn.lastWords (e : EvtIn) : Word × Word :=
  (e.lastSs, packWord [(17, 1, b2n e.lastStepped), (16, 1, b2n e.lastFall), (0, 16, e.lastSec)])

/-- System time as it reads, 0 before it is loaded at S9. -/
def State.timNow (s : State) : Nat := if s.tim.loaded then s.sysNow else 0

def State.timReg (s : State) (p : Path) (off : Nat) : Option Word :=
  let secs := (assoc s.tim.shadow p).getD (s.timNow / nsPerS)
  match off with
  | 0x00 => some s.timStatus
  | 0x04 => some s.timQuality
  | 0x08 => some (wordN (s.timNow % nsPerS))
  | 0x0C => some (wordN secs)
  | 0x10 => some (packWord [(0, 16, secs / 2 ^ 32)])
  | 0x14 => some (wordI (sat31 s.tim.residual))
  | 0x18 => some (wordI (if s.tim.a.state = .none ∨ s.tim.b.state = .none then 0 else sat31 s.tim.abDiff))
  | 0x1C => some s.timUtc
  | 0x80 => some s.tpStatus
  | _ =>
    match arrW 0x40 0x10 2 3 off, arrW 0xC0 0x10 8 3 off with
    | some (n, w), _ => some (match w with | 0 => s.domStatus n | 1 => wordI (sat31 (s.dom n).offset) | _ => wordI (s.dom n).freq)
    | _, some (n, w) =>
      let e := nth s.tim.evt n {}
      let l := (assoc s.tim.evtFrozen (p, n)).getD e.lastWords
      some (match w with | 0 => packWord [(16, 16, e.lost), (0, 16, e.count)] | 1 => l.1 | _ => l.2)
    | _, _ => none

/-! ## GNB -/

/-- Channel state codes (R126). -/
def chanCode : ChanState → Nat
  | .idle => 0 | .pullIn => 1 | .track1ms => 2 | .track => 3 | .reacq => 4

/-- GNB_STATUS (R167). -/
def State.gnbStatus (s : State) : Word :=
  let acq := s.gnb.acq
  packWord [(20, 4, (maskOf 4 (fun a => (nth s.gnb.ants a {}).lost)).toNat), (18, 2, s.gnb.sol.attMode), (15, 3, s.gnb.sol.solType), (14, 1, b2n acq.isSome),
    (12, 2, match acq with | some q => q.ant | none => 0), (11, 1, match acq with | some q => b2n q.aided | none => 0),
    (4, 7, (s.gnb.chans.filter Chan.tracks).length), (0, 4, s.gnssImg.antEn.toNat)]

/-- GNB_ANT_STATUS_n (R167). -/
def State.antStatus (s : State) (a : Nat) : Word :=
  let x := nth s.gnb.ants a {}
  packWord [(24, 8, x.magI), (16, 8, x.magQ), (10, 1, b2n x.feFail), (9, 1, b2n x.stuck), (8, 1, b2n x.interf), (7, 1, b2n x.lost), (6, 1, b2n x.baseFixed),
    (0, 5, ((chansOf a).filter (fun c => (s.chan c).tracks)).length)]

/-- GNB_CH_STATUS_n (R167). -/
def State.chanStatus (s : State) (c : Nat) : Word :=
  let x := s.chan c
  packWord [(26, 6, if x.state = .idle then 0 else x.prn), (23, 3, chanCode x.state), (13, 10, min 1023 x.cn0), (0, 8, x.slips)]

/-- GNB_RTCM_STATUS (R167). -/
def State.rtcmStatus (s : State) : Word :=
  let age := match s.gnb.last1004 with | some u => min 255 ((s.up - u) / nsPerS) | none => 255
  packWord [(20, 12, s.gnb.station), (12, 8, age), (8, 4, s.gnb.errCnt), (4, 4, s.gnb.ignCnt)]

/-- The epoch header (R145). -/
def epochWord (h : EpochHdr) (w : Nat) : Word :=
  match w with
  | 0 => wordN h.tickNo
  | 1 => wordN (h.latch % nsPerS)
  | 2 => wordN (h.latch / nsPerS)
  | 3 => packWord [(17, 1, b2n h.tmaLost), (16, 1, b2n h.stepped), (0, 16, h.latch / nsPerS / 2 ^ 32)]
  | 4 => wordN h.nValid
  | 5 => wordI h.feFreq
  | _ => 0

/-- The solution record (R163). -/
def navWord (r : NavSol) (w : Nat) : Word :=
  match w with
  | 0 => wordN r.tickNo
  | 1 => wordI r.lat | 2 => wordI r.lon | 3 => wordI r.hgt
  | 4 => wordI r.vn | 5 => wordI r.ve | 6 => wordI r.vd
  | 7 => r.hdg | 8 => r.pitch | 9 => r.roll
  | 10 => packWord [(29, 3, r.solType), (27, 2, r.ant), (25, 2, r.attMode), (20, 5, r.nsv), (4, 16, r.hdop), (0, 4, r.antUse.toNat)]
  | 11 => packWord [(16, 16, r.sigH), (0, 16, r.sigHdg)]
  | 12 => packWord [(16, 16, r.sigV), (0, 16, r.sigPr)]
  | 13 => wordI (sat31 r.clkOfs)
  | 14 => packWord [(20, 12, r.corrStation), (8, 12, r.corrAge)]
  | _ => 0

def State.gnbReg (s : State) (off : Nat) : Option Word :=
  match off with
  | 0x0000 => some s.gnbStatus
  | 0x0200 => some (wordN s.gnb.hdr.tickNo)
  | 0x0210 => some s.rtcmStatus
  | _ =>
    match arr 0x10 4 4 off, arr 0x100 4 64 off, arrW 0x1000 0x20 1 8 off, arrW 0x1020 0x20 64 8 off, arrW 0x2000 0x40 1 16 off with
    | some a, _, _, _, _ => some (s.antStatus a)
    | _, some c, _, _, _ => some (s.chanStatus c)
    | _, _, some (_, w), _, _ => some (epochWord s.gnb.hdr w)
    | _, _, _, some (c, w), _ => some (nth (nth s.gnb.recs c []) w 0)
    | _, _, _, _, some (_, w) => some (navWord s.gnb.sol w)
    | _, _, _, _, _ => none

/-! ## STR and FUS -/

/-- STR_STATUS (R243). -/
def State.strStatus (s : State) : Word :=
  let l := s.ctxsDefined
  packWord [(23, 9, l.length), (14, 9, (l.filter (fun c => (s.ctx c).mask != 0)).length), (6, 8, min 255 (l.filter (fun c => bitAt (s.ctx c).mask 1)).length),
    (0, 6, (s.str.groups.filter (·.triggered)).length)]

/-- Codes of SRC_TYPE (R243). -/
def srcCode : StreamSrc → Nat
  | .filter _ => 0 | .sentence _ _ => 1 | .template _ _ => 2 | .can _ => 3 | .point _ => 4 | .encoder _ => 5 | .gnss _ => 6

/-- Seconds counted towards MASK_HOLD, of the set cause counted longest (R216, R243). -/
def State.holdSeconds (s : State) (c : Nat) : Nat :=
  let x := s.ctx c
  (List.range 5).foldl (fun n i =>
    match nth x.holdSince i none with
    | some u => if bitAt x.mask i then max n ((s.up - u) / nsPerS) else n
    | none => n) 0

/-- STR_CTX_STATUS_n (R243). -/
def State.ctxStatus (s : State) (c : Nat) : Word :=
  let x := s.ctx c
  match s.ctxCfg c with
  | none => 0
  | some k => packWord [(28, 4, kindCode k.kind), (25, 3, srcCode k.src), (24, 1, 1), (23, 1, b2n x.clockOdd), (18, 5, x.mask.toNat), (8, 8, x.conf), (0, 8, min 255 (s.holdSeconds c))]

/-- STR_GROUP_STATUS_g (R243). -/
def State.groupStatus (s : State) (g : Nat) : Word :=
  let x := nth s.str.groups g {}
  let mode := match (nth s.image.streams.groups g {}).mode with | .main => 0 | .auto => 1 | .triggered => 2
  packWord [(30, 2, mode), (29, 1, b2n x.triggered), (25, 4, (x.misses.filter id).length), (18, 7, x.pending.length), (10, 8, min 255 x.lagMs), (2, 8, min 255 x.overflow)]

def State.strReg (s : State) (off : Nat) : Option Word :=
  if off = 0 then some s.strStatus
  else if off = 0x40 then some 0
  else
    match arr 0x10 4 8 off, arr 0x100 4 32 off, arr 0x200 4 12 off, arrW 0x1000 0x10 256 4 off with
    | some n, _, _, _ => some ((maskOf 32 (fun b => (s.ctx (32 * n + b)).mask != 0)))
    | _, some g, _, _ => some (s.groupStatus g)
    | _, _, some u, _ => some (packWord [(16, 16, nth s.str.uartAcc u 0), (8, 8, nth s.str.uartRej u 0), (0, 8, nth s.str.uartIgn u 0)])
    | _, _, _, some (c, w) =>
      let x := s.ctx c
      some (match w with
        | 0 => s.ctxStatus c
        | 1 => wordN (x.latNs / 1000)
        | 2 => wordN x.lastTick
        | _ => packWord [(16, 16, x.samples), (8, 8, x.unmatched), (0, 8, x.duplicate)])
    | _, _, _, _ => none

/-- FUS_STATUS (R292). -/
def State.fusStatus (s : State) : Word :=
  packWord [(29, 3, (s.arb 0).state), (26, 3, (s.arb 1).state), (25, 1, b2n s.fus.state.retro), (24, 1, b2n s.fus.draughtHeld), (16, 8, s.fus.state.posConf),
    (8, 8, s.fus.state.hdgConf), (0, 7, (s.fus.trks.filter (fun t => decide (2 ≤ t.state))).length)]

/-- FUS_REF_STATUS_r (R292). -/
def State.refStatus (s : State) (r : Nat) : Word :=
  match s.refCfg r with
  | none => 0
  | some k =>
    let x := nth s.fus.refs r {}
    packWord [(31, 1, 1), (30, 1, b2n k.heading), (29, 1, b2n (s.refAvail r)), (28, 1, b2n x.suspended), (27, 1, b2n x.outlier), (23, 4, s.refRank r), (0, 16, min 65535 x.d)]

/-- FUS_TRK_STATUS_t (R292). -/
def Track.statusWord (t : Track) : Word :=
  packWord [(30, 2, t.state), (29, 1, b2n t.anchored), (28, 1, b2n t.drAnchor), (24, 4, t.refNo), (16, 8, t.conf),
    (11, 5, (maskOf 5 (fun i => nth t.hits (4 - i) false)).toNat), (8, 3, t.missRun), (0, 8, t.target)]

/-- The state record (R287). -/
def FusRec.word (r : FusRec) (w : Nat) : Word :=
  match w with
  | 0 => wordN r.tickNo
  | 1 => wordI r.north | 2 => wordI r.east | 3 => wordI r.heading | 4 => wordI r.surge | 5 => wordI r.sway | 6 => wordI r.yawRate
  | 7 => wordI r.biasN | 8 => wordI r.biasE | 9 => wordI r.biasMz | 10 => wordI r.waveN | 11 => wordI r.waveE | 12 => wordI r.waveHdg
  | 13 => packWord [(16, 16, min 65535 r.sigN), (0, 16, min 65535 r.sigE)]
  | 14 => packWord [(16, 16, min 65535 r.sigHdg), (8, 8, r.posConf), (0, 8, r.hdgConf)]
  | _ => packWord [(31, 1, b2n r.retro), (28, 3, r.posArb), (25, 3, r.hdgArb), (24, 1, b2n r.sat), (23, 1, b2n r.far), (22, 1, b2n r.held), (0, 16, min 65535 r.retroAge)]

/-- The draught record; the filtered draught and trim are rounded from their fractions (R284 to R287). -/
def Fus.draughtWord (f : Fus) (w : Nat) : Word :=
  match w with
  | 0 => wordI (roundAway (f.mean.getD 0) (2 ^ 32))
  | 1 => wordI (roundAway f.trim (2 ^ 32))
  | 2 => wordI f.massFactor
  | _ => wordI (nth f.slotDraught (w - 3) 0)

/-- The track window (R288). -/
def Track.word (t : Track) (w : Nat) : Word :=
  if t.state = 0 then 0 else wordI (match w with | 0 => t.n | 1 => t.e | 2 => t.vn | _ => t.ve)

def State.fusReg (s : State) (off : Nat) : Option Word :=
  match off with
  | 0x00 => some s.fusStatus
  | 0x04 => some (packWord [(16, 16, min 65535 s.fus.lateDrop), (0, 16, min 65535 s.fus.replays)])
  | 0x08 => some (packWord [(16, 11, min 1023 s.fus.maxDepth), (0, 16, min 65535 s.fus.maxSamples)])
  | 0x10 => some 0
  | _ =>
    match arr 0x100 4 16 off, arr 0x200 4 64 off, arrW 0x1000 0x40 1 16 off, arrW 0x1040 0x4C 1 19 off, arrW 0x2000 0x10 64 4 off with
    | some r, _, _, _, _ => some (s.refStatus r)
    | _, some t, _, _, _ => some (s.trk t).statusWord
    | _, _, some (_, w), _, _ => some (s.fus.state.word w)
    | _, _, _, some (_, w), _ => some (s.fus.draughtWord w)
    | _, _, _, _, some (t, w) => some ((s.trk t).word w)
    | _, _, _, _, _ => none

/-! ## DFC and PCL -/

/-- DFC_BANK_INFO_b (R199). -/
def State.bankInfo (s : State) (b : Nat) : Word :=
  match s.bankOf b with
  | none => 0
  | some k => packWord [(31, 1, match k.type with | .linear => 0 | .minphase => 1), (30, 1, 1), (27, 3, k.stride - 1), (19, 8, k.coef.length - 1), (0, 19, k.trim)]

/-- DFC_CH_STATUS_n (R199). -/
def State.dfcStatus (s : State) (n : Nat) : Word :=
  let c := nth s.dfc.chs n {}
  packWord [(29, 3, c.bank), (26, 3, if c.fading then c.target else 0), (23, 3, match c.queued with | some q => q.bank | none => 0), (22, 1, b2n c.queued.isSome),
    (21, 1, b2n c.fading), (14, 7, if c.fading then c.fadeLen - c.fadeI else 0), (10, 4, c.settle), (9, 1, b2n c.stuck), (0, 8, c.satCnt)]

/-- The output record of a channel (R199). -/
def DfcOut.word (o : DfcOut) (w : Nat) : Word :=
  match w with
  | 0 => wordI o.value
  | _ => packWord [(31, 1, b2n o.valid), (30, 1, b2n o.unsettled), (29, 1, b2n o.fading), (28, 1, b2n o.stuck), (27, 1, b2n o.sat), (26, 1, b2n o.step), (23, 3, o.bank),
      (16, 7, o.settleLeft), (0, 16, o.delay)]

def State.dfcReg (s : State) (off : Nat) : Option Word :=
  match off with
  | 0x00 => some (packWord [(24, 4, s.dfc.sdClkRun.toNat), (8, 8, s.dfc.roundEnd), (0, 6, popCount s.dfc.chEn)])
  | 0x04 => some s.dfc.chEn
  | 0x08 => some (maskOf 32 (fun k => (nth s.dfc.win k {}).unsettled))
  | 0x0C => some (maskOf 32 (fun k => (nth s.dfc.chs k {}).stuck))
  | 0x10 => some 0
  | 0x14 => some 0
  | _ =>
    match arr 0x80 4 8 off, arr 0x100 4 32 off, arrW 0x1000 0x10 1 4 off, arrW 0x1010 8 32 2 off with
    | some b, _, _, _ => some (s.bankInfo b)
    | _, some n, _, _ => some (s.dfcStatus n)
    | _, _, some (_, w), _ => some (match w with | 0 => wordN s.dfc.roundTick | 1 => wordN (popCount s.dfc.chEn) | _ => 0)
    | _, _, _, some (k, w) => some ((nth s.dfc.win k {}).word w)
    | _, _, _, _ => none

/-- PCL_STATUS (R347). -/
def State.pclStatus (s : State) : Word :=
  let p := s.pcl
  packWord [(29, 3, p.mode), (28, 1, b2n p.blend.isSome), (27, 1, b2n p.joyValid), (26, 1, b2n p.joyCentred), (25, 1, b2n p.windOn), (24, 1, b2n p.trackEnd),
    (21, 3, p.freeze.toNat), (18, 3, p.sat.toNat), (16, 2, p.exc), (8, 8, p.wp), (2, 6, p.target), (1, 1, b2n p.degraded)]

/-- PCL_WIND from the filtered wind (R347). -/
def Pcl.windWord (p : Pcl) : Word :=
  match p.wind with
  | none => 0
  | some (u, v) =>
    packWord [(16, 16, ((atan2W v u).toNat + 32768) / 65536), (0, 16, min 65535 (isqrt ((u * u + v * v).toNat) / (10 * 2 ^ 32)))]

/-- The demand record (R343). -/
def Demand.word (d : Demand) (w : Nat) : Word :=
  match w with
  | 0 => wordN d.tickNo
  | 1 => wordI (nth d.f 0 0) | 2 => wordI (nth d.f 1 0) | 3 => wordI (nth d.f 2 0)
  | 4 => wordI d.spN | 5 => wordI d.spE | 6 => wordI d.spH | 7 => wordI d.vN | 8 => wordI d.vE | 9 => wordI d.rate
  | 10 => packWord [(29, 3, d.mode), (26, 3, d.sat.toNat), (23, 3, d.freeze.toNat), (22, 1, b2n d.outer), (21, 1, b2n d.blend), (20, 1, b2n d.trackEnd)]
  | _ => wordI d.xtrack

def State.pclReg (s : State) (off : Nat) : Option Word :=
  match off with
  | 0x00 => some s.pclStatus
  | 0x04 => some s.pcl.gainReg
  | 0x40 => some s.pcl.windWord
  | _ =>
    match arrW 0x10 0x10 3 4 off, arrW 0x1000 0x30 1 12 off with
    | some (a, w), _ => some (match w with
        | 0 => wordI (nth s.pcl.err a 0)
        | 1 => wordI (nth s.pcl.integ a 0)
        | 2 => wordN (min 0xFFFFFFFF (nth s.pcl.kp a 0))
        | _ => wordI (nth s.pcl.dLast a 0))
    | _, some (_, w) => some (s.pcl.dem.word w)
    | _, _ => none

/-! ## ALS -/

/-- Structure slots in a state (R363, ALS_SLOTS). -/
def Als.slotsIn (a : Als) (st : Nat) : Nat := (a.slots.filter (fun x => x.state == st)).length

/-- ALS_SLOTS: FREE, LOADING, READY, ACTIVE (R406). -/
def Als.slotsWord (a : Als) : Word := packWord [(12, 4, a.slotsIn 3), (8, 4, a.slotsIn 2), (4, 4, a.slotsIn 1), (0, 4, a.slotsIn 0)]

/-- ALS_SLOT_k (R406). -/
def State.alsSlot (s : State) (k : Nat) : Word :=
  let x := nth s.als.slots k {}
  let avail := match nth s.alc.structs x.num none with | some c => c.avail.toNat | none => 0
  if x.state = 0 then 0 else packWord [(30, 2, x.state), (24, 6, x.num), (0, 16, avail)]

/-- ALS_CA_STATUS (R406). -/
def State.caStatus (s : State) : Word :=
  packWord [(16, 16, s.als.caRound), (11, 5, s.als.caCase), (10, 1, b2n s.als.caRun), (9, 1, b2n s.als.caStale), (8, 1, b2n s.als.caLate), (0, 6, s.alc.groups.length)]

/-- The allocation record (R390). -/
def State.alsWord (s : State) (w : Nat) : Word :=
  let r := s.als.record
  match w with
  | 0 => wordN r.tickNo
  | 1 => s.alsStatus
  | 2 => wordI (nth r.ach 0 0) | 3 => wordI (nth r.ach 1 0) | 4 => wordI (nth r.ach 2 0)
  | 5 => wordI (nth r.slack 0 0) | 6 => wordI (nth r.slack 1 0) | 7 => wordI (nth r.slack 2 0)
  | _ => wordI (if w % 2 = 0 then nth r.thrust ((w - 8) / 2) 0 else nth r.az ((w - 9) / 2) 0)

def State.alsReg (s : State) (off : Nat) : Option Word :=
  let a := s.als
  match off with
  | 0x00 => some s.alsStatus
  | 0x04 => some a.slotsWord
  | 0x08 => some (packWord [(16, 16, a.endNs / 10), (0, 16, a.coldNs / 10)])
  | 0x0C => some (packWord [(0, 16, a.endMax / 10)])
  | 0x10 => some (packWord [(16, 16, a.missIter), (0, 16, a.missDead)])
  | 0x14 => some (packWord [(16, 16, a.coldCnt), (8, 8, a.depCnt), (0, 8, a.ovfCnt)])
  | 0x18 => some (packWord [(22, 10, a.delta), (12, 10, a.applied), (2, 10, a.delta - a.applied)])
  | 0x40 => some s.caStatus
  | 0x44 => some a.alarmMask
  | 0x48 => some a.warnMask
  | 0x4C => some 0
  | _ =>
    match arr 0x20 4 3 off, arr 0x80 4 8 off, arrW 0x100 8 32 2 off, arrW 0x1000 0xA0 1 40 off with
    | some i, _, _, _ => some (wordI (nth a.record.slack i 0))
    | _, some k, _, _ => some (s.alsSlot k)
    | _, _, some (g, w), _ =>
      let r := nth a.caRes g {}
      some (if w = 0 then packWord [(20, 10, nth r.m 0 0), (10, 10, nth r.m 1 0), (0, 10, nth r.m 2 0)] else r.flags)
    | _, _, _, some (_, w) => some (s.alsWord w)
    | _, _, _, _ => none

/-! ## SRV and ENC -/

/-- PDIV_STATUS_p (R451). -/
def State.pdivStatus (s : State) (p : Nat) : Word :=
  let x := nth s.srv.pdivs p {}
  packWord [(15, 17, (BitVec.ofInt 17 x.owed).toNat), (4, 11, min 2047 x.lost), (2, 2, x.phase), (1, 1, b2n (s.saf.claimsLocked && !bitAt s.saf.gatePdiv p)), (0, 1, b2n (s.claimed (.pdiv p)))]

/-- SRV_AXIS_STATUS_x (R451). -/
def State.axisStatus (s : State) (x : Nat) : Word :=
  let a := nth s.srv.axes x {}
  let pi := x % 2 == 0 && (nth s.image.servo.axes x {}).pi
  packWord [(31, 1, b2n a.enabled), (30, 1, b2n a.fbLost), (29, 1, b2n a.sat), (28, 1, b2n a.follow), (27, 1, b2n a.longWay), (26, 1, b2n pi)]

/-- The latch of an encoder channel in the window (R451). -/
def EncLatch.word (l : EncLatch) (w : Nat) : Word :=
  match w with | 0 => l.count | 1 => wordI l.speed | 2 => l.edgeNs | _ => l.status

def State.srvReg (s : State) (off : Nat) : Option Word :=
  if off = 0 then some s.srvStatus
  else if off = 0x40 then some 0
  else
    match arrW 0x100 0x20 16 6 off, arr 0x400 4 4 off, arrW 0x800 0x10 32 4 off, arrW 0x1000 0x10 1 4 off, arrW 0x1010 0x10 16 4 off with
    | some (n, w), _, _, _, _ =>
      let c := s.enc n
      some (match w with
        | 0 => s.encStatus n
        | 1 => c.count
        | 2 => wordI (nth s.srv.lat n {}).speed
        | 3 => s.edgeNs n
        | 4 => c.indexPos
        | _ => packWord [(16, 16, c.qerr), (8, 8, c.capLost)])
    | _, some p, _, _, _ => some (s.pdivStatus p)
    | _, _, some (x, w), _, _ =>
      let a := nth s.srv.axes x {}
      some (match w with | 0 => s.axisStatus x | 1 => wordI a.sp | 2 => wordI a.fb | _ => wordI a.out)
    | _, _, _, some (_, w), _ => some (if w = 0 then wordN s.srv.winTick else 0)
    | _, _, _, _, some (n, w) => some ((nth s.srv.win n {}).word w)
    | _, _, _, _, _ => none

/-! ## MBC -/

/-- MBC_STATUS (R501). -/
def Mbc.status (m : Mbc) : Word :=
  let err := if m.errState = 3 then 2 else if m.errState = 2 then 1 else 0
  packWord [(30, 2, err), (29, 1, b2n (decide (96 ≤ m.tec ∨ 96 ≤ m.rec_))), (26, 3, m.mode), (25, 1, b2n m.failedOver.isSome), (24, 1, b2n m.recovering.isSome),
    (16, 8, min 255 m.rec_), (7, 9, min 256 m.tec)]

/-- MBC_BTIM_NOM and MBC_BTIM_DATA of a controller in use (R501). -/
def nomWord (k : MbcCfg) : Word :=
  packWord [(24, 8, k.nomBrp - 1), (16, 8, k.nomTseg1 - 1), (9, 7, k.nomTseg2 - 1), (2, 7, k.nomSjw - 1), (1, 1, b2n k.triple)]
def dataWord (k : MbcCfg) : Word :=
  packWord [(27, 5, k.dataBrp - 1), (22, 5, k.dataTseg1 - 1), (18, 4, k.dataTseg2 - 1), (14, 4, k.dataSjw - 1), (13, 1, b2n k.tdcEn), (6, 7, k.tdco)]

/-- The data length code of a number of bytes (ISO 11898-1). -/
def dlcOf (n : Nat) : Nat :=
  if n ≤ 8 then n else if n ≤ 12 then 9 else if n ≤ 16 then 10 else if n ≤ 20 then 11 else if n ≤ 24 then 12 else if n ≤ 32 then 13 else if n ≤ 48 then 14 else 15

/-- A frame in the buffer layout (R482). -/
def bufWord (f : CanFrame) (stamp : Word) (overrun busy : Bool) (entry w : Nat) : Word :=
  match w with
  | 0 => packWord [(31, 1, b2n f.ide), (30, 1, b2n f.fdf), (29, 1, b2n f.brs), (0, 29, if f.ide then f.id else f.id % 2048 * 2 ^ 18)]
  | 1 => packWord [(28, 4, dlcOf f.data.length), (27, 1, b2n f.esi), (26, 1, b2n overrun), (25, 1, b2n busy), (0, 9, entry)]
  | 18 => stamp
  | _ => packWord ((List.range 4).map (fun i => (24 - 8 * i, 8, (nth f.data (4 * (w - 2) + i) 0).toNat)))

/-- The drive map entry of a buffer. -/
def State.entryOfBuf (s : State) (n m : Nat) : Option Nat := (s.bufEntries n)[m]?

/-- A frame pending in a transmit buffer, and its staging. -/
def State.pendingTx (s : State) (n m : Nat) : Option CanTx :=
  let find := fun (k : Nat) => (s.mbc k).txq.find? (fun f => f.home == n && f.buf == m)
  match find n with
  | some f => some f
  | none => match s.partner n with | some q => find q | none => none

/-- MBC_BUF_STATUS_m (R501). -/
def State.bufStatus (s : State) (n m : Nat) : Word :=
  match s.entryOfBuf n m with
  | none => 0
  | some e =>
    let b := nth (s.mbc n).bufs m {}
    if (s.entry e).dir = .tx then
      let p := s.pendingTx n m
      let arb := match p with | some f => f.arbLost | none => b.arbLost
      let errs := match p with | some f => f.errs | none => b.errs
      packWord [(30, 2, 2), (29, 1, b2n p.isSome), (27, 1, match p with | some f => b2n f.staged.isSome | none => 0), (23, 3, b.outcome), (16, 7, min 127 arb),
        (12, 4, min 15 errs), (11, 1, b2n b.mapSat), (0, 9, e)]
    else packWord [(30, 2, 1), (29, 1, b2n b.unread), (28, 1, b2n b.lock.isSome), (27, 1, b2n b.shadow.isSome), (26, 1, b2n b.overrun), (0, 9, e)]

/-- A lock is held by another path than the reader's (R483). -/
def lockedByOther (l : Option (Path × Nat)) (p : Path) : Bool := match l with | some (q, _) => q != p | none => false

/-- A word of message buffer m; a transmit buffer shows its last frame, whose stamp is open. -/
def State.bufferWord (s : State) (p : Path) (n m w : Nat) : Word :=
  let b := nth (s.mbc n).bufs m {}
  match s.entryOfBuf n m with
  | none => 0
  | some e =>
    if (s.entry e).dir = .tx then
      match s.bus.last.find? (fun x => x.1 == e) with
      | some (_, f) => bufWord f (Config.freeWord s.draws) false false e w
      | none => if w = 1 then wordN e else 0
    else
      match b.frame with
      | some (f, st) => bufWord f st b.overrun (lockedByOther b.lock p) e w
      | none => if w = 1 then packWord [(25, 1, b2n (lockedByOther b.lock p)), (0, 9, e)] else 0

/-- A word of the FIFO head (R486). -/
def State.fifoWord (s : State) (p : Path) (n w : Nat) : Word :=
  match (s.mbc n).fifo with
  | (f, st) :: _ =>
    let e := (List.range s.busImg.entries.length).find? (fun e => (s.entry e).dir == .fifo && (s.entry e).mbc == n && idMatches (s.entry e) f)
    bufWord f st false (lockedByOther (s.mbc n).fifoLock p) (e.getD 0) w
  | [] => 0

/-- Frames pending now, with those in the staging (R496). -/
def Mbc.pending (m : Mbc) : Nat := m.txq.length + (m.txq.filter (fun f => f.staged.isSome)).length

/-- The latch of the frame counter as a path sees it (R490, R501). -/
def State.tsync (s : State) (p : Path) (n : Nat) : Word × Nat := (assoc s.bus.frozen (p, n)).getD (s.bus.latCnt, s.bus.latA)

def State.mbcReg (s : State) (p : Path) (n off : Nat) : Option Word :=
  let m := s.mbc n
  match off with
  | 0x00 => some m.status
  | 0x04 => some (if m.mode = 0 then 0 else nomWord (s.mbcCfg n))
  | 0x08 => some (if m.mode = 0 then 0 else dataWord (s.mbcCfg n))
  | 0x0C => some (packWord [(24, 8, m.errBit), (16, 8, m.errStuff), (8, 8, m.errCrc), (0, 8, m.errForm)])
  | 0x10 => some 0
  | 0x14 => some 0
  | 0x20 => some (wordN s.bus.latTick)
  | 0x24 => some (s.tsync p n).1
  | 0x28 => some (wordN ((s.tsync p n).2 % nsPerS))
  | 0x2C => some (wordN ((s.tsync p n).2 / nsPerS))
  | 0x30 => some (packWord [(16, 16, m.queued), (0, 16, m.sent)])
  | 0x34 => some (packWord [(16, 16, m.cancelled), (0, 16, m.expired)])
  | 0x38 => some (packWord [(16, 16, m.moved), (7, 9, m.pending)])
  | 0x40 => some (packWord [(16, 16, m.accepted), (0, 16, m.read)])
  | 0x44 => some (packWord [(16, 16, m.overwritten), (8, 8, (m.bufs.filter (·.unread)).length), (0, 8, (m.bufs.filter (fun b => b.shadow.isSome)).length)])
  | 0x48 => some (packWord [(16, 16, m.ignored), (0, 16, m.seqSkips)])
  | 0x4C => some (packWord [(16, 16, m.fifoDropped), (8, 1, b2n m.fifoLock.isSome), (0, 8, m.fifo.length)])
  | 0x50 => some (packWord [(0, 2, m.wake)])
  | _ =>
    match arr 0x200 4 64 off, arrW 0x1000 0x80 64 19 off, arrW 0x3000 0x80 1 19 off with
    | some b, _, _ => some (s.bufStatus n b)
    | _, some (b, w), _ => some (s.bufferWord p n b w)
    | _, _, some (_, w) => some (s.fifoWord p n w)
    | _, _, _ => none

/-! ## NET and PIM -/

/-- NET_STATUS (R550). -/
def State.netStatus (s : State) : Word :=
  packWord [(26, 6, (s.net.sessions.filter (fun x => !x.node)).length), (25, 1, b2n (s.net.sessions.any (fun x => bitAt x.rights 2))), (24, 1, b2n s.net.activeIp),
    (17, 7, (s.net.sessions.filter (·.node)).length), (8, 4, s.net.lanOk.toNat), (4, 1, b2n s.image.net.prp2), (0, 4, s.net.link.toNat)]

/-- NET_CREDITS between admissions (R509, R550). -/
def Net.creditsWord (n : Net) : Word := packWord [(16, 13, n.free), (0, 13, n.heldAll)]

def State.netReg (s : State) (off : Nat) : Option Word :=
  match off with
  | 0x00 => some s.netStatus
  | 0x04 => some s.net.creditsWord
  | 0x80 =>
    let a := fun (i : Nat) => nth s.net.auth i 0
    some (packWord [(28, 4, a 0), (24, 4, a 1), (16, 8, a 2), (12, 4, a 3), (4, 8, a 4), (2, 2, a 5), (0, 2, a 6)])
  | _ =>
    match arr 0x10 4 5 off, arr 0x40 4 4 off with
    | some p, _ => let d := nth s.net.drops p []; some (packWord [(24, 8, nth d 0 0), (16, 8, nth d 1 0), (8, 8, nth d 2 0), (0, 8, nth d 3 0)])
    | _, some l => let c := nth s.net.lans l {}; some (packWord [(16, 16, c.received), (8, 8, min 255 (c.duplicate / 1000)), (0, 8, c.wrong)])
    | _, _ => none

/-- The words of a point record (R534). -/
def pointWord (r : PointRec) (w : Nat) : Word :=
  match w with
  | 0 => r.value
  | 1 => r.stampNs
  | 2 => packWord [(16, 16, r.secLo), (8, 8, r.quality), (0, 8, r.flags)]
  | _ => packWord [(16, 16, r.seq)]

/-- The point shown at place i of a path's window (R545). -/
def State.windowPoint (s : State) (p : Path) (i : Nat) : Nat := (assoc s.pim.page p).getD 0 * 4096 + i

/-- A point as a path reads it: frozen, or as it stands (R545). -/
def State.readPoint (s : State) (p : Path) (pt : Nat) : PointRec :=
  match s.pim.frozen.find? (fun f => f.1 == p && f.2.1 == pt) with
  | some f => f.2.2.1
  | none => s.point pt

def State.pimReg (s : State) (p : Path) (off : Nat) : Option Word :=
  match off with
  | 0x00 => some (packWord [(21, 11, s.pim.nextRod), (20, 1, b2n s.pim.deferred), (0, 17, min 131071 s.pim.lastRecords)])
  | 0x04 => some (wordN ((assoc s.pim.page p).getD 0))
  | 0x08 => some (wordN (min 0xFFFFFFFF s.pim.pubCnt))
  | 0x0C => some (packWord [(16, 16, s.pim.rejWriter), (0, 16, s.pim.rejStandby)])
  | _ =>
    match arrW 0x10000 0x10 4096 4 off with
    | some (i, w) => some (pointWord (s.readPoint p (s.windowPoint p i)) w)
    | none => none

/-! ## EVR, RTC, BOOT and PIN -/

def State.evrReg (s : State) (p : Path) (off : Nat) : Option Word :=
  let e := s.evr
  let k := (assoc e.books p).getD e.bookSet
  match off with
  | 0x00 => some e.status
  | 0x04 => some (wordN e.nextSeq)
  | 0x08 => some (wordN e.written)
  | 0x0C => some (wordN k.stored)
  | 0x10 => some (wordN k.overwritten)
  | 0x14 => some (wordN k.dropped)
  | 0x18 => some (packWord [(0, 11, k.pending)])
  | 0x40 => some (packWord [(0, 16, min 65535 e.flushMax)])
  | 0x44 => some (wordN (if !e.numbered then 0 else if e.ringOnly then ringSize else e.store.slots))
  | 0x80 => some ((assoc e.readSeq p).getD 0)
  | _ =>
    match arr 0x20 4 8 off, arrW 0x100 0x20 8 8 off with
    | some i, _ => some (wordN (nth e.drop i 0))
    | _, some (i, w) => some (s.evrWindow p i w)
    | _, _ => none

/-- The calendar as a path reads it: its shadow, or as it stands (R676). -/
def State.calOf (s : State) (p : Path) : Calendar := match assoc s.rtc.shadow p with | some (c, _) => c | none => s.calNow

/-- RTC_HW_STATUS (R697). -/
def State.hwStatus (s : State) : Word :=
  packWord [(16, 16, s.rtc.hwRound), (15, 1, b2n s.rtc.hwRunning), (14, 1, b2n s.rtc.hwHeld), (0, 6, popCount s.hwMask)]

def State.rtcReg (s : State) (p : Path) (off : Nat) : Option Word :=
  match off with
  | 0x00 => some s.rtc.status
  | 0x04 => some (calTime (s.calOf p))
  | 0x08 => some (calDate (s.calOf p))
  | 0x0C => some (wordN (s.calOf p).subsec)
  | 0x10 => some s.rtc.stageTime
  | 0x14 => some s.rtc.stageDate
  | 0x18 => some 0
  | 0x1C => some (packWord [(0, 16, (wordI s.rtc.localOfs).toNat)])
  | 0x20 => some (packWord [(0, 8, (wordI s.rtc.trim).toNat)])
  | 0x24 => some (packWord [(24, 8, s.rtc.merged), (0, 23, s.rtc.wakePeriod)])
  | 0x28 => some s.hwStatus
  | _ => none

/-- BOOT_STATUS (R731). -/
def Boot.status (b : Boot) : Word :=
  packWord [(28, 4, b.step), (27, 1, b2n b.halted), (24, 3, b.haltCause), (23, 1, b2n b.fwSlot), (22, 1, b2n b.cfgSlot), (0, 16, b.readyMs)]

/-- Outcome codes of BOOT_REC_e (R731). -/
def outcomeCode : StartOutcome → Nat
  | .none => 0 | .ready => 1 | .timeout => 2 | .reset => 3 | .halted => 4 | .failed => 5

/-- BOOT_REC_e and BOOT_REC_INFO_e (R731). -/
def startRecWord (r : StartRec) : Word :=
  packWord [(28, 4, r.reached), (16, 12, r.failMask.toNat), (4, 12, r.altMask.toNat), (1, 3, outcomeCode r.outcome), (0, 1, b2n r.used)]
def startRecInfo (r : StartRec) : Word := packWord [(9, 1, b2n r.fwSlot), (8, 1, b2n r.cfgSlot), (0, 8, r.startNo)]

/-- BOOT_PROG_STATUS (R731). -/
def Boot.progStatus (b : Boot) : Word :=
  packWord [(31, 1, b2n b.progBusy.isSome), (28, 3, b.progResult), (0, 28, b.progLast.toNat)]

def State.bootReg (s : State) (off : Nat) : Option Word :=
  let b := s.boot
  match off with
  | 0x00 => some b.status
  | 0x04 => some (wordN (b.imageId.toNat / 2 ^ 32))
  | 0x08 => some (wordN b.imageId.toNat)
  | 0x0C => some b.fwVersion
  | 0x80 => some 0
  | 0x100 => some b.progAddr
  | 0x104 => some 0
  | 0x108 => some 0
  | 0x10C => some b.progStatus
  | _ =>
    match arr 0x40 4 8 off, arr 0x60 4 8 off with
    | some e, _ => some (startRecWord (nth s.rtc.startRecs e {}))
    | _, some e => some (startRecInfo (nth s.rtc.startRecs e {}))
    | _, _ => none

/-- PIN_STATUS (R731): the claim that holds bank X. -/
def State.pinStatus (s : State) : Word :=
  let bank := if s.claimed .sdBankX then 1 else if s.claimed .evtIn then 2 else if s.claimed .uartBankX then 3 else 0
  packWord [(31, 1, b2n s.saf.claimsLocked), (29, 2, bank), (9, 9, popCount s.pin.accepted), (0, 9, popCount s.pin.rejected)]

def State.pinReg (s : State) (off : Nat) : Option Word :=
  match off with
  | 0x00 => some s.pinStatus
  | 0x04 => some (packWord ((List.range 8).map (fun t => (4 * t, 4, nth s.pin.timers t 0))))
  | 0x08 => some (packWord [(2, 1, b2n s.pin.strapHome), (0, 2, s.pin.strapRole)])
  | _ =>
    match arr 0x10 4 8 off, arrW 0x1000 0x10 256 4 off with
    | some n, _ => some (wordN (s.pin.rejected.toNat / 2 ^ (32 * n)))
    | _, some (i, w) =>
      some (match (s.pin.claims.zipIdx.filter (fun c => bitAt s.pin.accepted c.2))[i]? with
        | some c => Config.claimWord c.1 w
        | none => 0)
    | _, _ => none

end Sys2Proof.Machine
end

