-- ==== Sys2Proof/Machine/Station.lean ====
section
/-! DEFINITION. The station protocol: acceptance, sessions, messages, remote I/O, freshness and publication of the point image (R517 to R533, R537, R540 to R546, R549). -/

namespace Sys2Proof.Machine

open Sys2Proof

/-! ## Acceptance (R519, R520, R523) -/

/-- Rights by bit: VIEW, COMMAND, MAINT, IO. -/
def rightView : Nat := 0
def rightCommand : Nat := 1
def rightMaint : Nat := 2
def rightIo : Nat := 3
/-- What a HELLO needs: no right (R521, R523). -/
def rightHello : Nat := 4

/-- A SEQ passes the replay window (R520). -/
def inWindow (h : Nat) (map : BitVec 64) (seq : Nat) : Bool :=
  if h < seq then true else decide (h < seq + 64) && !bitAt map (h - seq)

/-- The window after a SEQ is accepted: bit i of the map stands for H − i (R520). -/
def takeSeq (h : Nat) (map : BitVec 64) (seq : Nat) : Nat × BitVec 64 :=
  if h < seq then (seq, setBit (map <<< (seq - h)) 0 true) else (h, setBit map (h - seq) true)

/-- The session with a number that is open for a source (R519). -/
def State.sessionOf (s : State) (n source : Nat) : Option Session :=
  s.net.sessions.find? (fun x => x.number == n && x.source == source)

/-- The station or node entry of a source at an address (R519). -/
def State.stationOf (s : State) (source : Nat) (ip : Word) : Option StationCfg := s.image.net.stations.find? (fun k => k.id == source && k.ip == ip)
def State.nodeOf (s : State) (source : Nat) (ip : Word) : Option NodeCfg := s.image.net.nodes.find? (fun k => k.id == source && k.ip == ip)

/-- The entry with SOURCE and address exists, and KEY_ID is among its keys (R519). -/
def State.entryAllows (s : State) (h : StnHdr) : Bool :=
  if h.ioPort then (match s.nodeOf h.source h.ip with | some k => k.key == h.key | none => false)
  else (match s.stationOf h.source h.ip with | some k => decide (h.key < 32) && bitAt k.keys h.key | none => false)

/-- Instants of a source's frames in the last second. -/
def State.recentFrames (s : State) (source : Nat) : List Nat := ((assoc s.net.rates source).getD []).filter (fun u => decide (s.up < u + nsPerS))

/-- The window a frame is held against: that of its session, or an empty one for a HELLO that opens a session (R520, R521). -/
def State.windowFor (s : State) (h : StnHdr) (need : Nat) : Nat × BitVec 64 :=
  match (if need = rightHello ∧ h.session = 0 then none else s.sessionOf h.session h.source) with | some x => (x.h, x.map) | none => (0, 0)

/-- The first test a frame fails: 0 FORMAT, 1 NOT_ALLOWED, 2 TAG, 3 SESSION, 4 REPLAY, 5 RIGHTS, 6 RATE (R519). `need` is the right its TYPE asks for. -/
def State.refusalOf (s : State) (h : StnHdr) (need : Nat) : Option Nat :=
  if ¬ h.formatOk then some 0
  else if ¬ s.entryAllows h then some 1
  else if ¬ h.tagOk then some 2
  else
    let ses := s.sessionOf h.session h.source
    let opening := need = rightHello ∧ h.session = 0
    if ¬ opening ∧ ses.isNone then some 3
    else
      let win := s.windowFor h need
      if h.seq = 0 ∨ 2 ^ 32 ≤ h.seq ∨ ¬ inWindow win.1 win.2 h.seq then some 4
      else
        let allowed := need == rightHello || (match ses with | some x => bitAt x.rights need && ((need == rightIo) == h.ioPort) | none => false)
        if ¬ allowed then some 5
        else if s.image.net.rxRate < (s.recentFrames h.source).length + 1 then some 6
        else none

/-- Saturation of the counts of NET_AUTH_CNT (R550). -/
def authTop (cause : Nat) : Nat := nth [15, 15, 255, 15, 255, 3, 3] cause 0

/-- A frame of a source that has come as far as the last test counts for its rate (R519). -/
def noteFrame (h : StnHdr) (s : State) : State := { s with net := { s.net with rates := assocSet s.net.rates h.source (s.up :: s.recentFrames h.source) } }

/-- A discarded frame is counted; NET_AUTH_FAIL at most once a second for a source address (R519). -/
def discard (h : StnHdr) (cause : Nat) (s : State) : State :=
  let s := if cause = 6 then noteFrame h s else s
  let m := ((assoc s.net.authMarks h.ip).getD {}).hit s.up
  let s := { s with net := { s.net with
                              auth := upd s.net.auth cause (fun n => satAdd n 1 (authTop cause))
                              authMarks := assocSet s.net.authMarks h.ip m.1 } }
  recordIf m.2.1 0x0E04 4 h.ip.toNat cause m.2.2 s.tickNo s

/-- A station frame reaches AP4: the unit has an address, its parts run, it is past START, and it answers the address used (R514, R515, R516). -/
def State.hears (s : State) (h : StnHdr) : Bool :=
  s.controllerOn && s.sys.state != .start && (!h.toActive || s.net.activeIp)

/-- Change an open session. -/
def updSession (n : Nat) (f : Session → Session) (s : State) : State :=
  { s with net := { s.net with sessions := s.net.sessions.map (fun x => if x.number = n then f x else x) } }

/-- A node is heard: a lost one is restored (R532). -/
def hearNode (source : Nat) (s : State) : State :=
  match s.image.net.nodes.findIdx? (fun k => k.id == source) with
  | none => s
  | some i =>
    let was := nth s.pim.nodes i {}
    let s := { s with pim := { s.pim with nodes := upd s.pim.nodes i (fun x => { x with last := some s.up, lost := false }) } }
    let points : Nat := (s.image.net.points.filter (fun k => k.2.writer == source)).length
    recordIf was.lost 0x0F04 5 source 1 points s.tickNo s

/-- The frame is accepted: its source's rate, and in its session the window and the time of the last frame (R519, R520, R522). A HELLO in an open session leaves the window as it is (R521). -/
def noteAccepted (h : StnHdr) (need : Nat) (s : State) : State :=
  let s := updSession h.session (fun x => { x with lastUp := s.up }) (noteFrame h s)
  let s := if need = rightHello then s else updSession h.session (fun x => let w := takeSeq x.h x.map h.seq; { x with h := w.1, map := w.2 }) s
  if h.ioPort then hearNode h.source s else s

/-! ## Sessions (R521 to R524) -/

/-- Forget what an access path held: frozen shadows, its page and selection, a preset not completed (R546, R758, R767). -/
def forgetPath (p : Path) (s : State) : State :=
  { s with
    tks := { s.tks with frozenHi := assocDel s.tks.frozenHi p }
    tim := { s.tim with shadow := assocDel s.tim.shadow p, evtFrozen := s.tim.evtFrozen.filter (fun x => x.1.1 != p) }
    bus := { s.bus with frozen := s.bus.frozen.filter (fun x => x.1.1 != p) }
    rtc := { s.rtc with shadow := assocDel s.rtc.shadow p }
    evr := { s.evr with books := assocDel s.evr.books p, readSeq := assocDel s.evr.readSeq p }
    srv := { s.srv with presetVal := assocDel s.srv.presetVal p }
    pim := { s.pim with page := assocDel s.pim.page p, frozen := s.pim.frozen.filter (fun x => x.1 != p) } }

/-- A session closes: cause 0 timeout, 1 SEQ limit, 2 replaced (R522, R549). -/
def closeSession (x : Session) (cause : Nat) (s : State) : State :=
  let s := forgetPath (.session x.number) s
  record 0x0E05 3 x.source 0 cause x.number { s with net := { s.net with sessions := s.net.sessions.filter (fun y => y.number != x.number) } }

/-- The SEQ at which a session closes (R522). -/
def seqLimit : Nat := 0xFFFF0000

/-- Close the sessions whose SEQ in either direction has reached its limit (R522). -/
def closeWorn (s : State) : State :=
  (s.net.sessions.filter (fun x => decide (seqLimit ≤ x.h ∨ seqLimit ≤ x.txSeq))).foldl (fun s x => closeSession x 1 s) s

/-- Bytes of the payload of a reply (R525). -/
def replyBytes : Reply → Nat
  | .hello .. => 36
  | .subscribe .. => 4
  | .command .. => 8
  | .regRead _ _ ws => 8 + 4 * ws.length
  | .regWrite .. => 8
  | .events _ _ rs => 8 + 32 * rs.length

/-- The next SEQ of a session (R520). -/
def State.nextTx (s : State) (n : Nat) : Nat := match s.net.sessions.find? (fun x => x.number == n) with | some x => x.txSeq + 1 | none => 1

/-- Take the next SEQ of a session (R520). -/
def nextSeq (n : Nat) (s : State) : Nat × State :=
  (s.nextTx n, updSession n (fun x => { x with txSeq := x.txSeq + 1 }) s)

/-- Send a reply in a session. -/
def sendReply (n : Nat) (r : Reply) (s : State) : State :=
  let q := nextSeq n s
  closeWorn (dpSend .ctrl (stationBytes (replyBytes r)) s.image.net.dpPorts (emit (.reply n q.1 r) q.2))

/-- The HELLO reply of a session (R521, R525). -/
def State.helloReply (s : State) (x : Session) (nonceHi nonceLo : Word) : Reply :=
  .hello x.number x.rights.toNat s.pin.strapRole (devCode s.sys.state) s.sys.level s.healthWord s.timQuality nonceHi nonceLo s.image.id

/-- Rights granted: those asked, limited by the entry; MAINT to one network session of the unit (R521, R523). -/
def State.grant (s : State) (h : StnHdr) (rights : BitVec 4) : BitVec 4 :=
  if h.ioPort then rights &&& 8
  else
    let entry : BitVec 4 := match s.stationOf h.source h.ip with | some k => k.rights | none => 0
    let r := rights &&& entry &&& 7
    let maintTaken := s.net.sessions.any (fun x => bitAt x.rights rightMaint && x.source != h.source)
    if maintTaken then setBit r rightMaint false else r

/-- Session number 0 is never issued (R521). -/
def sessionNumber (w : Word) : Nat := if w = 0 then 1 else w.toNat

/-- Open a session for a source, replacing its earlier one (R521, R522). -/
def openSession (h : StnHdr) (rights : BitVec 4) (nonceHi nonceLo : Word) (s : State) : State :=
  let r := s.grant h rights
  let s := (s.net.sessions.filter (fun x => x.source == h.source)).foldl (fun s x => closeSession x 2 s) s
  let d := s.draw
  let n := sessionNumber d.1
  let w := takeSeq 0 0 h.seq
  let x : Session := { number := n, source := h.source, node := h.ioPort, rights := r, onActive := h.toActive, h := w.1, map := w.2, lastUp := s.up }
  let s := { d.2 with net := { d.2.net with sessions := d.2.net.sessions ++ [x] } }
  sendReply n (s.helloReply x nonceHi nonceLo) (record 0x0E05 3 h.source 1 r.toNat n s)

/-- Carry out a frame that passes acceptance; one that fails is discarded. The body gets the session's number. -/
def accepted (h : StnHdr) (need : Nat) (body : State → State) (s : State) : State :=
  if ¬ s.hears h then s
  else
    match s.refusalOf h need with
    | some c => discard h c s
    | none => closeWorn (body (noteAccepted h need s))

/-- HELLO_OPEN (R521): SESSION is 0. -/
def execHelloOpen (t : Nat) (h : StnHdr) (rights : BitVec 4) (nonceHi nonceLo : Word) (s : State) : Host.Outcome State Fault Refusal :=
  .next (accepted { h with session := 0 } rightHello (openSession { h with session := 0 } rights nonceHi nonceLo) (start t s))

/-- HELLO_STATUS (R521): a HELLO in an open session; its rights, subscriptions and replay windows stay. -/
def helloStatus (h : StnHdr) (nonceHi nonceLo : Word) (s : State) : State :=
  match s.sessionOf h.session h.source with
  | some x => sendReply h.session (s.helloReply x nonceHi nonceLo) s
  | none => s

def execHelloStatus (t : Nat) (h : StnHdr) (nonceHi nonceLo : Word) (s : State) : Host.Outcome State Fault Refusal :=
  let s := start t s
  .next (if h.session = 0 then s else accepted h rightHello (helloStatus h nonceHi nonceLo) s)

/-- STATION_FRAME_DISCARD (R519): a frame that fails a test; one that would pass has no effect here. -/
def execStationFrameDiscard (t : Nat) (h : StnHdr) (need : Nat) (s : State) : Host.Outcome State Fault Refusal :=
  let s := start t s
  .next (if ¬ s.hears h then s else match s.refusalOf h need with | some c => discard h c s | none => s)

/-- The unit serves a session: one opened on ACTIVE_IP belongs to the unit that holds the address; elsewhere it is carried only (R515, R524). -/
def State.serves (s : State) (x : Session) : Bool := !x.onActive || s.net.activeIp

/-- SESSION_TIMEOUT (R522): a session is timed by the unit that serves it. -/
def sessionTimeout (n : Nat) (s : State) : State :=
  match s.net.sessions.find? (fun x => x.number == n) with
  | none => s
  | some x => if s.serves x && decide (x.lastUp + s.image.net.sessionTimeoutS * nsPerS ≤ s.up) then closeSession x 0 s else s

def execSessionTimeout (t n : Nat) (s : State) : Host.Outcome State Fault Refusal := .next (sessionTimeout n (start t s))

/-! ## Subscriptions (R543) -/

/-- The mask of count rods from a first one. -/
def rodMask (first count : Nat) : BitVec 2048 := BitVec.ofNat 2048 ((2 ^ count - 1) * 2 ^ first)

/-- The rods a session subscribes to (R543). -/
def State.subsOf (s : State) (n : Nat) : BitVec 2048 := match s.net.sessions.find? (fun x => x.number == n) with | some x => x.subs | none => 0

/-- Apply a SUBSCRIBE: 0 ADD, 1 REMOVE, 2 FULL (R543). -/
def subscribe (n action first count : Nat) (s : State) : State :=
  let mine := s.subsOf n
  if 2 < action ∨ count < 1 ∨ 2048 < count ∨ 2048 < first + count then
    sendReply n (.subscribe 4 (popCount mine)) s
  else
    let m := rodMask first count
    let s := updSession n (fun x =>
      if action = 1 then { x with subs := x.subs &&& ~~~m, full := x.full &&& ~~~m }
      else { x with subs := x.subs ||| m, full := x.full ||| (if action = 2 then m else m &&& ~~~x.subs) }) s
    let now := if action = 1 then mine &&& ~~~m else mine ||| m
    sendReply n (.subscribe 0 (popCount now)) s

/-- SUBSCRIBE_ADD (R543); the row takes ACTION 0, and an ACTION no row has, which is answered BAD_ARGUMENT. -/
def execSubscribeAdd (t : Nat) (h : StnHdr) (action first count : Nat) (s : State) : Host.Outcome State Fault Refusal :=
  let s := start t s
  .next (if action = 1 ∨ action = 2 then s else accepted h rightView (subscribe h.session action first count) s)

/-- SUBSCRIBE_REMOVE (R543). -/
def execSubscribeRemove (t : Nat) (h : StnHdr) (first count : Nat) (s : State) : Host.Outcome State Fault Refusal :=
  .next (accepted h rightView (subscribe h.session 1 first count) (start t s))

/-- SUBSCRIBE_FULL (R543). -/
def execSubscribeFull (t : Nat) (h : StnHdr) (first count : Nat) (s : State) : Host.Outcome State Fault Refusal :=
  .next (accepted h rightView (subscribe h.session 2 first count) (start t s))

/-! ## Points written by stations and nodes (R531, R544) -/

/-- The source of a frame stamps its own writes: WRITER_TIMED, NODE_TIMED (R531, R544). -/
def State.stationTimed (s : State) (h : StnHdr) : Bool := match s.stationOf h.source h.ip with | some k => k.timed | none => false
def State.nodeTimed (s : State) (h : StnHdr) : Bool := match s.nodeOf h.source h.ip with | some k => k.timed | none => false

/-- A record a station writes: its own stamp when WRITER_TIMED, otherwise the arrival (R544). -/
def stationWrite (source : Nat) (timed : Bool) (s : State) (r : Nat × PointRec) : State :=
  let now := (shortStamp s.sysNow, lowSeconds s.sysNow)
  offerWrite s { writer := source, point := r.1, value := r.2.value, quality := r.2.quality, flags := r.2.flags,
                 stamp := some (if timed then (r.2.stampNs, r.2.secLo) else now) }

/-- POINT_UPDATE_RECEIVED (R544). -/
def execPointUpdateReceived (t : Nat) (h : StnHdr) (recs : List (Nat × PointRec)) (s : State) : Host.Outcome State Fault Refusal :=
  .next (accepted h rightView
    (fun s => recs.foldl (stationWrite h.source (s.stationTimed h)) s) (start t s))

/-- An input entry of a node: stamped with SAMPLE when NODE_TIMED, otherwise with the arrival (R531). An entry carries no type, so it takes its point's. -/
def nodeWrite (source : Nat) (sample : Option Word) (s : State) (e : Nat × Word × Nat) : State :=
  let st := match sample with
    | some w => let at_ := extendStamp w (s.sysNow / nsPerS); (w, lowSeconds at_)
    | none => (shortStamp s.sysNow, lowSeconds s.sysNow)
  offerWrite s { writer := source, point := e.1, value := e.2.1, quality := e.2.2, flags := (s.pointCfg e.1).type + s.steppedFlag, stamp := some st }

/-- IO_FRAME_INPUTS (R531). -/
def execIoFrameInputs (t : Nat) (h : StnHdr) (sample : Word) (entries : List (Nat × Word × Nat)) (s : State) : Host.Outcome State Fault Refusal :=
  .next (accepted { h with ioPort := true } rightIo
    (fun s =>
      entries.foldl (nodeWrite h.source (if s.nodeTimed h then some sample else none)) s) (start t s))

/-- IO_FRAME_BYTES (R531): the frame is accepted; what its channel's consumer reads from the bytes are commands of their own (RTCM messages, R153). -/
def execIoFrameBytes (t : Nat) (h : StnHdr) (_channel : Nat) (_bytes : List Byte) (s : State) : Host.Outcome State Fault Refusal :=
  .next (accepted { h with ioPort := true } rightIo (fun s => s) (start t s))

/-- IO_OUTPUTS_SEND (R530, R533): in ACTIVE, to a node with a session, every PERIOD. -/
def ioOutputs (i : Nat) (s : State) : State :=
  match s.image.net.nodes[i]? with
  | none => s
  | some k =>
    let st := nth s.pim.nodes i {}
    match s.net.sessions.find? (fun x => x.node && x.source == k.id) with
    | none => s
    | some x =>
      if s.sys.state ≠ .active ∨ ¬ s.controllerOn ∨ 64 ≤ i ∨ s.up < st.sentUp + k.periodMs * nsPerMs then s
      else
        let pts := k.outputs.take 117
        let entries := pts.map (fun p => let r := s.point p; (p, r.value, r.quality))
        let q := nextSeq x.number s
        let s := { q.2 with pim := { q.2.pim with nodes := upd q.2.pim.nodes i (fun y => { y with cycle := (y.cycle + 1) % 2 ^ 32, sentUp := s.up }) } }
        closeWorn (dpSend .ctrl (stationBytes (16 + 12 * pts.length)) s.image.net.dpPorts (emit (.ioOutputs k.id st.cycle entries) s))

def execIoOutputsSend (t i : Nat) (s : State) : Host.Outcome State Fault Refusal := .next (ioOutputs i (start t s))

/-! ## Staleness (R532, R537) -/

/-- A point takes quality STALE as an accepted write of the controller; the record keeps its value and stamp (R532, R537). -/
def goStale (s : State) (p : Nat) : State :=
  let r := s.point p
  let s := putPoint p r.value 3 r.flags r.stampNs r.secLo s
  { s with pim := { s.pim with accepted := s.pim.accepted ++ [(p, s.point p)] } }

/-- IO_NODE_LOST (R532), in the unit that applies the nodes' writes. -/
def ioNodeLost (i : Nat) (s : State) : State :=
  match s.image.net.nodes[i]? with
  | none => s
  | some k =>
    let st := nth s.pim.nodes i {}
    if ¬ s.takesWrites ∨ 64 ≤ i ∨ st.lost ∨ s.up < st.last.getD 0 + s.image.net.ioLoss * k.periodMs * nsPerMs then s
    else
      let s := { s with pim := { s.pim with nodes := upd s.pim.nodes i (fun x => { x with lost := true }) } }
      let pts := (s.image.net.points.filter (fun x => x.2.writer == k.id)).map (·.1)
      record 0x0F04 5 k.id 0 pts.length s.tickNo (pts.foldl goStale s)

def execIoNodeLost (t i : Nat) (s : State) : Host.Outcome State Fault Refusal := .next (ioNodeLost i (start t s))

/-- A point's writer is outside the controller: a station or a node (R549). -/
def externalWriter (w : Nat) : Bool := decide (w < 0xFF00)

/-- PIM_STALE at most once a second for a writer (R537). -/
def noteStale (w : Nat) (s : State) : State :=
  let m := ((assoc s.pim.staleMarks w).getD {}).hit s.up
  { s with pim := { s.pim with staleMarks := assocSet s.pim.staleMarks w m.1 } }

/-- POINT_STALE (R537): the freshness timer counts ticks of 1 ms. A standby takes the staleness of external points with the active unit's writes (R539). -/
def pointStale (p : Nat) (s : State) : State :=
  let k := s.pointCfg p
  let ready := s.boot.ready && s.sys.state != .failed
  let mine := !externalWriter k.writer || s.takesWrites
  if 131072 ≤ p ∨ k.staleMs = 0 ∨ ¬ ready ∨ ¬ mine ∨ (s.point p).quality = 3 ∨ s.tks.tickExt < s.pointFresh p + k.staleMs then s
  else
    let r := s.point p
    let s := if externalWriter k.writer then goStale s p else putPoint p r.value 3 r.flags r.stampNs r.secLo s
    let m := ((assoc s.pim.staleMarks k.writer).getD {}).hit s.up
    recordIf m.2.1 0x0F02 3 p k.writer m.2.2 s.tickNo (noteStale k.writer s)

def execPointStale (t p : Nat) (s : State) : Host.Outcome State Fault Refusal := .next (pointStale p (start t s))

/-! ## Commands (R526, R527, R779) -/

/-- The code of a command (R527). -/
def cmdCode : StnCmd → Nat
  | .mode .. => 1 | .setpoint .. => 2 | .ack _ => 3 | .reference .. => 4 | .context .. => 5 | .track _ => 6 | .slot .. => 7 | .busRecover _ => 8 | .handover => 9
  | .tune .. => 0 | .encPreset .. => 0

/-- The unit takes a command: ACTIVE, or in HARBOUR WATCH armed for MODE and ACK (R526). -/
def State.takesCommand (s : State) (c : StnCmd) : Bool :=
  s.sys.state == .active || (s.sys.state == .harbourWatch && s.rtc.hwArm && (cmdCode c == 1 || cmdCode c == 3))

/-- Collect a command, or answer NOT_ACTIVE (R526, R779). -/
def collectCommand (n : Nat) (c : StnCmd) (s : State) : State :=
  if s.takesCommand c then { s with net := { s.net with cmdsIn := s.net.cmdsIn ++ [{ cmd := c, session := some n }] } }
  else sendReply n (.command (cmdCode c) 2 0 s.tickNo) s

/-- A COMMAND frame arrives. -/
def stationCommand (h : StnHdr) (c : StnCmd) (s : State) : State := accepted h rightCommand (collectCommand h.session c) s

def execCommandMode (t : Nat) (h : StnHdr) (m slot : Nat) (given : Bool) (track : Nat) (n e : Int) (s : State) : Host.Outcome State Fault Refusal :=
  .next (stationCommand h (.mode m slot given track n e) (start t s))
def execCommandSetpoint (t : Nat) (h : StnHdr) (n e hdg : Int) (s : State) : Host.Outcome State Fault Refusal :=
  .next (stationCommand h (.setpoint n e hdg) (start t s))
def execCommandAck (t : Nat) (h : StnHdr) (point : Nat) (s : State) : Host.Outcome State Fault Refusal :=
  .next (stationCommand h (.ack point) (start t s))
def execCommandReference (t : Nat) (h : StnHdr) (action ref : Nat) (s : State) : Host.Outcome State Fault Refusal :=
  .next (stationCommand h (.reference action ref) (start t s))
def execCommandContext (t : Nat) (h : StnHdr) (action ctx : Nat) (s : State) : Host.Outcome State Fault Refusal :=
  .next (stationCommand h (.context action ctx) (start t s))
def execCommandTrack (t : Nat) (h : StnHdr) (wps : List Waypoint) (s : State) : Host.Outcome State Fault Refusal :=
  .next (stationCommand h (.track wps) (start t s))
def execCommandSlot (t : Nat) (h : StnHdr) (slot action : Nat) (s : State) : Host.Outcome State Fault Refusal :=
  .next (stationCommand h (.slot slot action) (start t s))
def execCommandBusRecover (t : Nat) (h : StnHdr) (n : Nat) (s : State) : Host.Outcome State Fault Refusal :=
  .next (stationCommand h (.busRecover n) (start t s))
def execCommandHandover (t : Nat) (h : StnHdr) (s : State) : Host.Outcome State Fault Refusal :=
  .next (stationCommand h .handover (start t s))

/-! ## Tally read-out (R529, R656) -/

/-- EVENT_FETCH (R529): a COUNT above 40 is taken as 40. -/
def eventFetch (n from_ count : Nat) (s : State) : State :=
  let r := s.fetch from_ (min 40 count)
  sendReply n (.events r.1 r.2.1 r.2.2) s

def execEventFetch (t : Nat) (h : StnHdr) (from_ count : Nat) (s : State) : Host.Outcome State Fault Refusal :=
  .next (accepted h rightView (eventFetch h.session from_ count) (start t s))

/-! ## Publication (R540 to R543) -/

/-- A POINT UPDATE being composed for a session: its blocks, bytes and records. -/
structure PubFrame where
  session : Nat
  blocks  : List RodBlock := []
  bytes   : Nat := 0
  records : Nat := 0
  deriving DecidableEq, Repr

/-- The most bytes of a payload (R516, R541). -/
def payloadMax : Nat := 1424

/-- Bytes of a rod block (R541). -/
def blockBytes (b : RodBlock) : Nat := 12 + 16 * b.recs.length

/-- Send a composed frame, unless it is empty. -/
def sendPub (f : PubFrame) (s : State) : State :=
  if f.blocks = [] then s
  else
    let q := nextSeq f.session s
    dpSend .ctrl (stationBytes f.bytes) s.image.net.dpPorts (emit (.pointUpdate f.session q.1 f.blocks) q.2)

/-- Place a block for a session: it goes into the open frame, or starts a new one (R541). -/
def placeBlock (n : Nat) (b : RodBlock) (open_ : List PubFrame) (s : State) : List PubFrame × State :=
  match open_.find? (fun f => f.session == n) with
  | none => (open_ ++ [{ session := n, blocks := [b], bytes := blockBytes b, records := b.recs.length }], s)
  | some f =>
    if f.bytes + blockBytes b ≤ payloadMax then
      (open_.map (fun g => if g.session = n then { g with blocks := g.blocks ++ [b], bytes := g.bytes + blockBytes b, records := g.records + b.recs.length } else g), s)
    else (open_.map (fun g => if g.session = n then { session := n, blocks := [b], bytes := blockBytes b, records := b.recs.length } else g), sendPub f s)

/-- The records of some points of a rod as they stand. -/
def State.rodRecords (s : State) (rod : Nat) (m : BitVec 64) : List (Nat × PointRec) := (bitsOf m).map (fun i => (i, s.point (64 * rod + i)))

/-- The block a subscriber gets of a rod, if any: FULL when it asked for it or on refresh, otherwise the marked points (R540, R543, R546). -/
def State.blockFor (s : State) (rod : Nat) (marked : BitVec 64) (refresh : Bool) (x : Session) : Option RodBlock :=
  let full := bitAt x.full rod || refresh
  if ¬ s.serves x ∨ ¬ bitAt x.subs rod then none
  else if full then some { rod := rod, full := true, refresh := refresh, recs := s.rodRecords rod (BitVec.allOnes 64) }
  else if marked = 0 then none
  else some { rod := rod, full := false, refresh := false, recs := s.rodRecords rod marked }

/-- CTRL credits held, or asked for by frames that wait at DP or are being composed (R542). -/
def ctrlHeld (open_ : List PubFrame) (s : State) : Nat :=
  s.net.heldBy .ctrl + s.net.dp.foldl (fun k f => if f.cls = .ctrl then k + creditsOf f.bytes else k) 0
    + open_.foldl (fun k f => k + creditsOf (stationBytes f.bytes)) 0

/-- Visit rods in order until the credits held stop publication: what is open, records placed, rods left (R540, R542). -/
def visitRods : List (Nat × BitVec 64 × Bool) → List PubFrame → Nat → State → (List PubFrame × Nat × List (Nat × BitVec 64 × Bool)) × State
  | [], open_, n, s => ((open_, n, []), s)
  | (rod, marked, refresh) :: rest, open_, n, s =>
    if s.image.net.pubHoldMax < ctrlHeld open_ s then ((open_, n, (rod, marked, refresh) :: rest), s)
    else
      let r := s.net.sessions.foldl (fun (a : List PubFrame × Nat × State) x =>
        match a.2.2.blockFor rod marked refresh x with
        | none => a
        | some b => let q := placeBlock x.number b a.1 a.2.2; (q.1, a.2.1 + b.recs.length, q.2)) (open_, n, s)
      let s := r.2.2
      let s := { s with net := { s.net with sessions := s.net.sessions.map (fun x => if s.serves x then { x with full := setBit x.full rod false } else x) }
                        pim := { s.pim with nextRod := (rod + 1) % 2048 } }
      visitRods rest r.1 r.2.1 s

/-- Rods refreshed in a tick: those whose position in the period equals the tick's (R543). -/
def refreshRods (refreshS tick : Nat) : List Nat :=
  let p := refreshS * 1000
  let k := tick % p
  let lo := (k * 2048 + p - 1) / p
  let hi := ((k + 1) * 2048 + p - 1) / p
  (List.range (hi - lo)).map (fun i => lo + i) |>.filter (fun r => decide (r < 2048))

/-- The rods of this P6 in the order of their visit, from NEXT_ROD (R540, R543). -/
def State.rodsDue (s : State) : List (Nat × BitVec 64 × Bool) :=
  let refresh := s.pim.refresh ++ refreshRods s.image.net.refreshS s.tks.tickExt
  let full := s.net.sessions.foldl (fun (l : List Nat) x => if x.full = 0 ∨ ¬ s.serves x then l else l ++ bitsOf x.full) []
  let rods := (s.pim.marks.map (·.1) ++ refresh ++ full).eraseDups
  sortBy (fun x => (((x.1 + 2048 - s.pim.nextRod) % 2048 : Nat) : Int))
    (rods.map (fun r => (r, (assoc s.pim.marks r).getD 0, refresh.contains r)))

/-- The publication of P6 (R540 to R543). -/
def publish (s : State) : State :=
  if ¬ s.controllerOn then s
  else
    let due := s.rodsDue
    let s := { s with pim := { s.pim with marks := [], refresh := [] } }
    let r := visitRods due [] 0 s
    let left := r.1.2.2
    let n := r.1.2.1
    let s := closeWorn (r.1.1.foldl (fun s f => sendPub f s) r.2)
    let s := { s with pim := { s.pim with
                                deferred := left != [], lastRecords := min 131071 n, pubCnt := satAdd s.pim.pubCnt n 0xFFFFFFFF
                                marks := left.foldl (fun m x => if x.2.1 = 0 then m else updKey m x.1 0 (fun b => b ||| x.2.1)) s.pim.marks
                                refresh := (left.filter (fun x => x.2.2)).map (·.1) } }
    let due2 := left != [] && oncePerSecond s.pim.deferMark s.up
    recordIf due2 0x0F03 3 left.length n (ctrlHeld [] s) s.tickNo { s with pim := { s.pim with deferMark := if due2 then some s.up else s.pim.deferMark } }

/-- The replies owed to stations leave in P6 (R526). -/
def sendOwed (s : State) : State :=
  s.net.owed.foldl (fun s x => sendReply x.1 x.2 s) { s with net := { s.net with owed := [] } }

end Sys2Proof.Machine
end

