-- ==== Sys2Proof/Machine/Twin.lean ====
section
/-! DEFINITION. Twin and triad operation: heartbeats, the Carry frame, takeover, yielding, shadowing, joining, planned handovers and lay-up (R551 to R606). -/

namespace Sys2Proof.Machine

open Sys2Proof

def State.tw (s : State) : ImgTwin := s.image.twin
def updTwn (f : Twn → Twn) (s : State) : State := { s with twn := f s.twn }
def State.peer (s : State) (r : Nat) : Peer := nth s.twn.peers r {}
def updPeer (r : Nat) (f : Peer → Peer) (s : State) : State := updTwn (fun w => { w with peers := upd w.peers r f }) s

/-- The roles of the group (R552). -/
def State.groupRoles (s : State) : List Nat := List.range (if s.tw.triad then 3 else 2)

/-- The roles of the other units. -/
def State.peerRoles (s : State) : List Nat := s.groupRoles.filter (fun r => r != s.pin.strapRole)

/-- Record TWN_PEER_REFUSED, at most once a second for a role and cause (DESIGN CHOICE): 0 duplicate role, 1 class, 2 format, 3 own strap. -/
def refusePeer (role cause value : Nat) (s : State) : State :=
  if oncePerSecond (assoc s.twn.refusedAt (role, cause)) s.up then
    record 0x100D 6 role cause value s.tickNo (updTwn (fun w => { w with refusedAt := assocSet w.refusedAt (role, cause) s.up }) s)
  else s

/-! ## The RESULTS section and its comparison (R559, R585 to R587) -/

/-- PCL's state as carried: the instants of a unit's own clock stand at 0. -/
def Pcl.carried (p : Pcl) : Pcl :=
  { p with joy := p.joy.map (fun j => { j with last := none }), windFade := p.windFade.map (fun f => { f with since := 0 })
           atWp := p.atWp.map (fun _ => 0), degMark := none, loaded := none }

/-- PCL's state taken from a RESULTS section: the instants stay the unit's own where it has them. -/
def Pcl.take (own r : Pcl) (up : Nat) : Pcl :=
  { r with joy := (List.range 3).map (fun a => { nth r.joy a {} with last := (nth own.joy a {}).last })
           windFade := r.windFade.map (fun f => { f with since := match own.windFade with | some g => g.since | none => up })
           atWp := r.atWp.map (fun _ => own.atWp.getD up), degMark := own.degMark, loaded := own.loaded }

/-- An axis as carried. -/
def SrvAxis.carried (a : SrvAxis) : SrvAxis := { a with aboveSince := none, satMark := none }

/-- Arbitration as carried. -/
def Arb.carried (a : Arb) : Arb := { a with drSince := a.drSince.map (fun _ => 0), outTick := none }

/-- A reference as carried. -/
def RefSt.carried (r : RefSt) : RefSt := { r with last := r.last.map (fun x => (0, x.2)) }

/-- The RESULTS section of the tick the computation stands at (R559). -/
def State.results (s : State) : CarryResults :=
  { health := s.healthWord, fus := { s.fus.state with tickNo := 0 }, est := s.fus.est, mean := s.fus.mean, trim := s.fus.trim
    massFactor := s.fus.massFactor, slotDraught := s.fus.slotDraught, refs := s.fus.refs.map (·.carried), arb := s.fus.arb.map (·.carried)
    trks := s.fus.trks, pcl := { s.pcl.carried with dem := { s.pcl.dem with tickNo := 0 } }, als := { s.als.record with tickNo := 0 }
    carried := s.als.carried, missRun := s.als.missRun, goodRun := s.als.goodRun, fallback := s.als.fallback
    axes := s.srv.axes.map (·.carried), pdivs := s.srv.pdivs.map (fun x => (x.latAcc, x.latOwed, x.latPhase)), seqs := s.bus.seqs
    caRound := s.als.caRound, caCase := s.als.caCase, caRun := s.als.caRun }

/-- What is compared: every word but the progress of consequence analysis (R585), and but the health word, in which the units differ by their own ROLE and STATE (DEDUCED). -/
def CarryResults.key (r : CarryResults) : CarryResults := { r with health := 0, caRound := 0, caCase := 0, caRun := false }

/-- Take every carried item of a RESULTS section of a tick as the unit's own state (R586). -/
def adopt (tick : Nat) (r : CarryResults) (s : State) : State :=
  let up := s.up
  { s with
    fus := { s.fus with
      state := { r.fus with tickNo := tick % 2 ^ 32 }, est := r.est, mean := r.mean, trim := r.trim, massFactor := r.massFactor, slotDraught := r.slotDraught
      refs := (List.range 16).map (fun k => { nth r.refs k {} with last := match (nth s.fus.refs k {}).last with | some l => some l | none => (nth r.refs k {}).last })
      arb := (List.range 2).map (fun q => { nth r.arb q {} with drSince := (nth r.arb q {}).drSince.map (fun _ => (nth s.fus.arb q {}).drSince.getD up) })
      trks := r.trks }
    pcl := { (s.pcl.take r.pcl up) with dem := { r.pcl.dem with tickNo := tick % 2 ^ 32 } }
    als := { s.als with record := { r.als with tickNo := tick % 2 ^ 32 }, carried := r.carried, missRun := r.missRun, goodRun := r.goodRun, fallback := r.fallback
                        caRound := r.caRound, caCase := r.caCase }
    srv := { s.srv with axes := (List.range 32).map (fun x => { nth r.axes x {} with aboveSince := (nth s.srv.axes x {}).aboveSince, satMark := (nth s.srv.axes x {}).satMark }) }
    bus := { s.bus with seqs := r.seqs } }

/-- A mismatch is noted: its instant, its count, and SHADOW_FAULT at the third within 1,000 compared ticks (R586, R587). -/
def noteMismatch (w : Twn) (up : Nat) : Twn :=
  let recent := w.compared :: w.recentMis.filter (fun c => decide (w.compared < c + 1000))
  { w with mismatchRc := satAdd w.mismatchRc 1 65535, shadowMatch := false, mismatch := true, cleanRun := 0, matchRun := 0, recentMis := recent
           hourMis := up :: w.hourMis.filter (fun u => decide (up < u + 3600 * nsPerS)), shadowFault := w.shadowFault || decide (3 ≤ recent.length), returnFrom := none }

/-- A match is noted; SHADOW_FAULT clears after 60,000 compared ticks without a mismatch (R587). -/
def noteMatch (w : Twn) : Twn :=
  { w with shadowMatch := true, mismatch := false, cleanRun := w.cleanRun + 1, matchRun := w.matchRun + 1, shadowFault := w.shadowFault && decide (w.cleanRun + 1 < 60000) }

/-- P6 of a shadowed tick: the results are compared with the RESULTS section, or adopted when the tick is not to be compared (R585, R586). -/
def shadowCompare (s : State) : State :=
  match s.twn.shadow with
  | none => s
  | some x =>
    let tick := s.tks.tickExt - 1
    let mine : CarryResults := { s.results with pdivs := s.srv.pdivs.map (fun p => (p.oldAcc, p.oldOwed, p.oldPhase)) }
    let s := updTwn (fun w => { w with shadowed := some tick, shadowCrc := Config.resultsCrc mine }) s
    match (if x.hdr.incomplete then none else x.results) with
    | none => updTwn (fun w => { w with needAdopt := true, mismatch := false }) s
    | some r =>
      if s.twn.needAdopt then updTwn (fun w => { w with needAdopt := false, mismatch := false }) (adopt tick r s)
      else
        let s := updTwn (fun w => { w with compared := w.compared + 1, comparedRc := satAdd w.comparedRc 1 65535, sinceCmp := 0 }) s
        if mine.key = r.key then updTwn noteMatch s
        else
          let d := Config.firstDiff mine r
          let s := record 0x100B 5 (tick % 2 ^ 32) d.1 d.2.1.toInt d.2.2.toInt (updTwn (fun w => noteMismatch w s.up) s)
          adopt tick r s

/-! ## The Carry frame received (R539, R559 to R567, R586, R591) -/

/-- The frames that arrive now are of the group's own tick count: the unit has taken it (R591). -/
def Twn.aligned (w : Twn) : Bool := w.synced || w.join == .blocks || w.join == .match_

/-- One point of the POINTS section, as the active unit accepted it (R539). -/
def takePoint (s : State) (x : Nat × PointRec) : State :=
  markPoint x.1 { s with pim := { s.pim with pts := setKey s.pim.pts x.1 { record := x.2, fresh := s.tks.tickExt } } }

/-- Take the points and sessions of a frame, within the tick after its own (R524, R539, R566). -/
def takeFrame (s : State) (x : CarryRx) : State :=
  if x.taken || s.tks.tickExt ≤ x.ownTick || !(x.due || x.sessions.isSome) then s
  else
    let s := (x.points.getD []).foldl takePoint s
    let s := match x.sessions with | some l => { s with net := { s.net with sessions := s.net.sessions.filter (fun q => !q.onActive) ++ l } } | none => s
    updTwn (fun w => { w with rx := w.rx.map (fun y => if y.hdr.tickExt = x.hdr.tickExt then { y with taken := true } else y) }) s

/-- Take what the frames held have for the image and the sessions, oldest first. -/
def takeCarried (s : State) : State := s.twn.rx.reverse.foldl takeFrame s

/-- The sections of a frame held so far. -/
def CarryRx.count (x : CarryRx) : Nat :=
  b2n x.inputs.isSome + b2n x.commands.isSome + b2n x.points.isSome + b2n x.sessions.isSome + b2n x.results.isSome + b2n x.resync.isSome

/-- A frame is complete when every section it announces is held. -/
def CarryRx.complete (x : CarryRx) : Bool := decide (x.hdr.sections ≤ x.count) && decide (0 < x.hdr.sections)

/-- Place a section; the first good copy counts (R562). -/
def CarryRx.put (x : CarryRx) : CarrySection → CarryRx
  | .inputs v => { x with inputs := some (x.inputs.getD v) }
  | .commands l => { x with commands := some (x.commands.getD l) }
  | .points l => { x with points := some (x.points.getD l) }
  | .sessions l => { x with sessions := some (x.sessions.getD l) }
  | .results r => { x with results := some (x.results.getD r) }
  | .resync b => { x with resync := some (x.resync.getD b) }

/-- The frame of a header among those held, or a new one. -/
def State.rxFor (s : State) (h : CarryHdr) : CarryRx :=
  (s.twn.rx.find? (fun x => x.hdr.tickExt == h.tickExt && x.hdr.epoch == h.epoch)).getD { hdr := h, ownTick := s.tks.tickExt }

/-- Put a frame among those held; two are kept, newest first. -/
def storeRx (x : CarryRx) (s : State) : State :=
  let rest := s.twn.rx.filter (fun y => !(y.hdr.tickExt == x.hdr.tickExt && y.hdr.epoch == x.hdr.epoch))
  let newer : Bool := match rest with | y :: _ => decide (y.ownTick ≤ x.ownTick) && decide (y.hdr.tickExt ≤ x.hdr.tickExt) | [] => true
  updTwn (fun w => { w with rx := (if newer then x :: rest else rest ++ [x]).take 2 }) s

/-- Take a state block of a RESYNC section (R591): which bit of the five it is. -/
def takeBlock (b : ResyncBlock) (s : State) : State :=
  match b with
  | .points pts => updTwn (fun w => { w with blocksHeld := setBit w.blocksHeld 0 true }) { s with pim := { s.pim with pts := pts } }
  | .history snaps atts est up => updTwn (fun w => { w with blocksHeld := setBit w.blocksHeld 1 true }) { s with fus := { s.fus with snaps := snaps, atts := atts, est := est, estUp := up } }
  | .contexts ctxs groups => updTwn (fun w => { w with blocksHeld := setBit w.blocksHeld 2 true }) { s with str := { s.str with ctxs := ctxs, groups := groups } }
  | .tracks trks refs scans => updTwn (fun w => { w with blocksHeld := setBit w.blocksHeld 3 true }) { s with fus := { s.fus with trks := trks, refs := refs, scans := scans } }
  | .slots slots resident => updTwn (fun w => { w with blocksHeld := setBit w.blocksHeld 4 true }) { s with als := { s.als with slots := slots, resident := resident } }

/-- The state step of joining ends when every block has been taken; the own input side goes on from the contexts carried (R584, R591). -/
def blocksDone (s : State) : State :=
  if s.twn.join = .blocks ∧ s.twn.blocksHeld = 0x1F#5 then
    updTwn (fun w => { w with join := .match_, matchRun := 0, needAdopt := true, ownCtxs := s.str.ctxs.map (fun c => { c with buf := [] }) }) s
  else s

/-- Count an error of check on a Carry link (TWN_LINK_STATUS.CRC_ERR). -/
def linkError (l : Nat) (s : State) : State := updTwn (fun w => { w with links := upd w.links l (fun k => { k with crcErr := satAdd k.crcErr 1 65535 }) }) s

/-- The link on which a frame is forwarded: to the other standby of a TRIAD, which reports its direct link to the active unit down (R563). -/
def State.relayLink (s : State) (link : Nat) (h : CarryHdr) : Option Nat :=
  if ¬ s.tw.triad ∨ h.relayed ∨ peerOfLink true s.pin.strapRole link ≠ h.role then none
  else
    let l := 1 - link
    let r := peerOfLink true s.pin.strapRole l
    if (s.peer r).linkDown && s.linkUp l then some l else none

/-- Forward a section on a link, if it is forwarded (R563). -/
def relaySection (relay : Option Nat) (h : CarryHdr) (sec : CarrySection) (s : State) : State :=
  match relay with | some l => emit (.carryRelay l { h with relayed := true } sec) s | none => s

/-- A section placed is counted: TWN_CARRY_RX, TWN_CARRY_CNT and the SEQ held (R560, R606). `x` and `y` are its frame before and with it. -/
def countSection (h : CarryHdr) (x y : CarryRx) (sec : CarrySection) (forwarded : Bool) (s : State) : State :=
  let first := x.count == 0
  let isInputs := match sec with | .inputs _ => true | _ => false
  updTwn (fun w => { w with
    seq := if w.aligned then h.seq + BitVec.ofInt 32 ((s.tks.tickExt : Int) - h.tickExt) else h.seq
    relayed := satAdd w.relayed (b2n ((h.relayed && first) || (forwarded && isInputs))) 255
    incomplete := satAdd w.incomplete (b2n (h.incomplete && first)) 255
    carryRx := if y.complete then h.seq else w.carryRx }) s

/-- The carried state of a pair is taken, and a block of a RESYNC section, as they arrive (R432, R591). -/
def sectionUse (y : CarryRx) (sec : CarrySection) (s : State) : State :=
  match sec with
  | .results r => if s.twn.synced then (List.range 4).foldl (fun s p =>
      if s.claimed (.pdiv p) then (let v := nth r.pdivs p (0, 0, 0); pdivTake (decide (y.ownTick < s.tks.tickExt)) p v.1 v.2.1 v.2.2 s) else s) s else s
  | .resync b => if s.twn.join = .blocks then blocksDone (takeBlock b s) else s
  | _ => s

/-- A section arrives by a Carry link (R559 to R567). -/
def carrySection (link : Nat) (h : CarryHdr) (sec : CarrySection) (crcOk : Bool) (s : State) : State :=
  if 2 ≤ link ∨ ¬ s.linkUp link then s
  else if ¬ crcOk then
    let s := linkError link s
    if s.sys.state = .standby then let x := s.rxFor h; storeRx { x with broken := setBit x.broken link true } s else s
  else if s.sys.state ≠ .standby then s
  else if ¬ Config.formatOk h.format then refusePeer h.role 2 h.format s
  else if sdiff32 h.epoch s.twn.epoch < 0 then s
  else
    let x := s.rxFor h
    if bitAt x.broken link then s
    else
      let y := x.put sec
      let relay := s.relayLink link h
      takeCarried (sectionUse y sec (countSection h x y sec relay.isSome (relaySection relay h sec (storeRx y s))))

def execCarryFrameReceived (t link : Nat) (h : CarryHdr) (sec : CarrySection) (crcOk : Bool) (s : State) : Host.Outcome State Fault Refusal :=
  .next (carrySection link h sec crcOk (start t s))

/-- The frame of the tick before, among those held. -/
def State.lastFrame (s : State) : Option CarryRx := s.twn.rx.find? (fun x => x.ownTick + 1 == s.tks.tickExt)

/-- A frame of the tick before is expected: the unit shadows, and has not itself computed that tick as ACTIVE. -/
def State.expectsFrame (s : State) : Bool :=
  s.sys.state == .standby && (s.twn.synced || s.twn.join == .match_) && s.twn.shadowed != some (s.tks.tickExt - 1)

/-- What CARRY_DUE finds of the frame expected: INCOMPLETE, complete, or lost for shadowing (R565, R566). -/
def frameDue (s : State) : State :=
  if ¬ s.expectsFrame then s
  else
    let want := s.twn.seq - 1
    let lost := fun (got : Word) (cause : Int) =>
      updTwn (fun w => { w with needAdopt := true, lostCnt := satAdd w.lostCnt 1 65535 }) (record 0x100A 4 want.toNat got.toNat cause s.tickNo s)
    match s.lastFrame with
    | some x =>
      if x.hdr.incomplete then updTwn (fun w => { w with needAdopt := true }) (record 0x100A 4 want.toNat x.hdr.seq.toNat 3 s.tickNo s)
      else if x.complete then s
      else lost x.hdr.seq (if x.broken ≠ 0 then 1 else 2)
    | none => lost s.twn.carryRx 0

/-- CARRY_DUE: 150 µs after the edge a frame not complete counts as lost; its sections are still applied (R566). -/
def carryDue (s : State) : State :=
  if s.twn.dueDone ∨ ¬ s.tks.running ∨ s.tks.sinceEdge < 150000 then s
  else
    frameDue (takeCarried
      (updTwn (fun w => { w with dueDone := true, rx := w.rx.map (fun x => if x.ownTick + 1 = s.tks.tickExt then { x with due := true } else x) }) s))

def execCarryDue (t : Nat) (s : State) : Host.Outcome State Fault Refusal := .next (carryDue (start t s))

/-- A Carry link goes down or comes up (R554). -/
def carryLink (l : Nat) (up : Bool) (s : State) : State :=
  let k := nth s.twn.links l {}
  if 2 ≤ l ∨ ¬ bitAt s.tw.linkUse l ∨ k.up = up ∨ ¬ s.domOk 4 then s
  else
    record 0x1009 4 l (b2n up) (peerOfLink s.tw.triad s.pin.strapRole l) s.tickNo
      (updTwn (fun w => { w with links := upd w.links l (fun k => { k with up := up }) }) s)

/-- A link goes down also while its clock domain is lost. -/
def carryDown (l : Nat) (s : State) : State :=
  let k := nth s.twn.links l {}
  if 2 ≤ l ∨ ¬ k.up then s
  else
    record 0x1009 4 l 0 (peerOfLink s.tw.triad s.pin.strapRole l) s.tickNo
      (updTwn (fun w => { w with links := upd w.links l (fun k => { k with up := false }) }) s)

def execCarryLinkDown (t l : Nat) (s : State) : Host.Outcome State Fault Refusal := .next (carryDown l (start t s))
def execCarryLinkUp (t l : Nat) (s : State) : Host.Outcome State Fault Refusal := .next (carryLink l true (start t s))

/-! ## The Carry frame sent (R558 to R565, R592) -/

/-- A peer is to be given RESYNC sections: a standby not SYNCED (R592). -/
def State.resyncWanted (s : State) : Bool := s.peerRoles.any (fun r => let p := s.peer r; p.known && p.state == .standby && !p.synced && decide (p.miss < 3))

/-- The block of the rotation. -/
def State.resyncBlock (s : State) : ResyncBlock :=
  match s.twn.resyncNext with
  | 0 => .points s.pim.pts
  | 1 => .history s.fus.snaps s.fus.atts s.fus.est s.fus.estUp
  | 2 => .contexts s.str.ctxs s.str.groups
  | 3 => .tracks s.fus.trks s.fus.refs s.fus.scans
  | _ => .slots s.als.slots s.als.resident

/-- The active unit sends the frame of its tick (R558, R559, R562, R563, R565). -/
def carrySend (incomplete : Bool) (s : State) : State :=
  if s.sys.state ≠ .active ∨ s.tw.linkUse = 0 then s
  else
    let resync := s.resyncWanted
    let secs : List CarrySection :=
      [.inputs s.twn.p0, .commands s.net.cmdsDue, .points s.pim.accepted, .sessions (s.net.sessions.filter (·.onActive))]
      ++ (if incomplete then [] else [.results s.results]) ++ (if resync && !incomplete then [.resync s.resyncBlock] else [])
    let h : CarryHdr :=
      { format := Config.carryFormat, incomplete := incomplete, relayed := false, resync := resync && !incomplete, role := s.pin.strapRole
        sections := secs.length, tickExt := s.tks.tickExt, seq := s.twn.seq, epoch := s.twn.epoch, imageId := s.image.id }
    let s := emit (.carry (s.tw.linkUse &&& maskOf 2 s.linkUp) h secs) s
    updTwn (fun w => { w with ownCrc := (Config.resultsCrc s.results :: w.ownCrc).take 2
                              resyncNext := if resync && !incomplete then (w.resyncNext + 1) % 5 else w.resyncNext }) s

/-! ## Entering and leaving ACTIVE (R524, R572, R576, R611, R628) -/

/-- The counts of the drive maps go on by the ticks since the carried one (R463, R576). -/
def catchUpSeqs (from_ : Nat) : Nat → State → State
  | 0, s => s
  | n + 1, s =>
    let s1 := advanceSeqs { s with tks := { s.tks with tickExt := from_ } }
    catchUpSeqs (from_ + 1) n { s1 with tks := s.tks }

/-- A context as the unit continues it: its own latency and masks, the masks of arbitration and of the operator as the shadow has them, and the samples of the shadow below its own (R576, R584). -/
def mergeCtx (shadow own : Ctx) : Ctx :=
  { own with mask := (own.mask &&& 0x0E) ||| (shadow.mask &&& 0x11), holdSince := put own.holdSince 0 (nth shadow.holdSince 0 none)
             buf := own.buf ++ shadow.buf, meas := match own.meas with | some m => some m | none => shadow.meas }

/-- The input side of a unit that becomes ACTIVE: its own samples since the last shadowed tick come in late (R576). -/
def takeOwnInputs (s : State) : State :=
  if s.twn.ownCtxs.isEmpty then s
  else
    { s with str := { s.str with ctxs := (List.range 256).map (fun c => mergeCtx (nth s.str.ctxs c {}) (nth s.twn.ownCtxs c {})) }
             twn := { s.twn with ownCtxs := [] } }

/-- Sessions on ACTIVE_IP go on: SEQ jumps by 65,536, and every subscription is sent in full (R524, R546). -/
def continueSessions (s : State) : State :=
  { s with net := { s.net with sessions := s.net.sessions.map (fun q => if q.onActive then { q with txSeq := (q.txSeq + 65536) % 2 ^ 32, full := q.subs } else q) } }

/-- The unit becomes ACTIVE, confirmed (R576): with the carried state when SYNCED, otherwise with its own, in mode STANDBY and with a cold Reckoner. -/
def becomeActive (cause : Nat) (s : State) : State :=
  let synced := s.twn.synced
  let wasStandby := s.sys.state == .standby
  let gap : Nat := match s.twn.shadowed with | some m => s.tks.tickExt - 1 - m | none => 0
  let s := openGates (enterState .active cause s)
  let s := if synced then catchUpSeqs (s.tks.tickExt - gap) gap (takeOwnInputs s)
    else { (if wasStandby && s.pcl.mode != 0 then enterMode 0 s else s) with als := { s.als with needCold := true } }
  let s := updTwn (fun w => { w with activeRole := s.pin.strapRole, synced := false, shadowFault := false, join := .none, entry := none, yielded := false, layup := none
                                     handover := none, request := none, shadow := none, shadowed := none, needAdopt := false, rx := [], returnFrom := none
                                     mismatch := false, shadowCrc := 0, sighting := none, sightDue := none, xchgUp := s.up }) s
  claimActiveIp (continueSessions s)

/-- Exit from ACTIVE to STANDBY: gates close, pending frames are cancelled, what only the active unit does ends (R470, R515, R564, R611). -/
def leaveActive (cause : Nat) (s : State) : State :=
  let s := netLeaveActive (mbcCancelAll (closeGates s.sendingMask s))
  let s := enterState .standby cause s
  updTwn (fun w => { w with handover := none, request := none, probation := none, sighting := none, sightDue := none, returnFrom := none, synced := false, join := .none }) s

/-! ## Takeover (R573 to R576, R599) -/

/-- One of two standbys comes before the other: SYNCED, higher LEVEL, without SHADOW_FAULT, lower ROLE (R574). -/
def standbyFirst (a b : Bool × Nat × Bool × Nat) : Bool :=
  if a.1 ≠ b.1 then a.1
  else if a.2.1 ≠ b.2.1 then decide (b.2.1 < a.2.1)
  else if a.2.2.1 ≠ b.2.2.1 then b.2.2.1
  else decide (a.2.2.2 < b.2.2.2)

def State.ownRank (s : State) : Bool × Nat × Bool × Nat := (s.twn.synced, s.sys.level, s.twn.shadowFault, s.pin.strapRole)
def State.peerRank (s : State) (r : Nat) : Bool × Nat × Bool × Nat := let p := s.peer r; (p.synced, p.level, p.shadowFault, r)

/-- A peer is a standby heard in the last tick. -/
def State.standbyHeard (s : State) (r : Nat) : Bool := let p := s.peer r; p.known && p.state == .standby && p.miss == 0

/-- The unit is the first of the standbys it hears (R574). -/
def State.firstStandby (s : State) : Bool :=
  s.peerRoles.all (fun r => r == s.twn.activeRole || !s.standbyHeard r || standbyFirst s.ownRank (s.peerRank r))

/-- The condition of takeover that holds, if one does; conditions of the health word come before silence (R573, R581, R599, R602). -/
def State.takeoverCause (s : State) : Option Nat :=
  let r := s.twn.activeRole
  let p := s.peer r
  if s.sys.state ≠ .standby ∨ s.twn.entry.isSome ∨ 3 ≤ r ∨ r = s.pin.strapRole ∨ p.state = .harbourWatch ∨ ¬ s.firstStandby then none
  else if s.twn.yielded then (if 3 ≤ s.twn.quietTicks then some 0 else none)
  else if p.known ∧ p.state = .failed then some 1
  else if p.known ∧ p.state = .active ∧ p.level < 2 then some 2
  else if p.known && p.handoverReq && s.twn.synced then some 3
  else if 3 ≤ p.lowRun ∧ s.twn.synced ∧ ¬ s.twn.shadowFault then some 4
  else if 3 ≤ p.miss then some 0
  else none

/-- The decision: the partition is asked, then the new epoch is taken and the takeover told to the group (R575, R628). -/
def decideTakeover (s : State) : State :=
  match s.takeoverCause with
  | none => s
  | some c =>
    let a := confirmActive 1 s
    if ¬ a.1 then a.2
    else
      let s := abortHandover 3 a.2
      let e := s.twn.epoch + 1
      let s := record 0x1002 6 c s.twn.activeRole e.toNat s.twn.carryRx.toNat
        (updTwn (fun w => { w with epoch := e, entry := some { cause := c, epoch := e, decided := s.up } }) s)
      urgentHeartbeat true s

/-- The entry after a takeover, at the first edge at least 20 µs after the decision (R575, R576, R579). -/
def activeEntry (s : State) : State :=
  match s.twn.entry with
  | none => s
  | some p =>
    if s.sys.state ≠ .standby ∨ ¬ s.tks.running ∨ s.tks.upEdge < p.decided + 20000 then s
    else
      let a := confirmActive 1 (updTwn (fun w => { w with entry := none }) s)
      if ¬ a.1 then a.2
      else
        let yielded := a.2.twn.yielded
        updTwn (fun w => { w with probation := if p.cause = 0 ∧ ¬ yielded then some a.2.tks.tickExt else none }) (becomeActive (0x0200 + p.cause) a.2)

def execActiveEntry (t : Nat) (s : State) : Host.Outcome State Fault Refusal := .next (activeEntry (start t s))

/-- PROBATION ends after 2 ticks (R579). -/
def probationEnd (s : State) : State := if s.inProbation then s else updTwn (fun w => { w with probation := none }) s

def execProbationEnd (t : Nat) (s : State) : Host.Outcome State Fault Refusal := .next (probationEnd (start t s))

/-! ## When both units command (R577 to R581) -/

/-- An ACTIVE unit that hears TAKEOVER with a newer epoch enters STANDBY at once (R577). -/
def yieldToTakeover (r : Nat) (epoch : Word) (s : State) : State :=
  let s := record 0x1003 4 4 s.pin.strapRole r epoch.toNat (leaveActive 0x0304 s)
  updTwn (fun w => { w with activeRole := r, epoch := epoch }) s

/-- Signed difference of two epochs on the width of a field. -/
def epochDiff (own : Word) (field width : Nat) : Int :=
  let d := (own.toNat + 2 ^ width - field % 2 ^ width) % 2 ^ width
  if 2 * d < 2 ^ width then (d : Int) else (d : Int) - (2 ^ width : Nat)

/-- The unit yields to the other commander, whose epoch it takes (R580, R581). -/
def yieldTo (role : Nat) (epoch : Word) (foreign ctrl : Nat) (s : State) : State :=
  let s := record 0x1005 6 s.twn.epoch.toNat foreign ctrl s.tickNo (leaveActive 0x0400 s)
  updTwn (fun w => { w with yielded := true, busSeen := false, quietTicks := 0, epoch := epoch, activeRole := role }) s

/-- At the edge after a sighting: who yields (R580). -/
def yield (s : State) : State :=
  match s.twn.sightDue with
  | none => s
  | some g =>
    let s := updTwn (fun w => { w with sightDue := none }) s
    if s.sys.state ≠ .active then s
    else
      match g.frame with
      | none => yieldTo (if s.tw.triad then 3 else 1 - s.pin.strapRole) (s.twn.epoch - 1) 0 g.ctrl s
      | some (r, e, w) =>
        let d := epochDiff s.twn.epoch e w
        let keeps := if d = 0 then (if s.tw.triad then decide (s.pin.strapRole < r) else s.pin.strapHome) else decide (d < 0)
        if keeps then record 0x1006 7 r e g.ctrl s.tickNo s
        else yieldTo r (s.twn.epoch - BitVec.ofInt 32 d) e g.ctrl s

def execYield (t : Nat) (s : State) : Host.Outcome State Fault Refusal := .next (yield (start t s))

/-! ## Heartbeats (R556, R557, R568 to R571, R577, R588, R600, R601) -/

/-- The heartbeat of a tick (R568). -/
def heartbeatSend (s : State) : State := if s.sendsHeartbeat ∧ s.tks.running ∧ 2000 ≤ s.tks.sinceEdge then emit (.heartbeat (s.heartbeat false false)) s else s

def execHeartbeatSend (t : Nat) (s : State) : Host.Outcome State Fault Refusal := .next (heartbeatSend (start t s))

/-- The path is in use towards a peer: the network, or a Carry link that joins the two (R555, R603). -/
def State.pathUsed (s : State) (r path : Nat) : Bool :=
  if path = 2 then s.tw.hbPorts != 0 else bitAt s.tw.linkUse path && peerOfLink s.tw.triad s.pin.strapRole path == r

/-- A peer as its heartbeat shows it. -/
def peerTake (p : Peer) (hb : Heartbeat) (path : Nat) (inWindow : Bool) (ofs : Int) : Peer :=
  { p with
    known := true, format := hb.format, health := hb.health, state := hb.state, level := hb.level, synced := hb.synced, shadowFault := hb.shadowFault
    handoverReq := hb.handoverReq, duplicate := hb.duplicate, holdReturn := hb.holdReturn, mismatch := hb.mismatch, layup := hb.layup, home := hb.home
    epoch := hb.epoch, tickNo := hb.tickNo, carryRx := hb.carryRx, shadowCrc := hb.shadowCrc, imageId := hb.imageId, seen := hb.seen, linkDown := bitAt hb.links 2
    pathsNow := if inWindow then setBit p.pathsNow path true else p.pathsNow
    edgeOfs := if path < 2 then clampI (-8388607) 8388607 ofs else p.edgeOfs }

/-- A path on which nothing was heard for 3 ticks is heard again (TWN_HB_RESTORED). -/
def pathRestored (r path : Nat) (s : State) : State :=
  if 3 ≤ nth (s.peer r).pathMiss path 0 then
    record 0x1008 3 r path 0 s.tickNo (updPeer r (fun p => { p with pathMiss := put p.pathMiss path 0 }) s)
  else updPeer r (fun p => { p with pathMiss := put p.pathMiss path 0 }) s

/-- Which unit is active, as a heartbeat tells a unit that is not (R571, R575, R577, R599, R600). -/
def noteActive (r : Nat) (hb : Heartbeat) (was : DevState) (s : State) : State :=
  let newer := decide (0 ≤ sdiff32 hb.epoch s.twn.epoch)
  if hb.state = .active ∧ (newer ∨ 3 ≤ s.twn.activeRole) then updTwn (fun w => { w with activeRole := r, epoch := hb.epoch }) s
  else if hb.takeover ∧ 0 < sdiff32 hb.epoch s.twn.epoch then updTwn (fun w => { w with activeRole := r, epoch := hb.epoch, entry := none }) s
  else if r = s.twn.activeRole ∧ (hb.state = .standby ∨ hb.state = .start) ∧ ¬ hb.takeover ∧ (was = .active ∨ was = .harbourWatch ∨ was = .failed) then
    updTwn (fun w => { w with activeRole := 3 }) s
  else s

/-- A standby not SYNCED that hears the active unit begins to join (R591). -/
def beginJoin (s : State) : State :=
  if s.sys.state = .standby ∧ ¬ s.twn.synced ∧ ¬ s.twn.yielded ∧ s.twn.join = .none ∧ s.twn.entry.isNone ∧ s.twn.activeRole < 3 ∧ s.twn.activeRole ≠ s.pin.strapRole
      ∧ (s.peer s.twn.activeRole).state = .active then
    updTwn (fun w => { w with join := .edge, joinUp := s.up, blocksHeld := 0, matchRun := 0, shadowed := none }) s
  else s

/-- A standby takes the planned handover from the active unit's heartbeat when it is the target (R595). -/
def noteHandover (r : Nat) (hb : Heartbeat) (s : State) : State :=
  if s.sys.state ≠ .standby ∨ r ≠ s.twn.activeRole ∨ hb.state ≠ .active then s
  else if hb.handoverAt = 0 then updTwn (fun w => { w with handover := none }) s
  else if s.twn.synced && s.firstStandby then updTwn (fun w => { w with handover := some { at_ := hb.handoverAt.toNat, target := s.pin.strapRole, cause := .station } }) s
  else s

/-- A heartbeat with a correct check is heard (R570, R577, R600, R601). -/
def hearHeartbeat (path : Nat) (hb : Heartbeat) (ofs : Int) (s : State) : State :=
  if hb.triad ≠ s.tw.triad then refusePeer hb.role 1 (b2n hb.triad) s
  else if hb.role = s.pin.strapRole then
    let s := if s.twn.dupUp.isSome then s else record 0x100D 6 hb.role 0 hb.role s.tickNo s
    updTwn (fun w => { w with dupUp := some s.up }) s
  else if ¬ s.peerRoles.contains hb.role then s
  else
    let r := hb.role
    let was := (s.peer r).state
    let inWindow := !s.tks.running || decide (s.tks.sinceEdge ≤ s.tw.hbWindowUs * 1000)
    let s := updPeer r (fun p => peerTake p hb path inWindow ofs) s
    let s := if path < 2 then updTwn (fun w => { w with links := upd w.links path (fun k => { k with peerRole := r }) }) s else s
    let s := pathRestored r path s
    match s.sys.state with
    | .active =>
      let s := if hb.takeover ∧ 0 < sdiff32 hb.epoch s.twn.epoch then yieldToTakeover r hb.epoch s else s
      updTwn (fun w => { w with yielded := false }) s
    | .standby =>
      let s := noteActive r hb was (updTwn (fun w => { w with yielded := false }) s)
      let s := if hb.state = .harbourWatch ∧ r = s.twn.activeRole then updTwn (fun w => { w with layup := some r }) s else s
      decideTakeover (beginJoin (noteHandover r hb s))
    | .harbourWatch =>
      if ¬ hb.layup ∧ (hb.state = .start ∨ hb.state = .standby ∨ hb.state = .active) then
        restartFromWatch 2 (record 0x1010 4 (if s.rtc.hwArm then s.pin.strapRole else s.twn.activeRole) 1 0 s.tickNo s)
      else s
    | _ => s

/-- A heartbeat arrives on a path: 0 CL0, 1 CL1, 2 the network (R569, R570). -/
def heartbeatReceived (path : Nat) (hb : Heartbeat) (ofs : Int) (crcOk : Bool) (s : State) : State :=
  if ¬ s.sendsHeartbeat ∨ 3 ≤ path then s
  else if path < 2 ∧ ¬ s.linkUp path then s
  else if path = 2 ∧ ¬ s.netRuns then s
  else if ¬ crcOk then (if path < 2 then linkError path s else s)
  else hearHeartbeat path hb ofs s

def execHeartbeatReceived (t path : Nat) (hb : Heartbeat) (ofs : Int) (crcOk : Bool) (s : State) : Host.Outcome State Fault Refusal :=
  .next (heartbeatReceived path hb ofs crcOk (start t s))

/-- 1 s without a heartbeat of the own ROLE (R556). -/
def duplicateClear (s : State) : State :=
  match s.twn.dupUp with
  | some u => if u + nsPerS ≤ s.up then updTwn (fun w => { w with dupUp := none }) s else s
  | none => s

def execDuplicateClear (t : Nat) (s : State) : Host.Outcome State Fault Refusal := .next (duplicateClear (start t s))

/-- A path of a peer at the end of the window: TWN_HB_LOST at the third tick without a heartbeat. -/
def pathWindow (r : Nat) (s : State) (path : Nat) : State :=
  let p := s.peer r
  if ¬ p.known ∨ ¬ s.pathUsed r path ∨ bitAt p.pathsNow path then s
  else
    let n := min 3 (nth p.pathMiss path 0 + 1)
    let s' := updPeer r (fun p => { p with pathMiss := put p.pathMiss path n }) s
    recordIf (n == 3 && nth p.pathMiss path 0 != 3) 0x1007 5 r path 3 s.tickNo s'

/-- A peer at the end of the window: heard, or missed on every path and, in a TRIAD, by the other peer (R570). -/
def peerWindow (s : State) (r : Nat) : State :=
  let s := (List.range 3).foldl (pathWindow r) s
  let p := s.peer r
  let byOther := s.tw.triad && s.peerRoles.any (fun q => q != r && (s.peer q).pathsNow != 0 && bitAt (s.peer q).seen r)
  let heard := p.pathsNow != 0 || byOther
  updPeer r (fun p => { p with
    pathsLast := p.pathsNow
    miss := if heard then 0 else if p.known ∨ r = s.twn.activeRole then min 3 (p.miss + 1) else p.miss
    lowRun := if p.pathsNow ≠ 0 ∧ p.state = .active ∧ p.level < s.sys.level then min 3 (p.lowRun + 1) else if heard && p.pathsNow == 0 then p.lowRun else 0 }) s

/-- Silence while YIELDED: neither a heartbeat nor a command frame of another role (R581). -/
def yieldedWindow (s : State) : State :=
  if s.twn.yielded then updTwn (fun w => { w with quietTicks := if w.busSeen then 0 else w.quietTicks + 1, busSeen := false }) s
  else updTwn (fun w => { w with busSeen := false }) s

/-- Edge alignment of a joining unit: its edges lie within EDGE_TOL of the active unit's, measured on a Carry link (R591). -/
def joinEdge (s : State) : State :=
  let p := s.peer s.twn.activeRole
  if s.twn.join = .edge ∧ p.pathsLast &&& 3 ≠ 0 ∧ p.edgeOfs.natAbs ≤ s.tw.edgeTolUs * 1000 ∧ p.state = .active then updTwn (fun w => { w with join := .tick }) s
  else s

/-- The conditions of the return to the HOME unit, as the HOME standby has them of itself or the active unit of its HOME peer (R597). -/
def State.returnHolds (s : State) : Bool :=
  if s.tw.triad || s.tw.returnDelayS == 0 || s.twn.holdReturn || s.twn.duplicate then false
  else
    let p := s.peer (1 - s.pin.strapRole)
    let both := p.known && p.miss == 0 && !p.holdReturn && p.imageId == s.image.id
    match s.sys.state with
    | .standby => both && s.pin.strapHome && s.twn.synced && !s.twn.shadowFault && p.state == .active && decide (p.level ≤ s.sys.level)
    | .active => both && p.home && p.state == .standby && p.synced && !p.shadowFault && !p.mismatch && decide (s.sys.level ≤ p.level)
    | _ => false

/-- The return count runs, or restarts at 0 (R597). -/
def returnCount (s : State) : State := updTwn (fun w => { w with returnFrom := if s.returnHolds then some (w.returnFrom.getD s.up) else none }) s

/-- Both standbys of a TRIAD report a mismatch of the same tick with equal SHADOW_CRC (R588). -/
def outvoted (s : State) : State :=
  match s.peerRoles with
  | [a, b] =>
    let p := s.peer a
    let q := s.peer b
    if s.sys.state = .active ∧ p.state = .standby ∧ q.state = .standby ∧ p.pathsLast ≠ 0 ∧ q.pathsLast ≠ 0 ∧ p.mismatch ∧ q.mismatch ∧ p.tickNo = q.tickNo ∧ p.shadowCrc = q.shadowCrc ∧ ¬ bitAt s.saf.present 11 then
      raiseFault 11 (record 0x100F 7 ((p.tickNo - 2).toNat) p.shadowCrc.toNat ((nth s.twn.ownCrc 1 0).toNat) s.tickNo s)
    else s
  | _ => s

/-- HB_WINDOW after the own tick edge closes (R570, R573, R575). -/
def windowEnd (s : State) : State :=
  if s.twn.windowDone ∨ ¬ s.tks.running ∨ ¬ s.sendsHeartbeat ∨ s.tks.sinceEdge < s.tw.hbWindowUs * 1000 then s
  else
    let s := s.peerRoles.foldl peerWindow (updTwn (fun w => { w with windowDone := true }) s)
    outvoted (decideTakeover (returnCount (joinEdge (yieldedWindow s))))

def execHeartbeatWindowEnd (t : Nat) (s : State) : Host.Outcome State Fault Refusal := .next (windowEnd (start t s))

/-! ## Joining (R591) -/

/-- SYNC_MATCH ticks have matched: SYNCED (R591). -/
def joinSynced (s : State) : State :=
  if s.sys.state = .standby ∧ s.twn.join = .match_ ∧ s.tw.syncMatch ≤ s.twn.matchRun then
    record 0x100C 3 s.twn.activeRole ((s.up - s.twn.joinUp) / 1000000 : Nat) 0 s.tickNo (updTwn (fun w => { w with synced := true, join := .none, cleanRun := 0 }) s)
  else s

def execJoinSynced (t : Nat) (s : State) : Host.Outcome State Fault Refusal := .next (joinSynced (start t s))

/-- At an edge the joining unit takes the group's TICK_EXT from the Carry header; what it counts in ticks goes on (R40, R591). The edge has its own count already. -/
def renumber (s : State) : State :=
  match (if s.twn.join = .tick then s.lastFrame else none) with
  | none => s
  | some x =>
    let new : Nat := (x.hdr.tickExt + (s.tks.tickExt - x.ownTick)) % 2 ^ 48
    let old : Nat := s.tks.tickExt
    let shiftTick := fun (k : Nat) => (((k : Int) + (new : Int)) - (old : Int)).toNat
    let s := record 0x0504 4 (old % 2 ^ 32) (new % 2 ^ 32) (old / 2 ^ 32) (new / 2 ^ 32) s
    { s with
      tks := { s.tks with tickExt := new }
      pim := { s.pim with readyTick := shiftTick s.pim.readyTick, pts := s.pim.pts.map (fun y => (y.1, { y.2 with fresh := shiftTick y.2.fresh })) }
      mbcs := s.mbcs.map (fun m => { m with goodSince := m.goodSince.map shiftTick, txq := m.txq.map (fun f => { f with expire := shiftTick f.expire }) })
      twn := { s.twn with join := .blocks, blocksHeld := 0, rx := s.twn.rx.map (fun y => { y with ownTick := shiftTick y.ownTick }) } }

/-! ## Planned handover, return and exchange (R593 to R598) -/

/-- A peer may be the target of a handover asked for a cause (R593, R594). -/
def State.mayTarget (s : State) (c : HandoverCause) (r : Nat) : Bool :=
  let p := s.peer r
  let byHand := match c with | .station => true | .register => true | _ => false
  s.standbyHeard r && p.synced && !p.shadowFault && decide (s.sys.level ≤ p.level) && !p.duplicate && !s.twn.duplicate
    && (if byHand then (p.imageId == s.image.id || Config.formatOk p.format) else p.imageId == s.image.id)

/-- The target: the first in the order of R574 of those that may be one. -/
def State.handoverTarget (s : State) (c : HandoverCause) : Option Nat :=
  let l := s.peerRoles.filter (s.mayTarget c)
  l.find? (fun r => l.all (fun q => q == r || standbyFirst (s.peerRank r) (s.peerRank q)))

/-- A request for a planned handover: it waits for its acceptance, or is refused for want of a target (R593). -/
def requestHandover (c : HandoverCause) (s : State) : Bool × State :=
  if s.sys.state ≠ .active then (false, s)
  else if s.twn.handover.isSome then (true, s)
  else
    match s.handoverTarget c with
    | none => (false, record 0x1004 4 2 3 0 s.tickNo s)
    | some _ => (true, updTwn (fun w => { w with request := match w.request with | some .exchange => some c | some d => some d | none => some c }) s)

/-- The active unit accepts a request and sets HANDOVER_AT (R595). -/
def handoverAccept (s : State) : State :=
  match s.twn.request with
  | none => s
  | some c =>
    let s := updTwn (fun w => { w with request := none }) s
    if s.sys.state ≠ .active then s
    else
      match s.handoverTarget c with
      | none => record 0x1004 4 2 3 0 s.tickNo s
      | some r => updTwn (fun w => { w with handover := some { at_ := (s.tickNo + s.tw.handoverLead) % 2 ^ 32, target := r, cause := c } }) s

def execHandoverAccept (t : Nat) (s : State) : Host.Outcome State Fault Refusal := .next (handoverAccept (start t s))

/-- Codes of TWN_HANDOVER (R605). -/
def handoverCode : HandoverCause → Nat
  | .station => 0 | .register => 1 | .return_ => 2 | .exchange => 3 | .yielded => 4

/-- At edge h the old active unit enters STANDBY and shadows from its own tick h − 1; the target enters ACTIVE (R595). -/
def handoverEdge (s : State) : State :=
  match s.twn.handover with
  | none => s
  | some h =>
    if h.at_ ≠ s.tickNo then s
    else
      match s.sys.state with
      | .active =>
        if ¬ s.mayTarget h.cause h.target then abortHandover 0 s
        else
          let due := s.net.cmdsDue
          let e := s.twn.epoch + 1
          let s := record 0x1003 4 (handoverCode h.cause) s.pin.strapRole h.target e.toNat (leaveActive (0x0300 + handoverCode h.cause) s)
          { s with
            net := { s.net with cmdsDue := due }
            twn := { s.twn with epoch := e, activeRole := h.target, synced := true, shadowed := some (s.tks.tickExt - 1), needAdopt := false, rx := []
                                ownCtxs := s.str.ctxs.map (fun c => { c with buf := [] }) } }
      | .standby =>
        let s := updTwn (fun w => { w with handover := none }) s
        if h.target ≠ s.pin.strapRole then s
        else
          let a := confirmActive 2 s
          if ¬ a.1 then a.2 else becomeActive 0x0300 (updTwn (fun w => { w with epoch := w.epoch + 1 }) a.2)
      | _ => updTwn (fun w => { w with handover := none }) s

def execHandoverEdge (t : Nat) (s : State) : Host.Outcome State Fault Refusal := .next (handoverEdge (start t s))

/-- The target has lost a condition of R593, or was not heard (R596, R602). -/
def handoverAbort (s : State) : State :=
  match s.twn.handover with
  | none => s
  | some h => if s.sys.state = .active ∧ ¬ s.mayTarget h.cause h.target then abortHandover 0 s else s

def execHandoverAbort (t : Nat) (s : State) : Host.Outcome State Fault Refusal := .next (handoverAbort (start t s))

/-- ROLE_XCHG_PERIOD passes on the active unit (R593). -/
def roleExchangeDue (s : State) : State :=
  if s.sys.state = .active ∧ 0 < s.tw.roleXchgH ∧ s.twn.xchgUp + s.tw.roleXchgH * 3600 * nsPerS ≤ s.up then
    (requestHandover .exchange (updTwn (fun w => { w with xchgUp := s.up }) s)).2
  else s

def execRoleExchangeDue (t : Nat) (s : State) : Host.Outcome State Fault Refusal := .next (roleExchangeDue (start t s))

/-- RETURN_DELAY has run without a break: the active unit takes the return's request (R597). -/
def returnDue (s : State) : State :=
  match s.twn.returnFrom with
  | some u =>
    if s.sys.state = .active ∧ s.returnHolds ∧ u + s.tw.returnDelayS * nsPerS ≤ s.up then
      (requestHandover .return_ (updTwn (fun w => { w with returnFrom := none }) s)).2
    else s
  | none => s

def execReturnDue (t : Nat) (s : State) : Host.Outcome State Fault Refusal := .next (returnDue (start t s))

/-- Seconds of RETURN_DELAY still to run; 0xFFFF when not counting (TWN_RETURN). -/
def State.returnLeft (s : State) : Nat :=
  match s.twn.returnFrom with
  | some u => s.tw.returnDelayS - (s.up - u) / nsPerS
  | none => 0xFFFF

/-! ## TWN_CMD (R597, R606) -/

def twnHandover (s : State) : State := if s.sys.state = .active then (requestHandover .register s).2 else s
def holdReturn (s : State) : State := updTwn (fun w => { w with holdReturn := true, returnFrom := none }) s
def releaseReturn (s : State) : State := updTwn (fun w => { w with holdReturn := false, returnFrom := none }) s

/-- A write of TWN_CMD; with both set, RELEASE_RETURN comes last (DESIGN CHOICE). -/
def twnCmd (v : Word) (s : State) : State :=
  let s := if bitAt v 1 then holdReturn s else s
  let s := if bitAt v 2 then releaseReturn s else s
  if bitAt v 0 then twnHandover s else s

/-! ## Lay-up (R600) -/

/-- A standby follows the active unit into HARBOUR WATCH, unarmed, and releases PWR_ON (R600). -/
def enterUnarmed (cause : Nat) (commander : Nat) (s : State) : State :=
  let s := enterState .harbourWatch cause s
  let s := armWatchdogs (record 0x1010 4 commander 0 0 s.tickNo s)
  updRtc (fun r => { r with hwArm := false, wakeEn := false, pwrOn := false }) (updTwn (fun w => { w with layup := none, synced := false, join := .none, entry := none, handover := none }) s)

def layupFollow (s : State) : State :=
  match s.twn.layup with
  | some r => if s.sys.state = .standby then enterUnarmed 0x0501 r s else updTwn (fun w => { w with layup := none }) s
  | none => s

def execLayupFollow (t : Nat) (s : State) : Host.Outcome State Fault Refusal := .next (layupFollow (start t s))

/-! ## The parts of the tick (R45, R560, R580, R583, R584, R589) -/

/-- TWN at a tick edge: SEQ goes on, sightings fall due, windows open again, a joining unit takes the tick number, and what a frame brought is taken. The tick count has advanced already. -/
def twnEdge (s : State) : State :=
  let s := updTwn (fun w => { w with
    seq := w.seq + 1, sightDue := w.sighting, sighting := none, windowDone := false, dueDone := false, shadow := none
    peers := w.peers.map (fun p => { p with pathsNow := 0 }), sinceCmp := satAdd w.sinceCmp 1 0xFFFFFFFF
    rx := w.rx.filter (fun x => decide (s.tks.tickExt ≤ x.ownTick + 1)) }) s
  takeCarried (renumber s)

/-- The standby's own input side in P0: its contexts collect, and the samples wait for replay after an entry (R584). -/
def ownCollect (all : List RawSample) (lost : Nat → Bool) (s : State) : State :=
  let own := if s.twn.shadow.isSome then s.twn.ownCtxs.map (fun c => { c with buf := [] }) else s.twn.ownCtxs
  let s1 := strCollect all lost { s with str := { s.str with ctxs := own } }
  { s1 with str := { s.str with inbox := [] }, twn := { s1.twn with ownCtxs := s1.str.ctxs } }

/-- The unit computes its ticks as a shadow (R583, R591). -/
def State.isShadow (s : State) : Bool := s.sys.state == .standby && (s.twn.synced || s.twn.join == .match_)

/-- The frame of the tick before is there to be shadowed (R583). -/
def beginShadow (s : State) : State :=
  if s.isShadow && s.expectsFrame then
    match s.lastFrame with
    | some x => if x.inputs.isSome then updTwn (fun w => { w with shadow := some x }) s else s
    | none => s
  else s

/-- TWN_STATUS (R606). -/
def State.twnStatus (s : State) : Word :=
  packWord [(31, 1, b2n s.twn.synced), (30, 1, b2n s.twn.shadowFault), (29, 1, b2n s.twn.yielded), (28, 1, b2n s.twn.duplicate), (27, 1, b2n s.twn.holdReturn),
    (26, 1, b2n s.twn.handover.isSome), (25, 1, b2n s.inProbation), (24, 1, b2n (s.twn.join != .none)), (18, 2, s.twn.activeRole),
    (8, 3, (s.peer s.twn.activeRole).pathsLast.toNat), (0, 2, s.hbMiss)]

/-- The health report of P6 (R589). -/
def healthReport (s : State) : State :=
  let p := fun (k : Nat) => s.tw.pointBase.map (fun b => b + k)
  let hour := (s.twn.hourMis.filter (fun u => decide (s.up < u + 3600 * nsPerS))).length
  let s' := blockPoint 16 (p 0) s.twnStatus 1 0 false s.sysNow s
  let s' := blockPoint 16 (p 1) s.twn.epoch 1 0 false s.sysNow s'
  let s' := blockPoint 16 (p 2) (wordN hour) 1 0 false s.sysNow s'
  blockPoint 16 (p 3) (wordN s.twn.sinceCmp) 1 0 false s.sysNow s'

/-- The TWN registers, by word offset from 0x0060_0000 (R606). -/
def State.twnReg (s : State) (off : Nat) : Option Word :=
  let w := s.twn
  match off with
  | 0x00 => some s.twnStatus
  | 0x04 => some w.epoch
  | 0x08 => some w.carryTx
  | 0x0C => some w.carryRx
  | 0x10 => some (packWord [(16, 16, w.lostCnt), (8, 8, w.incomplete), (0, 8, w.relayed)])
  | 0x14 => some (packWord [(16, 16, w.comparedRc), (0, 16, w.mismatchRc)])
  | 0x18 => some 0
  | 0x1C => some (wordN s.returnLeft)
  | 0x20 => some (match w.handover with | some h => wordN h.at_ | none => 0)
  | _ =>
    if 0x40 ≤ off ∧ off < 0x48 ∧ off % 4 = 0 then
      let l := (off - 0x40) / 4
      let k := nth w.links l {}
      some (packWord [(31, 1, b2n k.up), (30, 1, b2n (s.imageOk && bitAt s.tw.linkUse l)), (28, 2, k.peerRole), (0, 16, k.crcErr)])
    else if 0x80 ≤ off ∧ off < 0xB0 then
      let p := s.peer ((off - 0x80) / 0x10)
      if off % 0x10 = 0 then some p.health
      else if off % 0x10 = 4 then
        some (packWord [(29, 3, p.pathsLast.toNat), (28, 1, b2n (p.pathsLast != 0)), (26, 2, p.miss), (25, 1, b2n p.synced), (24, 1, b2n p.shadowFault)]
          ||| (BitVec.ofInt 24 p.edgeOfs).setWidth 32)
      else none
    else none

end Sys2Proof.Machine
end

