-- ==== Sys2Proof/Machine/Startup.lean ====
section
/-! DEFINITION. The start of the device from reset release to READY: the start record, the configuration memory's directory, the slots, the claims, the role at start (R51, R99, R551, R571, R698 to R728). -/

namespace Sys2Proof.Machine

open Sys2Proof

def updBoot (f : Boot → Boot) (s : State) : State := { s with boot := f s.boot }
def updRec0 (f : StartRec → StartRec) (s : State) : State := updRtc (fun r => { r with startRecs := upd r.startRecs 0 f }) s
def State.rec0 (s : State) : StartRec := nth s.rtc.startRecs 0 {}

/-- An instant of the start, ms from reset release. -/
def atMs (ms : Nat) (s : State) : State := { s with tks := { s.tks with upEdge := 0, sinceEdge := ms * nsPerMs } }

/-! ## The configuration memory (R711, R712, R715) -/

/-- A byte of the configuration memory; what is not listed is erased. -/
def flashByte (m : List Host.Cell) (a : Nat) : Byte := (assoc m a).getD 0xFF

/-- Bytes of the configuration memory. -/
def flashBytes (m : List Host.Cell) (a n : Nat) : List Byte := (List.range n).map (fun i => flashByte m (a + i))

/-- Place a byte: the list stays in order of address, and a byte 0xFF is not listed. -/
def flashPut (m : List Host.Cell) (a : Nat) (b : Byte) : List Host.Cell :=
  match m with
  | [] => if b = 0xFF then [] else [(a, b)]
  | (x, c) :: rest =>
    if a < x then (if b = 0xFF then (x, c) :: rest else (a, b) :: (x, c) :: rest)
    else if a = x then (if b = 0xFF then rest else (a, b) :: rest)
    else (x, c) :: flashPut rest a b

/-- Place bytes from an address on. -/
def flashSet : List Host.Cell → Nat → List Byte → List Host.Cell
  | m, _, [] => m
  | m, a, b :: bs => flashSet (flashPut m a b) (a + 1) bs

/-- The canonical form: addresses rising, no byte 0xFF listed. -/
def flashWf : List Host.Cell → Bool
  | [] => true
  | [(_, b)] => b != 0xFF
  | (a, b) :: (a', b') :: rest => b != 0xFF && decide (a < a') && flashWf ((a', b') :: rest)

/-- The content of an erased sector of 4 KiB. -/
def erased : List Byte := List.replicate 4096 0xFF

/-- A slot of the directory. -/
structure DirSlot where
  fwOfs    : Nat
  fwLen    : Nat
  imgOfs   : Nat
  imgLen   : Nat
  fwState  : Nat
  imgState : Nat
  deriving DecidableEq, Repr

/-- A directory copy. -/
structure Directory where
  copy   : Nat
  gen    : Nat
  fwB    : Bool
  cfgB   : Bool
  a      : DirSlot
  b      : DirSlot
  deriving DecidableEq, Repr

/-- Address of a directory copy. -/
def dirAddr (copy : Nat) : Nat := copy * 0x1000

/-- A big-endian word of a list of bytes (DEDUCED: MAGIC reads DIR0 so). -/
def word4 (bs : List Byte) (o : Nat) : Nat := beNat ((bs.drop o).take 4)

/-- Slot k of a directory. -/
def dirSlot (bs : List Byte) (k : Nat) : DirSlot :=
  let o := 24 * k
  { fwOfs := word4 bs (16 + o), fwLen := word4 bs (20 + o), imgOfs := word4 bs (24 + o), imgLen := word4 bs (28 + o)
    fwState := (nth bs (32 + o) 0).toNat, imgState := (nth bs (33 + o) 0).toNat }

/-- The directory in 128 bytes, when MAGIC and CRC are right (R712). -/
def parseDir (copy : Nat) (bs : List Byte) : Option Directory :=
  if word4 bs 0 = 0x44495230 ∧ crc32 (bs.take 124) = word4 bs 124 then
    let p := nth bs 12 0
    some { copy := copy, gen := word4 bs 4, fwB := p.getLsbD 0, cfgB := p.getLsbD 1, a := dirSlot bs 0, b := dirSlot bs 1 }
  else none

/-- The valid copy of higher GEN (R712). -/
def State.directory (s : State) : Option Directory :=
  match parseDir 0 (flashBytes s.flash (dirAddr 0) 128), parseDir 1 (flashBytes s.flash (dirAddr 1) 128) with
  | some x, some y => if x.gen < y.gen then some y else some x
  | some x, none => some x
  | none, y => y

def Directory.slot (d : Directory) (b : Bool) : DirSlot := if b then d.b else d.a

/-- Write the directory copy that does not hold the higher GEN, GEN raised by 1, the other bytes as the standing copy has them (R715). `f` makes the changes of one byte or word: offset and bytes. -/
def writeDir (d : Directory) (changes : List (Nat × List Byte)) (s : State) : State :=
  let bs := flashBytes s.flash (dirAddr d.copy) 128
  let bs := ((4, beBytes 4 ((d.gen + 1) % 2 ^ 32)) :: changes).foldl (fun (l : List Byte) c => l.take c.1 ++ c.2 ++ l.drop (c.1 + c.2.length)) bs
  let bs := bs.take 124
  let bs := bs ++ beBytes 4 (crc32 bs)
  let target := dirAddr (1 - d.copy)
  { s with flash := flashSet (flashSet s.flash target erased) target bs }

/-- The byte PREFER. -/
def preferByte (fwB cfgB : Bool) : Byte := BitVec.ofNat 8 (b2n fwB + 2 * b2n cfgB)

/-! ## The start record (R705 to R709) -/

/-- A start that ended without an OUTCOME is read as RESET, its REACHED step failed (R706). -/
def settleRec (r : StartRec) : StartRec :=
  if r.used ∧ r.outcome = .none then { r with outcome := .reset, failMask := setBit r.failMask r.reached true } else r

/-- A step begins: it is written to REACHED. -/
def reach (step ms : Nat) (s : State) : State := atMs ms (updBoot (fun b => { b with step := step }) (updRec0 (fun r => { r with reached := step, used := true }) s))

/-- The bits a failed step sets: S6 and S10 also those of S4 and S5 (R706). -/
def failBits (step : Nat) (m : BitVec 12) : BitVec 12 :=
  let m := setBit m step true
  if step = 6 ∨ step = 10 then setBit (setBit m 4 true) 5 true else m

/-- A step fails, or is taken by its alternative within the start (R705). -/
def stepFails (step cause slot : Nat) (s : State) : State :=
  record 0x1302 5 step cause slot ((s.up / nsPerMs : Nat)) (updRec0 (fun r => { r with failMask := failBits step r.failMask }) s)

/-- A step is taken by its alternative: within the start, or from the outset under R707. -/
def stepAlternative (step : Nat) (outset : Bool) (slot : Nat) (s : State) : State :=
  let s := if outset then updRec0 (fun r => { r with altMask := setBit r.altMask step true, failMask := setBit r.failMask step false }) (updBoot (fun b => { b with altSteps := setBit b.altSteps step true }) s) else s
  record 0x1303 4 step (b2n outset) slot s.rec0.startNo s

/-- Steps failed on the two previous starts (R707). -/
def State.failedTwice (s : State) (step : Nat) : Bool :=
  let e1 := nth s.rtc.startRecs 1 {}
  let e2 := nth s.rtc.startRecs 2 {}
  e1.used && e2.used && bitAt e1.failMask step && bitAt e2.failMask step

/-- The start stops at level 0 (R702, R709, R713). -/
def halt (cause : Nat) (s : State) : State :=
  record 0x1306 7 cause s.boot.step 0 s.rec0.startNo
    (updBoot (fun b => { b with halted := true, haltCause := cause }) (updRec0 (fun r => { r with outcome := .halted }) s))

/-! ## S0 to S7 -/

/-- The start cause (R684). -/
def State.causeNow (s : State) (wake : Bool) : StartCause :=
  if s.rtc.bkupSince then .backupReset else if s.rtc.startCause = .rstN then .rstN else if wake then .rtcWake else .power

/-- S0: power good, straps latched, the start record moved down, and what the backup domain has to report (R551, R683, R698, R704, R705). Whether every entry before shows a failed start (R709). -/
def stepS0 (i : StartIn) (s : State) : Bool × State :=
  let old := s.rtc.startRecs.map settleRec
  let exhausted := old.all (fun r => r.used && r.outcome != .ready)
  let no := ((nth old 0 {}).startNo + 1) % 256
  let s := updRtc (fun r => { r with startRecs := ({ used := true, startNo := no } : StartRec) :: old.take 7, startCause := s.causeNow i.wake, bkupSince := false, pwrOn := true, wakePending := false, secUp := 0 }) s
  let s := { s with sys := { s.sys with state := .start }, pin := { s.pin with strapRole := i.role % 4, strapHome := i.home } }
  let s := reach 0 (nth i.endMs 0 0) s
  let s := record 0x0101 4 Config.offStateCode (devCode .start) 0 s.tickNo s
  let s := match s.rtc.timeoutToReport with
    | some (st, n) => record 0x1307 6 st n 0 0 (updRtc (fun r => { r with timeoutToReport := none }) s)
    | none => s
  (exhausted, s)

/-- S1: the partition's self-test; a failure is fault 0 (R624, R629). -/
def stepS1 (i : StartIn) (s : State) : State :=
  let s := reach 1 (nth i.endMs 1 0) s
  match i.selfTest with
  | none => { s with saf := { s.saf with spOk := true, safeOk := true, s1Passed := true } }
  | some (part, test) => raiseFault 0 (record 0x0201 7 part test 0 0 (stepFails 1 0 0 s))

/-- S2: the PLLs lock, or the start runs on SAFE (R702, R707). The domains and reference inputs run as found. -/
def stepS2 (i : StartIn) (s : State) : State :=
  let alt := s.failedTwice 2
  let s := reach 2 (nth i.endMs 2 0) s
  if alt then stepAlternative 2 true 0 (updBoot (fun b => { b with onSafe := true }) { s with clk := { s.clk with running := 0x0004 } })
  else if i.pllOk then { s with clk := { s.clk with running := i.running ||| 0x0004 } }
  else stepAlternative 2 false 0 (updBoot (fun b => { b with onSafe := true }) { (stepFails 2 2 0 s) with clk := { s.clk with running := 0x0004 } })

/-- A firmware slot serves: VALID and accepted (R713, R714). -/
def State.fwServes (s : State) (d : Directory) (b : Bool) : Option Word :=
  let k := d.slot b
  if k.fwState = 1 ∧ k.fwLen ≤ 0x800000 then Config.firmware s.flash k.fwOfs k.fwLen else none

/-- A configuration slot serves: VALID, its image sound, and the firmware running within its range (R713, R720). -/
def State.imgServes (s : State) (d : Directory) (b : Bool) : Option Image :=
  let k := d.slot b
  if k.imgState = 1 ∧ k.imgLen ≤ 0x1000000 then
    match Config.holvous s.flash k.imgOfs k.imgLen with
    | some v => if v.fwMin ≤ s.boot.fwVersion.toNat ∧ s.boot.fwVersion.toNat ≤ v.fwMax then some v else none
    | none => none
  else none

/-- S4: a firmware slot is taken and started, or the other one (R707, R713). -/
def stepS4 (i : StartIn) (d : Directory) (s : State) : State :=
  let alt := s.failedTwice 4
  let first := d.fwB != alt
  let s := reach 4 (nth i.endMs 4 0) s
  let use := fun (b : Bool) (v : Word) (s : State) =>
    updRec0 (fun r => { r with fwSlot := b }) (updBoot (fun x => { x with fwSlot := b, fwVersion := v, fwRuns := true }) s)
  let s := if alt then stepAlternative 4 true (b2n first) s else s
  match s.fwServes d first with
  | some v => use first v s
  | none =>
    let s := if alt then s else stepFails 4 0 (b2n first) s
    match s.fwServes d (!first) with
    | some v => use (!first) v (if alt then s else stepAlternative 4 false (b2n (!first)) s)
    | none => halt 1 s

/-- S5: a configuration slot is taken, or the other one (R707, R713, R720, R721). -/
def stepS5 (i : StartIn) (d : Directory) (s : State) : State :=
  let alt := s.failedTwice 5
  let first := d.cfgB != alt
  let s := reach 5 (nth i.endMs 5 0) s
  let use := fun (b : Bool) (v : Image) (s : State) =>
    let s := updRec0 (fun r => { r with cfgSlot := b }) (updBoot (fun x => { x with cfgSlot := b, imageId := v.id }) { s with image := v, imageOk := true })
    let lostGn := v.clocks.gsmpExpect && bitAt v.clocks.domainUse 7 && !bitAt s.clk.running 7 && !s.boot.onSafe
    let used : BitVec 14 := (v.clocks.domainUse.setWidth 14 ||| 0x1405) ||| (if v.clocks.serdesRef then 0x2000 else 0)
    let used := if v.clocks.serdesRef then used else used &&& ~~~0x0018
    let s := { s with clk := { s.clk with running := s.clk.running &&& used } }
    if lostGn then record 0x0301 6 7 0 0 s.tickNo { s with clk := { s.clk with lost := setBit s.clk.lost 7 true } } else s
  let s := if alt then stepAlternative 5 true (b2n first) s else s
  match s.imgServes d first with
  | some v => use first v s
  | none =>
    let s := if alt then s else stepFails 5 0 (b2n first) s
    match s.imgServes d (!first) with
    | some v => use (!first) v (if alt then s else stepAlternative 5 false (b2n (!first)) s)
    | none => halt 2 s

/-! ## Claims (R723 to R726) -/

/-- The code of a pulse timer's owner (PIN_TIMER). -/
def timerOwner : Feature → Nat
  | .syncOut k => k + 1
  | .tp1 => 9
  | .pdiv p => p + 10
  | _ => 15

/-- A feature of bank X (R723). -/
def needsBankX : Feature → Bool
  | .sdBankX => true
  | .evtIn => true
  | .uartBankX => true
  | _ => false

/-- The unit number of a feature's balls. -/
def featureUnit : Feature → Nat
  | .uart n => n | .encoder n => n | .pwm n => n | .pdiv n => n | .syncOut n => n | .mbc n => n | .antenna n => n | .sdClk n => n
  | .sdDat lo _ => lo | .allot o => o | _ => 0

/-- Two features share balls: the same feature, or groups of SD_DAT that overlap. -/
def shareBalls (x y : Feature) : Bool :=
  match x, y with
  | .sdDat a b, .sdDat c d => decide (a ≤ d) && decide (c ≤ b)
  | .allot _, _ => false
  | _, _ => x == y

/-- Two allotments overlap. -/
def overlap (x y : Claim) : Bool :=
  match x.feature, y.feature with
  | .allot _, .allot _ => decide (x.start < y.start + y.len) && decide (y.start < x.start + x.len)
  | _, _ => false

/-- The first accepted claim that a test finds. -/
def heldBy (l : List (Nat × Claim)) (p : Claim → Bool) : Option Nat := (l.find? (fun x => p x.2)).map (·.1)

/-- The timer a claim takes, or none when none is free; claims without a timer take none. -/
def timerFor (timers : List Nat) : TimerUse → Option (Option Nat)
  | .none => some none
  | .named k => if nth timers k 1 = 0 then some (some k) else none
  | .any => ((List.range 8).find? (fun k => nth timers k 1 == 0)).map some

/-- The claims as resolved so far: accepted ones with their indices, timers, and rejections (index, kind, resource, holder). -/
structure Resolved where
  ok     : List (Nat × Claim) := []
  timers : List Nat := List.replicate 8 0
  bad    : List (Nat × Nat × Nat × Nat) := []
  deriving DecidableEq, Repr

/-- One claim in image order (R724). -/
def resolveOne (r : Resolved) (x : Nat × Claim) : Resolved :=
  let c := x.2
  let reject := fun (kind res holder : Nat) => { r with bad := r.bad ++ [(x.1, kind, res, holder)] }
  match heldBy r.ok (fun y => shareBalls c.feature y.feature && !needsBankX c.feature) with
  | some j => reject 0 (featureUnit c.feature) j
  | none =>
    match (if needsBankX c.feature then heldBy r.ok (fun y => needsBankX y.feature) else none) with
    | some j => reject 1 0 j
    | none =>
      match timerFor r.timers c.timer with
      | none =>
        let k := match c.timer with | .named k => k | _ => 0
        reject 2 k ((heldBy r.ok (fun y => y.timer != .none && timerOwner y.feature == nth r.timers k 0)).getD 0)
      | some tm =>
        match heldBy r.ok (overlap c) with
        | some j => reject 3 (featureUnit c.feature) j
        | none => { r with ok := r.ok ++ [x], timers := match tm with | some k => put r.timers k (timerOwner c.feature) | none => r.timers }

def resolveClaims (l : List Claim) : Resolved := ((List.range (min 256 l.length)).zip l).foldl resolveOne {}

/-- S6: claims resolved and locked, firewall loaded and locked, the Tally store opened (R651, R698, R724, R725). -/
def stepS6 (i : StartIn) (s : State) : State :=
  let s := reach 6 (nth i.endMs 6 0) s
  if ¬ i.claimsOk then stepFails 6 0 0 s
  else
    let r := resolveClaims s.image.pins.claims
    let s := r.bad.foldl (fun s b => record 0x1401 4 b.1 b.2.1 b.2.2.1 b.2.2.2 s) s
    let s := { s with
      pin := { s.pin with claims := s.image.pins.claims, accepted := maskOf 256 (fun k => r.ok.any (fun x => x.1 == k))
                          rejected := maskOf 256 (fun k => r.bad.any (fun x => x.1 == k)), timers := r.timers }
      saf := { s.saf with claimsLocked := true, fwLocked := true }
      evr := { s.evr with store := { s.evr.store with attached := i.storeAttached } } }
    let s := record 0x1402 2 r.ok.length r.bad.length (maskOf 8 (fun k => nth r.timers k 0 != 0)).toNat 0 s
    openStore i.storeOk s

/-- A defect the BIST found: the region's owner is frozen, SP's region is fault 3 (R701). -/
def bistDefect (s : State) (b : Nat × Nat × Nat) : State :=
  let s := record 0x130A 5 b.1 b.2.1 b.2.2 0 s
  if b.1 = 6 then raiseFault 3 s else if b.1 ≤ 16 then freezeFault 16 b.1 4 false (wordN b.2.2) s else s

/-- S7: the memory BIST, or the scrubber's first pass in its stead (R701, R703, R707). -/
def stepS7 (i : StartIn) (s : State) : State :=
  let alt := s.failedTwice 7
  let s := reach 7 (nth i.endMs 7 0) s
  if alt then
    record 0x1304 4 7 s.rec0.startNo 0 0 (updBoot (fun b => { b with altSteps := setBit b.altSteps 7 true }) (updRec0 (fun r => { r with altMask := setBit r.altMask 7 true }) s))
  else if i.bistDone then i.bist.foldl bistDefect s
  else stepAlternative 7 false 0 (stepFails 7 1 0 s)

/-! ## Role at start and READY (R51, R552, R571, R572) -/

/-- Peers heard that a condition picks. -/
def State.anyPeer (s : State) (f : Peer → Bool) : Bool := s.peerRoles.any (fun r => let p := s.peer r; p.known && f p)

/-- The row of the table of role at start, in table order, as heard at S8 (R571). -/
def State.heardRow (s : State) : Nat :=
  if s.twn.duplicate then 5
  else if s.anyPeer (fun p => p.state == .active) then 0
  else if s.anyPeer (fun p => p.layup) then 4
  else if s.anyPeer (fun _ => true) then 1
  else 2

/-- The highest epoch heard, by signed difference. -/
def State.highestEpoch (s : State) : Word :=
  s.peerRoles.foldl (fun e r => let p := s.peer r; if p.known ∧ 0 < sdiff32 p.epoch e then p.epoch else e) 0

/-- A peer that may yet become ACTIVE at its READY. -/
def State.contends (s : State) (r : Nat) : Bool := let p := s.peer r; p.known && (p.state == .start || p.state == .standby)

/-- The unit the second row of the table makes ACTIVE: HOME in a PAIR, the lowest ROLE in a TRIAD, among those that reach READY. -/
def State.designated (s : State) : Nat :=
  let others := s.peerRoles.filter s.contends
  if s.tw.triad then others.foldl min s.pin.strapRole
  else
    match others with
    | [] => s.pin.strapRole
    | r :: _ => if s.pin.strapHome && !(s.peer r).home then s.pin.strapRole else if (s.peer r).home && !s.pin.strapHome then r else min r s.pin.strapRole

/-- The ROLE strap is valid for the class (R552). -/
def State.roleValid (s : State) : Bool := decide (s.pin.strapRole < (if s.tw.triad then 3 else 2))

/-- The level in force changes (R57). -/
def setLevel (new : Nat) (s : State) : State :=
  let old := s.sys.level
  if new = old then s else record 0x0102 5 old new s.missingMask s.tickNo { s with sys := { s.sys with level := new } }

/-- The device state taken at READY (R51, R571, R600, R772): by an RTC wake with HW_ARM, by lay-up, or by the role decided. -/
def takeRole (foreign : Bool) (s : State) : State :=
  let row := if s.boot.roleRow = 2 ∧ foreign then 3 else if s.boot.roleRow = 1 ∧ s.anyPeer (fun p => p.state == .active) then 0 else s.boot.roleRow
  let noteRole := fun (s : State) => record 0x1001 4 row s.pin.strapRole s.twn.epoch.toNat s.tickNo s
  if s.rtc.startCause = .rtcWake ∧ s.rtc.hwArm then
    claimActiveIp (beginWatchRound (noteRole (enterState .harbourWatch 0x01FF (setLevel (min 1 s.levelUnits) s))))
  else if row = 4 then
    let r := ((s.peerRoles.find? (fun r => (s.peer r).known && (s.peer r).layup)).getD 3)
    enterUnarmed 0x0104 r (noteRole (setLevel (min 1 s.levelUnits) s))
  else
    let s := setLevel s.levelUnits s
    let s := if s.roleValid then s else refusePeer s.pin.strapRole 3 s.pin.strapRole s
    let wants := s.roleValid && (row == 2 || (row == 1 && s.designated == s.pin.strapRole))
    let a := if wants then confirmActive 0 s else (false, s)
    let s := a.2
    if a.1 then
      let e : Word := if row = 2 then 1 else s.highestEpoch + 1
      noteRole (becomeActive (0x0100 + row) (updTwn (fun w => { w with epoch := e }) s))
    else
      let s := updTwn (fun w => { w with
        epoch := s.highestEpoch
        activeRole := if row = 1 then (if s.designated = s.pin.strapRole then 3 else s.designated)
                      else (s.peerRoles.find? (fun r => (s.peer r).known && (s.peer r).state == .active)).getD 3 }) s
      beginJoin (noteRole (enterState .standby (0x0100 + row) s))

/-- S11, READY (R51, R684, R698, R705). -/
def ready (i : S10In) (s : State) : State :=
  let s := reach 11 i.ms s
  let s := if s.rtc.startCause = .rtcWake then s else updRtc (fun r => { r with hwArm := false }) s
  let s := takeRole i.foreign s
  let s := armWatchdogs s
  let s := updRec0 (fun r => { r with outcome := .ready }) s
  let s := updBoot (fun b => { b with ready := true, readyMs := min 65535 i.ms
                                      rewriteDue := match s.directory with | some d => (b.fwSlot != d.fwB) || (b.cfgSlot != d.cfgB) | none => false }) s
  let s := { s with pim := { s.pim with readyTick := s.tks.tickExt }, twn := { s.twn with xchgUp := s.up } }
  record 0x1305 3 i.ms (s.image.id.toNat / 2 ^ 32) (s.image.id.toNat % 2 ^ 32) s.boot.fwVersion.toNat s

/-! ## S8 to S10 -/

/-- After S10 the backup domain reports its cell, and a reset of its own (R679, R681). -/
def reportCell (vbu : Nat) (s : State) : State :=
  let s := if s.rtc.bkupRst then record 0x1201 5 (causeCode s.rtc.startCause) vbu 0 s.tickNo (updRtc (fun r => { r with bkupRst := false }) s) else s
  let s := record 0x1202 3 s.rtc.switchCnt s.rtc.vbuSeconds vbu s.tickNo (updRtc (fun r => { r with switchCnt := 0, vbuSeconds := 0 }) s)
  recordIf (decide (vbu < 2200)) 0x1203 4 vbu 0 0 s.tickNo s

/-- S10: the start actions in their order, then READY (R700). An action that does not complete leaves the start to the start watchdog. -/
def stepS10 (i : S10In) (s : State) : State :=
  let s := reach 10 (s.up / nsPerMs) s
  if ¬ i.ok then stepFails 10 1 0 (atMs i.ms s)
  else
    let s := feConfigure i.feReads s
    let s := dfcStart s
    let s := encStart s
    let s := alsStart s
    let s := busStart s
    let s := updRtc (fun r => { r with localOfs := s.image.rtc.localOfs }) s
    let s := nextSearch (fusStart (strStart s))
    ready i (reportCell i.vbuMv s)

/-- A domain the image enables and whose clock runs. -/
def State.domStarts (s : State) (d : Nat) : Bool := (s.imgDom d).enabled && s.domOk (5 + d)

/-- TAI − UTC at the start, from the backup domain or the image (R89). -/
def startUtc (s : State) : State :=
  if s.tim.utc.valid then s
  else match s.rtc.save with
    | some v => takeUtc 3 v.taiUtc none s
    | none => takeUtc 4 s.image.time.taiUtcDefault none s

/-- S9 ends: domains without a master take the saved correction or the calendar, system time starts, and S10 follows (R99, R776). -/
def endS9 (i : S10In) (s : State) : State :=
  let s := startUtc s
  let load := fun (s : State) (d : Nat) => if s.domStarts d && (s.dom d).state == .none then loadFromCalendar d s else s
  let s := if s.domStarts 0 || s.domStarts 1 then startSystem ([0, 1].foldl load s) else startBackup s
  let s := { s with tim := { s.tim with tp := s.tim.tp.map (fun t => { t with run := true }) } }
  stepS10 i s

/-- S9 begins; it waits for a master unless the step is taken by its alternative or no domain can follow one (R99, R707, R776). -/
def beginS9 (i : S10In) (s : State) : State :=
  let alt := s.failedTwice 9
  let s := reach 9 (s.up / nsPerMs) (updBoot (fun b => { b with s9Up := s.up }) s)
  if alt then endS9 i (stepAlternative 9 true 0 s)
  else if s.domStarts 0 || s.domStarts 1 then s
  else endS9 i s

/-- Every enabled domain whose clock runs has its state. -/
def State.timeAcquired (s : State) : Bool := [0, 1].all (fun d => !s.domStarts d || (s.dom d).state != .none)

/-- The wait of S9 ends: after 300 ms, or with every domain on its master (R99). -/
def masterWait (i : S10In) (s : State) : State :=
  if s.sys.state ≠ .start ∨ s.boot.step ≠ 9 ∨ s.tim.loaded then s
  else if s.timeAcquired then endS9 i s
  else if s.up < s.boot.s9Up + 300 * nsPerMs then s
  else endS9 i (stepAlternative 9 false 0 (stepFails 9 1 0 s))

def execMasterWaitExpiry (t : Nat) (i : S10In) (s : State) : Host.Outcome State Fault Refusal := .next (masterWait i (start t s))

/-- DISCOVERY_TIME has passed at S8: the row of the table of role at start (R571). -/
def discoveryEnd (i : S10In) (s : State) : State :=
  if s.sys.state ≠ .start ∨ s.boot.step ≠ 8 ∨ s.boot.halted ∨ s.up < s.boot.s8Up + s.tw.discoveryMs * nsPerMs then s
  else
    let row := s.heardRow
    let s := updBoot (fun b => { b with roleRow := row }) s
    let s := if row = 2 then stepAlternative 8 false 0 (stepFails 8 3 0 s) else s
    beginS9 i s

def execDiscoveryEnd (t : Nat) (i : S10In) (s : State) : Host.Outcome State Fault Refusal := .next (discoveryEnd i (start t s))

/-- S8 begins: the unit listens, or starts alone from the outset (R571, R707). -/
def beginS8 (i : StartIn) (s : State) : State :=
  let alt := s.failedTwice 8
  let s := reach 8 (s.up / nsPerMs) (updBoot (fun b => { b with s8Up := s.up }) s)
  if alt then beginS9 i.s10 (updBoot (fun b => { b with roleRow := 2 }) (stepAlternative 8 true 0 s)) else s

/-- The start goes on only while nothing has stopped it. -/
def unlessStopped (f : State → State) (s : State) : State := if s.boot.halted ∨ s.sys.state ≠ .start then s else f s

/-- S3 to S8, with the directory (R709, R712). -/
def stepS3 (i : StartIn) (exhausted : Bool) (s : State) : State :=
  let s := reach 3 (nth i.endMs 3 0) s
  match s.directory with
  | none => halt 0 (stepFails 3 0 0 (record 0x1301 4 (causeCode s.rtc.startCause) 0 0 s.rec0.startNo s))
  | some d =>
    let s := record 0x1301 4 (causeCode s.rtc.startCause) (b2n (d.fwB != s.failedTwice 4)) (b2n (d.cfgB != s.failedTwice 5)) s.rec0.startNo s
    if exhausted then halt 3 s
    else
      let s := unlessStopped (stepS4 i d) s
      let s := unlessStopped (stepS5 i d) s
      let s := unlessStopped (stepS6 i) s
      if bitAt s.rec0.failMask 6 then s
      else if s.boot.onSafe then unlessStopped (halt 4) s
      else unlessStopped (beginS8 i) (unlessStopped (stepS7 i) s)

/-- RST_N rises with power good (R698, R743): the start runs from S0 until it waits, is READY, or stops. -/
def resetRelease (i : StartIn) (s : State) : State :=
  if s.sys.state ≠ .off then s
  else
    let a := stepS0 i (atMs 0 s)
    unlessStopped (stepS3 i a.1) (unlessStopped (stepS2 i) (stepS1 i a.2))

def execResetRelease (t : Nat) (i : StartIn) (s : State) : Host.Outcome State Fault Refusal := .next (resetRelease i (start t s))

end Sys2Proof.Machine
end

