-- ==== Sys2Proof/Machine/Boot.lean ====
section
/-! DEFINITION. Resets, loss of power, the start watchdog, and the programming of the configuration memory (R51, R704, R708, R710, R715 to R717, R729, R743). -/

namespace Sys2Proof.Machine

open Sys2Proof

/-! ## Resets and loss of power -/

/-- A low pulse on RST_N, ns: ignored below 1 µs, a reset from 10 µs on, and one or the other as a whole in between (R743). -/
def rstPulse (lowNs : Nat) (s : State) : State :=
  if s.sys.state = .off ∨ lowNs < 1000 then s
  else if 10000 ≤ lowNs then deviceReset s
  else
    let d := s.draw
    if d.1.getLsbD 0 then deviceReset d.2 else d.2

def execRstNPulse (t lowNs : Nat) (s : State) : Host.Outcome State Fault Refusal := .next (rstPulse lowNs (start t s))

/-- Bytes whose content the spec leaves open, drawn from a count. -/
def freeBytes (draws n : Nat) : List Byte := (List.range n).map (fun i => (Config.freeWord (draws + i)).setWidth 8)

/-- A programming command cut short leaves its sector or page with a content the spec does not give. -/
def cutProgram (s : State) : State :=
  match s.boot.progBusy with
  | none => s
  | some p =>
    let r : Nat × Nat := match p.cmd with
      | .erase => (p.addr / 4096 * 4096, 4096)
      | .program => (p.addr / 256 * 256, 256)
      | .setPrefer => (match s.directory with | some d => (dirAddr (1 - d.copy), 4096) | none => (0, 0))
      | .read => (0, 0)
    { s with flash := flashSet s.flash r.1 (freeBytes s.draws r.2), draws := s.draws + r.2 }

/-- Power is lost: the unit is OFF; a page in flight is left with the records that had reached their slots (R51, R651, R662). -/
def losePower (reached : List Bool) (s : State) : State :=
  let s := cutProgram s
  let torn : Option TornPage :=
    if s.evr.storeState = 2 ∧ s.evr.inFlight ≠ [] then
      some { gen := (s.evr.store.gen + 1) % 2 ^ 32, items := ((List.range s.evr.inFlight.length).zip s.evr.inFlight).map (fun x => (x.2, nth reached x.1 false)) }
    else s.evr.store.torn
  let s := deviceReset { s with evr := { s.evr with store := { s.evr.store with torn := torn } } }
  updRtc (fun r => { r with startCause := .power }) s

def execLossOfPower (t : Nat) (reached : List Bool) (s : State) : Host.Outcome State Fault Refusal := .next (losePower reached (start t s))

/-- READY has not been reached within 10 s: the step is marked failed and the device reset. A start that has halted is left as it is (R702, R704, R709, R729). -/
def startWatchdog (s : State) : State :=
  if s.sys.state ≠ .start ∨ s.boot.halted ∨ s.boot.ready ∨ s.up < 10 * nsPerS then s
  else
    let step := s.boot.step
    let no := s.rec0.startNo
    let s := updRec0 (fun r => { r with failMask := failBits step r.failMask, outcome := .timeout }) s
    updRtc (fun r => { r with timeoutToReport := some (step, no) }) (deviceReset s)

def execStartWatchdogExpiry (t : Nat) (s : State) : Host.Outcome State Fault Refusal := .next (startWatchdog (start t s))

/-- The directory is rewritten after a READY on a slot other than the preferred one (R715). -/
def rewriteDirectory (s : State) : State :=
  if ¬ s.boot.rewriteDue then s
  else
    let s := updBoot (fun b => { b with rewriteDue := false }) s
    match s.directory with
    | none => s
    | some d =>
      let fw := s.boot.fwSlot != d.fwB
      let cfg := s.boot.cfgSlot != d.cfgB
      let p := preferByte s.boot.fwSlot s.boot.cfgSlot
      let bad : Byte := 2
      let s := writeDir d ([(12, [p])] ++ (if fw then [(32 + 24 * b2n d.fwB, [bad])] else []) ++ (if cfg then [(33 + 24 * b2n d.cfgB, [bad])] else [])) s
      record 0x1309 5 p.toNat (b2n fw + 2 * b2n cfg) ((d.gen + 1) % 2 ^ 32) 0 s

def execDirectoryRewrite (t : Nat) (s : State) : Host.Outcome State Fault Refusal := .next (rewriteDirectory (start t s))

/-! ## BOOT_CMD (R708, R710) -/

def clearRecord (s : State) : State := updRtc (fun r => { r with startRecs := List.replicate 8 {} }) s

/-- RESTART is ignored while ACTIVE. -/
def bootRestart (s : State) : State := if s.sys.state = .active ∨ s.sys.state = .off then s else restart s

/-- A write of BOOT_CMD: the record is cleared before a restart. -/
def bootCmd (v : Word) (s : State) : State :=
  let s := if bitAt v 1 then clearRecord s else s
  if bitAt v 0 then bootRestart s else s

/-! ## Programming (R716, R717) -/

/-- The states in which the programming registers are accepted (R716). -/
def State.progAllowed (s : State) : Bool := s.sys.state == .standby || (s.sys.state == .start && s.boot.halted)

/-- A write of BOOT_PROG_ADDR restarts the fill of the page buffer. -/
def progAddrWrite (v : Word) (s : State) : State :=
  updBoot (fun b => { b with progAddr := v, pageFill := 0 }) s

/-- A write of BOOT_PROG_DATA fills the next word; past the last it begins again (DESIGN CHOICE). -/
def progDataWrite (v : Word) (s : State) : State :=
  updBoot (fun b => { b with pageBuf := put b.pageBuf b.pageFill v, pageFill := (b.pageFill + 1) % 64 }) s

/-- A sector lies in a slot in use: its firmware or its image (R716). -/
def inSlot (sector ofs len : Nat) : Bool := decide (ofs < sector + 4096) && decide (sector < ofs + len)

/-- A command may not touch the regions in use or the directory copy of higher GEN (R716). The Tally store lies in the memory of the event bus (R646), which BOOT_PROG_ADDR does not reach. -/
def State.progProtected (s : State) (addr : Nat) : Bool :=
  let sector := addr / 4096 * 4096
  match s.directory with
  | none => false
  | some d =>
    let f := d.slot s.boot.fwSlot
    let c := d.slot s.boot.cfgSlot
    decide (sector = dirAddr d.copy) || (s.boot.fwRuns && inSlot sector f.fwOfs f.fwLen) || (s.imageOk && inSlot sector c.imgOfs c.imgLen)

/-- Codes of the programming commands (R717). -/
def progCode : ProgCmd → Nat
  | .erase => 1 | .program => 2 | .setPrefer => 3 | .read => 4

/-- BOOT_PROG is recorded for ERASE and SET_PREFER (R716). -/
def progRecord (c : ProgCmd) (addr result : Nat) (s : State) : State :=
  match c with
  | .erase => record 0x1308 4 1 addr result s.tickNo s
  | .setPrefer => record 0x1308 4 3 addr result s.tickNo s
  | _ => s

/-- A programming command: ignored while one runs, refused, or begun (R716, R717). In another state its write is denied and never arrives here (R768). -/
def progBegin (c : ProgCmd) (arg : Nat) (s : State) : State :=
  let addr := s.boot.progAddr.toNat
  if s.boot.progBusy.isSome then s
  else
    let s := updBoot (fun b => { b with progLast := s.boot.progAddr }) s
    let refused : Bool := match c with | .read => false | .setPrefer => s.directory.isNone | _ => s.progProtected addr
    if refused then progRecord c addr 1 (updBoot (fun b => { b with progResult := 1 }) s)
    else updBoot (fun b => { b with progBusy := some { cmd := c, addr := addr, arg := arg } }) s

/-- The bytes of the page buffer, each word big-endian. -/
def pageBytes (l : List Word) : List Byte := l.flatMap (fun w => beBytes 4 w.toNat)

/-- Words of bytes, big-endian. -/
def wordsOf (bs : List Byte) : List Word := (List.range 64).map (fun k => wordN (word4 bs (4 * k)))

/-- The effect of a programming command at its end, with its result. Programming a flash cell can only clear bits (PRESUMED: a NOR flash). -/
def progEffect (p : ProgRun) (s : State) : Nat × State :=
  match p.cmd with
  | .erase => (0, { s with flash := flashSet s.flash (p.addr / 4096 * 4096) erased })
  | .program =>
    let a := p.addr / 256 * 256
    let want := pageBytes s.boot.pageBuf
    let now := ((flashBytes s.flash a 256).zip want).map (fun x => x.1 &&& x.2)
    ((if now = want then 0 else 2), { s with flash := flashSet s.flash a now })
  | .setPrefer =>
    match s.directory with
    | none => (1, s)
    | some d =>
      let k := fun (o : Nat) (b : Bool) => o + 24 * b2n b
      let fw := p.arg % 2 = 1
      let cfg := p.arg / 2 % 2 = 1
      let valid : Byte := 1
      (0, writeDir d [(12, [BitVec.ofNat 8 p.arg]), (k 32 fw, [valid]), (k 33 cfg, [valid]), (k 20 fw, beBytes 4 (nth s.boot.pageBuf 0 0).toNat), (k 28 cfg, beBytes 4 (nth s.boot.pageBuf 1 0).toNat)] s)
  | .read => (0, updBoot (fun b => { b with pageBuf := wordsOf (flashBytes s.flash p.addr 256) }) s)

/-- The command in progress ends; a restart that waited for it follows (R716, R717, R729). -/
def progDone (s : State) : State :=
  match s.boot.progBusy with
  | none => s
  | some p =>
    let r := progEffect p (updBoot (fun b => { b with progBusy := none }) s)
    let s := progRecord p.cmd p.addr r.1 (updBoot (fun b => { b with progResult := r.1 }) r.2)
    if s.boot.restartDue then deviceReset s else s

def execProgDone (t : Nat) (s : State) : Host.Outcome State Fault Refusal := .next (progDone (start t s))

/-- A write of BOOT_PROG_CMD; other codes are ignored. -/
def progCmdWrite (v : Word) (s : State) : State :=
  match fieldOf v 24 8 with
  | 1 => progBegin .erase 0 s
  | 2 => progBegin .program 0 s
  | 3 => progBegin .setPrefer (fieldOf v 0 8) s
  | 4 => progBegin .read 0 s
  | _ => s

end Sys2Proof.Machine
end

