-- ==== Sys2Proof/Machine/Partition.lean ====
section
/-! DEFINITION. The safety partition and the memory controller: watchdogs, firewall, lockstep, monitors of supplies and temperature, fault outputs, the test port, and the scrubber with its error correction (R23 to R30, R607 to R638). -/

namespace Sys2Proof.Machine

open Sys2Proof

/-- Nothing of the part runs in OFF: the memory controller, the masters and SP are in reset (R51). -/
def unlessOff (f : State → State) (s : State) : State := if s.sys.state = .off then s else f s

/-! ## Lockstep pairs (R23, R624) -/

/-- The two cores of a pair disagree: the pair is frozen with fault 13, or SP's fault 1 fails the unit. -/
def lockstep (pair : Nat) (pc : Word) (s : State) : State :=
  if pair = 6 then
    raiseFault 1 (record 0x0105 6 6 pc.toInt 0 s.tickNo { s with saf := { s.saf with spOk := false } })
  else if 6 < pair ∨ bitAt s.saf.frozen pair then s
  else freezeFault 13 pair 1 false 0 (record 0x0105 6 pair pc.toInt 0 s.tickNo s)

def execLockstepDisagreement (t pair : Nat) (pc : Word) (s : State) : Host.Outcome State Fault Refusal :=
  .next (unlessOff (lockstep pair pc) (start t s))

/-! ## Scrubbing and error correction (R25 to R30, R60, R774) -/

/-- Words of the SRAM (R27). -/
def sramWords : Nat := 3145728

/-- A single-bit error is corrected and counted; SYS_ECC_CORR is recorded at most once per second per region with the corrections of that second (R26, R60). -/
def eccCorrected (addr syn region : Nat) (s : State) : State :=
  let s := { s with sys := { s.sys with eccCorrCnt := satAdd s.sys.eccCorrCnt 1 0xFFFFFFFF } }
  let old := s.sys.eccMarks.find? (fun m => m.region == region)
  let rest := s.sys.eccMarks.filter (fun m => m.region != region)
  match old with
  | some m =>
    if m.at_ + nsPerS ≤ s.up then
      record 0x0103 1 addr syn (m.count + 1) region { s with sys := { s.sys with eccMarks := { region := region, at_ := s.up, count := 0 } :: rest } }
    else { s with sys := { s.sys with eccMarks := { m with count := m.count + 1 } :: rest } }
  | none =>
    record 0x0103 1 addr syn 1 region { s with sys := { s.sys with eccMarks := { region := region, at_ := s.up, count := 0 } :: rest } }

/-- A double-bit error: its address is held, the event recorded with the owner and the reader, and the owner's fault raised (R29, R30, R624, R774). -/
def eccUncorrectable (addr syn owner reader : Nat) (s : State) : State :=
  let s := { s with sys := { s.sys with eccUncorr := true, eccUncorrAddr := wordN (addr / 8 * 8) } }
  let s := record 0x0104 6 addr owner syn reader s
  if owner = 6 then raiseFault 3 s
  else if owner ≤ 16 then freezeFault 16 owner 4 false (wordN addr) s
  else if owner = 36 then netBufferError (raiseFault 21 s)
  else if owner = 0xFFFF then raiseFault 12 s
  else s

/-- The scrubber reads the next word in address order (R27). -/
def scrub (found : EccFound) (s : State) : State :=
  let addr := s.sys.scrubAddr * 8
  let s := { s with sys := { s.sys with scrubAddr := (s.sys.scrubAddr + 1) % sramWords } }
  match found with
  | .clean => s
  | .single syn region _ => eccCorrected addr syn region s
  | .double syn owner => eccUncorrectable addr syn owner 48 s

def execScrubRead (t : Nat) (found : EccFound) (s : State) : Host.Outcome State Fault Refusal :=
  .next (unlessOff (scrub found) (start t s))

/-! ## Watchdogs (R617, R618) -/

/-- WDG_MIN and WDG_MAX of a master, ns. -/
def wdgMin : Nat := 500000
def wdgMax (m : Nat) : Nat := if m = 7 then 25000000 else 1500000

/-- The interval since the last kick, in µs. -/
def kickInterval (s : State) (m : Nat) : Nat :=
  match (nth s.saf.wdg m {}).lastKick with
  | some k => (s.up - k) / 1000
  | none => 0

/-- The watchdog of master k fires: frozen with cause 2, the kick interval as its detail. -/
def wdgFire (k : Nat) (write : Bool) (s : State) : State :=
  freezeFault 14 k 2 write (wordN (kickInterval s k)) s

/-- A master writes a kick register (R617). The upper 16 bits of the register are reserved. -/
def kick (writer k : Nat) (v : Word) (s : State) : State :=
  if bitAt s.saf.frozen writer || writer = 6 || 17 ≤ writer then s
  else if k = writer then
    let w := nth s.saf.wdg k {}
    if !w.armed then s
    else
      let right := fieldOf v 0 16 == (if w.second then 0xA55A else 0x5AA5)
      let early := match w.lastKick with | some p => decide (s.up < p + wdgMin) | none => false
      if !right || early then wdgFire k true s
      else { s with saf := { s.saf with wdg := put s.saf.wdg k { w with lastKick := some s.up, second := !w.second } } }
  else
    let s := if (nth s.saf.wdg k {}).armed then wdgFire k true s else s
    freezeFault 15 writer 3 true (wordN (0x00010100 + 4 * k)) s

def execWatchdogKick (t writer m : Nat) (v : Word) (s : State) : Host.Outcome State Fault Refusal :=
  .next (unlessOff (kick writer m v) (start t s))

/-- No kick within WDG_MAX (R617). -/
def wdgExpire (m : Nat) (s : State) : State :=
  let w := nth s.saf.wdg m {}
  match w.lastKick with
  | some k => if w.armed && decide (k + wdgMax m ≤ s.up) then wdgFire m false s else s
  | none => s

def execWatchdogExpiry (t m : Nat) (s : State) : Host.Outcome State Fault Refusal :=
  .next (unlessOff (wdgExpire m) (start t s))

/-! ## Firewall and requests to the partition (R612, R632, SAF_REQ) -/

/-- A master accesses outside its regions or writes a forbidden register (cause 3 of R612). SP is not subject to it and a frozen master makes no access (R635). -/
def violation (m : Nat) (addr : Word) (write : Bool) (s : State) : State :=
  if m = 6 ∨ 16 < m then s else freezeFault 15 m 3 write addr s

def execFirewallViolation (t m : Nat) (addr : Word) (write : Bool) (s : State) : Host.Outcome State Fault Refusal :=
  .next (unlessOff (violation m addr write) (start t s))

/-- Address of SAF_REQ. -/
def safReqAddr : Word := 0x00010080

/-- An acknowledgement clears the unacknowledged state of every latched fault no longer present (R632). -/
def ackFaults (path : Nat) (s : State) : State :=
  let done := s.saf.unack &&& ~~~s.saf.present
  record 0x020A 2 done.toNat path 0 s.tickNo { s with saf := { s.saf with unack := s.saf.unack &&& s.saf.present } }

/-- A write of SAF_REQ with REQ 1; only AP0 to AP5 may write the register. -/
def safAck (writer : Nat) (maint : Bool) (s : State) : State :=
  if 6 ≤ writer then violation writer safReqAddr true s
  else if bitAt s.saf.frozen writer then s
  else ackFaults (b2n maint) s

def execSafReqAck (t writer : Nat) (maint : Bool) (s : State) : Host.Outcome State Fault Refusal :=
  .next (unlessOff (safAck writer maint) (start t s))

/-- A write of SAF_REQ with REQ 2: a software fault of the writing pair, which is frozen with cause 5. -/
def safSwFault (writer code : Nat) (s : State) : State :=
  if 6 ≤ writer then violation writer safReqAddr true s
  else if bitAt s.saf.frozen writer then s
  else freezeFault 17 writer 5 true (wordN (code % 2 ^ 16)) (record 0x020B 6 writer (code % 2 ^ 16) 0 s.tickNo s)

def execSafReqSwFault (t writer code : Nat) (s : State) : Host.Outcome State Fault Refusal :=
  .next (unlessOff (safSwFault writer code) (start t s))

/-! ## The checker of SP (R619) -/

/-- SP's keep-alive or the SAFE clock has failed: the checker closes the gates, asserts the fault outputs and fails the unit, without SP. The gate registers keep what they hold (R609). -/
def safeLost (kHz : Nat) (s : State) : State :=
  if s.saf.checker ∨ s.sys.state = .off then s
  else
    let s := { s with
      saf := { s.saf with checker := true, safeOk := false, keepAlive := false, roleConfirmed := false }
      clk := { s.clk with lost := setBit s.clk.lost 2 true, running := setBit s.clk.running 2 false } }
    let s := driveOuten false s
    let s := record 0x0301 6 2 kHz 0 s.tickNo s
    let s := { s with saf := { s.saf with
        present := setBit s.saf.present 2 true, latch := setBit s.saf.latch 2 true, unack := setBit s.saf.unack 2 true } }
    let s := record 0x0203 7 2 3 0 s.tickNo s
    enterFailed 0x0602 (startUrgent 0 (abortHandover 1 s))

def execSafeLost (t kHz : Nat) (s : State) : Host.Outcome State Fault Refusal :=
  .next (safeLost kHz (start t s))

/-! ## Supplies, temperature, OUT_EN_MON and PFAIL_N (R621, R624, R631, R645) -/

/-- A supply rail changes band: 0 inside, 1 outside its operating band, 2 beyond its fail band. -/
def supplyBand (rail band mV : Nat) (s : State) : State :=
  let old := nth s.saf.vmon rail 0
  if 5 ≤ rail ∨ 3 ≤ band ∨ band = old then s
  else
    let s := record 0x0204 5 rail mV band s.tickNo { s with saf := { s.saf with vmon := put s.saf.vmon rail band } }
    let s := if s.saf.vmon.all (fun b => b == 0) then clearFault 7 s else s
    if band < old then s
    else
      let s := if old = 0 then raiseFault 7 s else s
      if band = 2 then raiseFault 5 s else s

def execSupplyBandChange (t rail band mV : Nat) (s : State) : Host.Outcome State Fault Refusal :=
  .next (unlessOff (supplyBand rail band mV) (start t s))

/-- The junction temperature changes band; TJ is in 0.1 °C. -/
def tempBand (band : Nat) (tj : Int) (s : State) : State :=
  let old := s.saf.tempBand
  if 3 ≤ band ∨ band = old then s
  else
    let s := record 0x0205 5 tj band 0 s.tickNo { s with saf := { s.saf with tempBand := band, tj := tj } }
    if band = 0 then clearFault 8 s
    else if band < old then s
    else
      let s := if old = 0 then raiseFault 8 s else s
      if band = 2 then raiseFault 6 s else s

def execTempBandChange (t band : Nat) (tj : Int) (s : State) : Host.Outcome State Fault Refusal :=
  .next (unlessOff (tempBand band tj) (start t s))

/-- The OUT_EN_MON ball reads a level for 10 µs: other than driven raises fault 10, as driven ends it (R624, R631). -/
def outenSeen (level : Bool) (s : State) : State :=
  if level = s.saf.outenDrive then
    clearFault 10 { s with saf := { s.saf with outenHeld := none } }
  else
    let s := { s with saf := { s.saf with outenHeld := some level } }
    raiseFault 10 (record 0x0206 6 (b2n s.saf.outenDrive) (b2n level) 0 s.tickNo s)

def execOutenMismatch (t : Nat) (level : Bool) (s : State) : Host.Outcome State Fault Refusal :=
  .next (unlessOff (outenSeen level) (start t s))

/-- PFAIL_N falls; a pulse shorter than 1 µs is ignored (R744). -/
def pfailFall (lowNs : Nat) (s : State) : State :=
  if lowNs < 1000 ∨ s.saf.pfailLow then s
  else
    let s := { s with saf := { s.saf with pfailLow := true, pfailRoseUp := none } }
    raiseFault 9 (record 0x0207 6 1 (devCode s.sys.state) s.sys.level s.tickNo s)

def execPfailFall (t lowNs : Nat) (s : State) : Host.Outcome State Fault Refusal :=
  .next (unlessOff (pfailFall lowNs) (start t s))

/-- PFAIL_N rises: FLUSH_AGE applies again at once; fault 9 stays until 10 s have passed (R645). -/
def pfailRise (s : State) : State :=
  if s.saf.pfailLow then
    record 0x0207 6 0 (devCode s.sys.state) s.sys.level s.tickNo { s with saf := { s.saf with pfailLow := false, pfailRoseUp := some s.up } }
  else s

def execPfailRise (t : Nat) (s : State) : Host.Outcome State Fault Refusal := .next (unlessOff pfailRise (start t s))

/-- PFAIL_N has stayed high for 10 s: fault 9 clears, and HANDOVER_REQ with it (R621, R635). -/
def pfailClear (s : State) : State :=
  match s.saf.pfailRoseUp with
  | some u =>
    if !s.saf.pfailLow && decide (u + 10 * nsPerS ≤ s.up) then clearFault 9 { s with saf := { s.saf with pfailRoseUp := none } } else s
  | none => s

def execPfailFaultClear (t : Nat) (s : State) : Host.Outcome State Fault Refusal := .next (unlessOff pfailClear (start t s))

/-! ## The test port (R634, R745) -/

/-- The next state of the test port's controller on a rising TCK, by TMS (PRESUMED: the controller of IEEE 1149.1). -/
def tapNext (p : Tap) (tms : Bool) : Tap :=
  match p with
  | .testLogicReset => if tms then .testLogicReset else .runTestIdle
  | .runTestIdle => if tms then .selectDr else .runTestIdle
  | .selectDr => if tms then .selectIr else .captureDr
  | .captureDr => if tms then .exit1Dr else .shiftDr
  | .shiftDr => if tms then .exit1Dr else .shiftDr
  | .exit1Dr => if tms then .updateDr else .pauseDr
  | .pauseDr => if tms then .exit2Dr else .pauseDr
  | .exit2Dr => if tms then .updateDr else .shiftDr
  | .updateDr => if tms then .selectDr else .runTestIdle
  | .selectIr => if tms then .testLogicReset else .captureIr
  | .captureIr => if tms then .exit1Ir else .shiftIr
  | .shiftIr => if tms then .exit1Ir else .shiftIr
  | .exit1Ir => if tms then .updateIr else .pauseIr
  | .pauseIr => if tms then .exit2Ir else .pauseIr
  | .exit2Ir => if tms then .updateIr else .shiftIr
  | .updateIr => if tms then .selectDr else .runTestIdle

/-- An edge on TCK: ignored in STANDBY, ACTIVE and HARBOUR WATCH; TDO drives a value the spec leaves open in the shift states. -/
def tck (tms _tdi trst : Bool) (s : State) : State :=
  match s.sys.state with
  | .standby | .active | .harbourWatch => s
  | _ =>
    let p := if trst then .testLogicReset else tapNext s.pin.tap tms
    if p = .shiftDr ∨ p = .shiftIr then
      let d := s.draw
      { d.2 with pin := { d.2.pin with tap := p, tdo := some (d.1.getLsbD 0) } }
    else { s with pin := { s.pin with tap := p, tdo := none } }

def execTckEdge (t : Nat) (tms tdi trst : Bool) (s : State) : Host.Outcome State Fault Refusal :=
  .next (tck tms tdi trst (start t s))

end Sys2Proof.Machine
end

