-- ==== Sys2Proof/Machine/Ptp.lean ====
section
/-! DEFINITION. The messages of IEEE 1588-2019 the part receives and sends, to the extent of R72 (R72 to R84). -/

namespace Sys2Proof.Machine

open Sys2Proof

/-- A domain takes part in PTP: enabled, its clock running, and S9 begun (R77, R80, R99). -/
def State.ptpOn (s : State) (d : Nat) : Bool :=
  decide (d < 2) && (s.imgDom d).enabled && s.domOk (5 + d) && decide (9 ≤ s.boot.step)

/-- A port belongs to a domain's PORTS mask (R77). -/
def State.ptpPort (s : State) (d port : Nat) : Bool := s.ptpOn d && bitAt (s.imgDom d).ports port

/-- The counter an event message is stamped on: its domain's, or system time for another domain (R75). -/
def State.msgNow (s : State) (d : Nat) : Nat := stamp4 (if d < 2 then s.domNow d else s.sysNow)

/-- A correctionField in ns (R68). -/
def corrNs (c : Int) : Int := c / 65536

/-- The path delay of a domain's master: the end-to-end delay, or the link delay of the port in peer-to-peer mode (R72, R74). -/
def State.pathDelay (s : State) (d : Nat) : Int :=
  if s.image.time.p2p then (nth s.tim.peerDelay (s.dom d).port {}).delay else (s.dom d).delay.delay

/-- A Sync with its precise origin: at S9 the first one loads the counter, later ones measure the offset (R72, R99). -/
def syncMeasured (d origin : Nat) (corr : Int) (rx : Nat) (s : State) : State :=
  let asym := nth s.image.time.delayAsym (s.dom d).port 0
  let base := (origin : Int) + corrNs corr + asym
  let off := base + s.pathDelay d - rx
  let s := updDom d (fun m => { m with lastMs := (rx : Int) - base }) s
  if s.boot.step = 9 ∧ ¬ s.tim.loaded ∧ (s.dom d).state = .none then
    let s := updDom d (fun m => { m with ctr := shift m.ctr off, med := [], lockRun := 0 }) s
    setDomState d .acquiring s
  else measure d off s

/-- A Sync of a domain's master is received and stamped; a two-step one waits for its Follow_Up (R72). -/
def ptpSync (d port : Nat) (src : PortIdentity) (seq origin : Nat) (corr : Int) (twoStep : Bool) (s : State) : State :=
  let m := s.dom d
  if s.ptpPort d port && !m.gm && m.masterSrc == some src && m.port == port then
    let rx := s.msgNow d
    let s := setDom d { m with lastSyncUp := some s.up, syncLost := false, pendSync := none } s
    if twoStep then updDom d (fun m => { m with pendSync := some { src := src, seq := seq, rx := rx, corr := corr } }) s
    else syncMeasured d origin corr rx s
  else s

def execPtpSyncReceived (t d port : Nat) (src : PortIdentity) (seq origin : Nat) (corr : Int) (twoStep : Bool) (s : State) :
    Host.Outcome State Fault Refusal := .next (ptpSync d port src seq origin corr twoStep (start t s))

/-- A Follow_Up gives the precise origin of the two-step Sync it follows (R72). -/
def ptpFollowUp (d port : Nat) (src : PortIdentity) (seq origin : Nat) (corr : Int) (s : State) : State :=
  match (s.dom d).pendSync with
  | some p =>
    if s.ptpPort d port && p.src == src && p.seq == seq then
      syncMeasured d origin (p.corr + corr) p.rx (updDom d (fun m => { m with pendSync := none }) s)
    else s
  | none => s

def execPtpFollowUpReceived (t d port : Nat) (src : PortIdentity) (seq origin : Nat) (corr : Int) (s : State) :
    Host.Outcome State Fault Refusal := .next (ptpFollowUp d port src seq origin corr (start t s))

/-- A Delay_Req to a grandmaster domain is answered with its receive stamp (R72). -/
def ptpDelayReq (d port : Nat) (seq : Nat) (corr : Int) (s : State) : State :=
  if s.ptpPort d port && (s.dom d).gm && !s.image.time.p2p then emit (.ptp .delayResp d port seq (s.msgNow d) corr) s else s

def execPtpDelayReqReceived (t d port seq : Nat) (corr : Int) (s : State) : Host.Outcome State Fault Refusal :=
  .next (ptpDelayReq d port seq corr (start t s))

/-- A Delay_Resp to this unit's request completes the end-to-end delay (R72). -/
def ptpDelayResp (d port : Nat) (req : PortIdentity) (seq t4 : Nat) (corr : Int) (s : State) : State :=
  let m := s.dom d
  if s.ptpPort d port && m.delay.sent && m.delay.seq == seq && req == { clock := s.ownId, port := 1 } && !m.gm then
    let asym := nth s.image.time.delayAsym m.port 0
    let back := (t4 : Int) - m.delay.t1 - corrNs corr + asym
    setDom d { m with delay := { m.delay with sent := false, t4 := t4, delay := (m.lastMs + back) / 2 } } s
  else s

def execPtpDelayRespReceived (t d port : Nat) (req : PortIdentity) (seq t4 : Nat) (corr : Int) (s : State) :
    Host.Outcome State Fault Refusal := .next (ptpDelayResp d port req seq t4 corr (start t s))

/-- A Pdelay_Req on a port in peer-to-peer mode is answered, one-step or two-step; turnNs is the time until the answer leaves (R72). -/
def ptpPdelayReq (d port seq turnNs : Nat) (corr : Int) (s : State) : State :=
  if s.image.time.p2p && decide (port < 4) then
    let t2 := s.msgNow d
    if d < 2 ∧ ¬ (s.imgDom d).oneStep then
      emit (.ptp .pdelayRespFollowUp d port seq (t2 + turnNs) corr) (emit (.ptp .pdelayResp d port seq t2 0) s)
    else emit (.ptp .pdelayResp d port seq 0 (corr + turnNs * 65536)) s
  else s

def execPtpPdelayReqReceived (t d port seq turnNs : Nat) (corr : Int) (s : State) : Host.Outcome State Fault Refusal :=
  .next (ptpPdelayReq d port seq turnNs corr (start t s))

/-- The peer's answer: one-step completes the link delay; two-step waits for its Follow_Up (R72). -/
def ptpPdelayResp (d port : Nat) (req : PortIdentity) (seq t2 : Nat) (corr : Int) (twoStep : Bool) (s : State) : State :=
  let p := nth s.tim.peerDelay port {}
  if p.sent && !p.got && p.seq == seq && req == { clock := s.ownId, port := port + 2 } then
    let t4 := s.msgNow d
    let p' := if twoStep then { p with got := true, t2 := t2, t4 := t4, corr := corr }
      else { p with sent := false, t4 := t4, delay := ((t4 : Int) - p.t1 - corrNs corr) / 2 }
    { s with tim := { s.tim with peerDelay := put s.tim.peerDelay port p' } }
  else s

def execPtpPdelayRespReceived (t d port : Nat) (req : PortIdentity) (seq t2 : Nat) (corr : Int) (twoStep : Bool) (s : State) :
    Host.Outcome State Fault Refusal := .next (ptpPdelayResp d port req seq t2 corr twoStep (start t s))

/-- The peer's Follow_Up completes a two-step link delay (R72). -/
def ptpPdelayRespFollowUp (port : Nat) (req : PortIdentity) (seq t3 : Nat) (corr : Int) (s : State) : State :=
  let p := nth s.tim.peerDelay port {}
  if p.sent && p.got && p.seq == seq && req == { clock := s.ownId, port := port + 2 } then
    let d := ((p.t4 : Int) - p.t1 - ((t3 : Int) - p.t2) - corrNs (p.corr + corr)) / 2
    { s with tim := { s.tim with peerDelay := put s.tim.peerDelay port { p with sent := false, got := false, delay := d } } }
  else s

def execPtpPdelayRespFollowUpReceived (t port : Nat) (req : PortIdentity) (seq t3 : Nat) (corr : Int) (s : State) :
    Host.Outcome State Fault Refusal := .next (ptpPdelayRespFollowUp port req seq t3 corr (start t s))

/-- Note an Announce among a domain's foreign masters. -/
def noteForeign (port : Nat) (a : Announce) (window up : Nat) (l : List ForeignMaster) : List ForeignMaster :=
  match l.find? (fun f => f.port == port && f.ann.src == a.src) with
  | none => l ++ [{ port := port, ann := a, count := 1, lastUp := up }]
  | some f =>
    let n := if up ≤ f.lastUp + window then min 2 (f.count + 1) else 1
    l.map (fun g => if g.port == port && g.ann.src == a.src then { g with ann := a, count := n, lastUp := up } else g)

/-- TAI − UTC from the Announce of the tick source's master, while GNSS gives none (R89). -/
def utcFromAnnounce (d : Nat) (a : Announce) (s : State) : State :=
  if s.tim.sel = d ∧ (s.dom d).masterSrc = some a.src ∧ a.utcValid ∧ ¬ (s.tim.gnssValid ∧ s.tim.utc.valid ∧ s.tim.utc.source = 0) then
    takeUtc (1 + d) a.taiUtc (s.announcedLeap a) s
  else s

/-- An Announce is received and best master selection runs for its domain (R72, R77, R81, R84, R89). -/
def ptpAnnounce (d port : Nat) (a : Announce) (s : State) : State :=
  if s.ptpPort d port && a.src.clock != s.ownId then
    let s := updDom d (fun m => { m with foreign := noteForeign port a (4 * logNs s.image.time.logAnnounce) s.up m.foreign }) s
    watchSel (utcFromAnnounce d a (selectMaster d s))
  else s

def execPtpAnnounceReceived (t d port : Nat) (a : Announce) (s : State) : Host.Outcome State Fault Refusal :=
  .next (ptpAnnounce d port a (start t s))

/-- Signaling and Management messages are ignored (R72). -/
def execPtpOtherMessage (t : Nat) (s : State) : Host.Outcome State Fault Refusal := .next (start t s)

/-- Ports of a domain's mask. -/
def State.portsOf (s : State) (d : Nat) : List Nat := bitsOf (s.imgDom d).ports

/-- The interval since the last message of a kind has passed. -/
def dueSince (last : Option Nat) (interval up : Nat) : Bool :=
  match last with
  | none => true
  | some u => decide (u + interval ≤ up)

/-- A grandmaster domain sends Sync on every port of its mask, one-step or with a Follow_Up (R73, R77). -/
def ptpSyncSend (d : Nat) (s : State) : State :=
  let m := s.dom d
  if s.ptpOn d && m.gm && m.state != .none && dueSince m.lastSyncTx (logNs s.image.time.logSync) s.up then
    let stamp := s.msgNow d
    let seq := m.syncSeq
    let one := (s.imgDom d).oneStep
    let send := fun (s : State) (port : Nat) =>
      if one then emit (.ptp .sync d port seq stamp 0) s
      else emit (.ptp .followUp d port seq stamp 0) (emit (.ptp .sync d port seq 0 0) s)
    let s := setDom d { m with syncSeq := (seq + 1) % 65536, lastSyncTx := some s.up } s
    (s.portsOf d).foldl send s
  else s

def execPtpSyncSend (t d : Nat) (s : State) : Host.Outcome State Fault Refusal := .next (ptpSyncSend d (start t s))

/-- A grandmaster domain sends Announce with its data set (R79, R81, R96). -/
def ptpAnnounceSend (d : Nat) (s : State) : State :=
  let m := s.dom d
  if s.ptpOn d && m.gm && m.state != .none && dueSince m.lastAnnTx (logNs s.image.time.logAnnounce) s.up then
    let a := s.ownSet d
    let s := setDom d { m with annSeq := (m.annSeq + 1) % 65536, lastAnnTx := some s.up } s
    (s.portsOf d).foldl (fun s port => emit (.announce d port a) s) s
  else s

def execPtpAnnounceSend (t d : Nat) (s : State) : Host.Outcome State Fault Refusal := .next (ptpAnnounceSend d (start t s))

/-- A domain sends Delay_Req to its master, or a port sends Pdelay_Req in peer-to-peer mode (R72). -/
def ptpDelayReqSend (d port : Nat) (s : State) : State :=
  let gap := logNs s.image.time.logDelay
  let out := fun (p : DelayState) => { p with seq := (p.seq + 1) % 65536, sent := true, got := false, t1 := s.msgNow d, lastTx := some s.up }
  if s.image.time.p2p then
    let p := nth s.tim.peerDelay port {}
    if port < 4 ∧ 9 ≤ s.boot.step ∧ dueSince p.lastTx gap s.up then
      let p' := out p
      emit (.ptp .pdelayReq d port p'.seq p'.t1 0) { s with tim := { s.tim with peerDelay := put s.tim.peerDelay port p' } }
    else s
  else
    let m := s.dom d
    if s.ptpPort d port && !m.gm && m.masterSrc.isSome && m.port == port && dueSince m.delay.lastTx gap s.up then
      let p' := out m.delay
      emit (.ptp .delayReq d port p'.seq p'.t1 0) (setDom d { m with delay := p' } s)
    else s

def execPtpDelayReqSend (t d port : Nat) (s : State) : Host.Outcome State Fault Refusal :=
  .next (ptpDelayReqSend d port (start t s))

end Sys2Proof.Machine
end

