-- ==== Sys2Proof/Machine/Regs.lean ====
section
/-! DEFINITION. The register space: the address map, what a read returns and what it does to shadows, locks and counts, the run-time tunables, and the access paths that reach it, the maintenance SPI port and the MAINT session (R16 to R20, R528, R545, R655, R676, R757, R758, R764 to R770). -/

namespace Sys2Proof.Machine

open Sys2Proof

/-! ## The address map and reads (R764 to R767) -/

/-- The word a path reads at a byte address, none where the address is not a multiple of 4 or lies in no register or window (R764, R765, R767). -/
def State.readWord (s : State) (p : Path) (a : Nat) : Option Word :=
  let off := a % 65536
  let blk := a / 65536
  if a % 4 ≠ 0 then none
  else
    match blk with
    | 0x00 => s.sysReg off
    | 0x01 => s.safReg off
    | 0x02 => if off = 0 then some s.clkStatus else none
    | 0x03 => s.timReg p off
    | 0x04 => s.tksReg p off
    | 0x10 => s.gnbReg off
    | 0x20 => s.strReg off
    | 0x24 => s.fusReg off
    | 0x28 => s.dfcReg off
    | 0x30 => s.pclReg off
    | 0x34 => s.alsReg off
    | 0x38 => s.srvReg off
    | 0x48 => s.netReg off
    | 0x50 => s.pimReg p off
    | 0x51 => s.pimReg p (65536 + off)
    | 0x60 => s.twnReg off
    | 0x64 => s.evrReg p off
    | 0x68 => s.rtcReg p off
    | 0x6C => s.bootReg off
    | 0x70 => s.pinReg off
    | _ => if 0x40 ≤ blk ∧ blk < 0x48 then s.mbcReg p (blk - 0x40) off else none

/-! ## What a read does (R18, R118, R483, R545, R655, R676) -/

/-- A read of a companion's leading register freezes the companions for the path (R41, R118, R501). -/
def timeFreeze (p : Path) (a : Nat) (s : State) : State :=
  let off := a % 65536
  match a / 65536 with
  | 0x03 =>
    if off = 0x08 then { s with tim := { s.tim with shadow := assocSet s.tim.shadow p (s.timNow / nsPerS) } }
    else
      match arr 0xC0 0x10 8 off with
      | some n => { s with tim := { s.tim with evtFrozen := assocSet s.tim.evtFrozen (p, n) (nth s.tim.evt n {}).lastWords } }
      | none => s
  | 0x04 => if off = 0x00 then { s with tks := { s.tks with frozenHi := assocSet s.tks.frozenHi p (s.tks.tickExt / 2 ^ 32) } } else s
  | blk =>
    if 0x40 ≤ blk ∧ blk < 0x48 ∧ off = 0x20 then { s with bus := { s.bus with frozen := assocSet s.bus.frozen (p, blk - 0x40) (s.bus.latCnt, s.bus.latA) } }
    else s

/-- A read of the last companion releases the frozen set (R41, R118, R501). -/
def timeRelease (p : Path) (a : Nat) (s : State) : State :=
  let off := a % 65536
  match a / 65536 with
  | 0x03 =>
    if off = 0x10 then { s with tim := { s.tim with shadow := assocDel s.tim.shadow p } }
    else
      match arr 0xC8 0x10 8 off with
      | some n => { s with tim := { s.tim with evtFrozen := assocDel s.tim.evtFrozen (p, n) } }
      | none => s
  | 0x04 => if off = 0x0C then { s with tks := { s.tks with frozenHi := assocDel s.tks.frozenHi p } } else s
  | blk =>
    if 0x40 ≤ blk ∧ blk < 0x48 ∧ off = 0x2C then { s with bus := { s.bus with frozen := assocDel s.bus.frozen (p, blk - 0x40) } } else s

/-- A read of EVR_WRITTEN freezes the Tally's books, a read of EVR_PENDING releases them (R655). -/
def booksFreeze (p : Path) (s : State) : State := updEvr (fun e => { e with books := assocSet e.books p e.bookSet }) s
def booksRelease (p : Path) (s : State) : State := updEvr (fun e => { e with books := assocDel e.books p }) s

/-- A read of the calendar with no shadow held freezes one; a read of RTC_DATE releases it (R676). -/
def calFreeze (p : Path) (s : State) : State :=
  match assoc s.rtc.shadow p with
  | some _ => s
  | none => updRtc (fun r => { r with shadow := assocSet r.shadow p (s.calNow, s.up) }) s
def calRelease (p : Path) (s : State) : State := updRtc (fun r => { r with shadow := assocDel r.shadow p }) s

/-- A read of word 0 of a point freezes it for the path until word 3 is read (R545). -/
def pointFreeze (p : Path) (i : Nat) (s : State) : State :=
  let pt := s.windowPoint p i
  if s.pim.frozen.any (fun f => f.1 == p && f.2.1 == pt) then s
  else { s with pim := { s.pim with frozen := s.pim.frozen ++ [(p, pt, s.point pt, s.up)] } }
def pointRelease (p : Path) (i : Nat) (s : State) : State :=
  let pt := s.windowPoint p i
  { s with pim := { s.pim with frozen := s.pim.frozen.filter (fun f => !(f.1 == p && f.2.1 == pt)) } }

/-- A frozen point is released 100 µs after its freeze (R545). -/
def pointFreezeTimeout (p : Path) (pt : Nat) (s : State) : State :=
  { s with pim := { s.pim with frozen := s.pim.frozen.filter (fun f => !(f.1 == p && f.2.1 == pt && decide (f.2.2.2 + 100000 ≤ s.up))) } }

/-- A buffer of a controller that receives; 64 is the FIFO head (R482, R486). -/
def State.rxBuffer (s : State) (n b : Nat) : Bool :=
  if b = 64 then true
  else match s.entryOfBuf n b with | some e => (s.entry e).dir == .rx | none => false

/-- The buffer and the word of it that an offset in a controller's space names. -/
def bufferAt (off : Nat) : Option (Nat × Nat) :=
  match arrW 0x1000 0x80 64 19 off, arrW 0x3000 0x80 1 19 off with
  | some x, _ => some x
  | none, some (_, w) => some (64, w)
  | none, none => none

/-- A read of word 0 locks a receive buffer or the FIFO head, a read of word 18 releases it (R483, R485, R486). -/
def bufferRead (p : Path) (n off : Nat) (s : State) : State :=
  match bufferAt off with
  | some (b, 0) => if s.rxBuffer n b then rxLock p n b s else s
  | some (b, 18) => if s.rxBuffer n b then rxRelease p n b s else s
  | _ => s

/-- A read clears the fields of class RC in the register at an address (R18). -/
def readClear (a : Nat) (s : State) : State :=
  let off := a % 65536
  match a / 65536 with
  | 0x00 => if off = 0x10 then { s with sys := { s.sys with eccCorrCnt := 0 } } else s
  | 0x04 =>
    if off = 0x08 then { s with tks := { s.tks with missCnt := List.replicate 8 0 } }
    else match arr 0x20 4 8 off with | some n => { s with tks := { s.tks with phaseMax := put s.tks.phaseMax n 0 } } | none => s
  | 0x10 =>
    if off = 0x210 then { s with gnb := { s.gnb with errCnt := 0, ignCnt := 0 } }
    else match arr 0x100 4 64 off with | some c => updChan c (fun x => { x with slips := 0 }) s | none => s
  | 0x20 =>
    match arr 0x200 4 12 off, arr 0x100C 0x10 256 off with
    | some u, _ => { s with str := { s.str with uartAcc := put s.str.uartAcc u 0, uartRej := put s.str.uartRej u 0, uartIgn := put s.str.uartIgn u 0 } }
    | _, some c => updCtx c (fun x => { x with samples := 0, unmatched := 0, duplicate := 0 }) s
    | _, _ => s
  | 0x24 =>
    if off = 0x04 then { s with fus := { s.fus with lateDrop := 0, replays := 0 } }
    else if off = 0x08 then { s with fus := { s.fus with maxDepth := 0, maxSamples := 0 } }
    else s
  | 0x28 => match arr 0x100 4 32 off with | some k => updCh k (fun c => { c with satCnt := 0 }) s | none => s
  | 0x34 =>
    if off = 0x0C then updAls (fun x => { x with endMax := 0 }) s
    else if off = 0x10 then updAls (fun x => { x with missIter := 0, missDead := 0 }) s
    else if off = 0x14 then updAls (fun x => { x with coldCnt := 0, depCnt := 0, ovfCnt := 0 }) s
    else s
  | 0x38 => match arr 0x114 0x20 16 off with | some n => updEnc n (fun c => { c with qerr := 0, capLost := 0 }) s | none => s
  | 0x48 =>
    if off = 0x80 then { s with net := { s.net with auth := List.replicate 7 0 } }
    else
      match arr 0x10 4 5 off, arr 0x40 4 4 off with
      | some q, _ => { s with net := { s.net with drops := put s.net.drops q [0, 0, 0, 0] } }
      | _, some l => { s with net := { s.net with lans := put s.net.lans l {} } }
      | _, _ => s
  | 0x50 =>
    if off = 0x08 then { s with pim := { s.pim with pubCnt := 0 } }
    else if off = 0x0C then { s with pim := { s.pim with rejWriter := 0, rejStandby := 0 } }
    else s
  | 0x60 =>
    if off = 0x10 then updTwn (fun w => { w with lostCnt := 0, incomplete := 0, relayed := 0 }) s
    else if off = 0x14 then updTwn (fun w => { w with comparedRc := 0, mismatchRc := 0 }) s
    else match arr 0x40 4 2 off with | some l => updTwn (fun w => { w with links := upd w.links l (fun x => { x with crcErr := 0 }) }) s | none => s
  | 0x64 => if off = 0x40 then updEvr (fun e => { e with flushMax := 0 }) s else s
  | 0x68 => if off = 0x24 then updRtc (fun r => { r with merged := 0 }) s else s
  | blk =>
    if 0x40 ≤ blk ∧ blk < 0x48 then
      if off = 0x0C then updMbc (blk - 0x40) (fun m => { m with errBit := 0, errStuff := 0, errCrc := 0, errForm := 0 }) s
      else if off = 0x48 then updMbc (blk - 0x40) (fun m => { m with ignored := 0, seqSkips := 0 }) s
      else s
    else s

/-- Everything a read of an address by a path does, once its value is taken. -/
def readEffect (p : Path) (a : Nat) (s : State) : State :=
  let off := a % 65536
  let s := readClear a (timeRelease p a (timeFreeze p a s))
  match a / 65536 with
  | 0x51 =>
    if a % 16 = 0 then pointFreeze p (off / 16) s else if a % 16 = 12 then pointRelease p (off / 16) s else s
  | 0x64 => if off = 0x08 then booksFreeze p s else if off = 0x18 then booksRelease p s else s
  | 0x68 =>
    if off = 0x04 ∨ off = 0x0C then calFreeze p s else if off = 0x08 then calRelease p s else s
  | blk => if 0x40 ≤ blk ∧ blk < 0x48 then bufferRead p (blk - 0x40) off s else s

/-- Reads of count words in ascending order, each with its effect (R766). -/
def readWords (p : Path) : Nat → Nat → State → List Word × State
  | 0, _, s => ([], s)
  | n + 1, a, s =>
    let w := (s.readWord p a).getD 0
    let r := readWords p n (a + 4) (readEffect p a s)
    (w :: r.1, r.2)

/-! ## The run-time tunables (R768 to R770) -/

/-- A carried tunable is accepted in ACTIVE and joins the commands of the tick (R769, R770). -/
def carried (c : StnCmd) (s : State) : Option State :=
  if s.sys.state = .active then some { s with net := { s.net with cmdsIn := s.net.cmdsIn ++ [{ cmd := c, session := none }] } } else none

/-- ENC_PRESET: the first write of a path gives the value, the second names the channel (R414). -/
def presetWrite (p : Path) (v : Word) (s : State) : Option State :=
  if s.sys.state ≠ .active then none
  else
    match assoc s.srv.presetVal p with
    | none => some (updSrv (fun r => { r with presetVal := assocSet r.presetVal p v }) s)
    | some x =>
      let s := updSrv (fun r => { r with presetVal := assocDel r.presetVal p }) s
      if v.toNat < 16 then carried (.encPreset x v.toNat) s else some s

/-- A tunable that only the states of R716 accept. -/
def programming (f : State → State) (s : State) : Option State := if s.progAllowed then some (f s) else none

/-- The source of a commit by its path (RTC_SET). -/
def commitSource : Path → Nat
  | .mspi => 0
  | .session _ => 1

/-- A write of a tunable, none where the register is no tunable or the state does not permit it (R768). -/
def tunableWrite (p : Path) (a : Nat) (v : Word) (s : State) : Option State :=
  match a with
  | 0x280010 => carried (.tune .syncReset v) s
  | 0x280014 => carried (.tune .swapReq v) s
  | 0x200040 => carried (.tune .ctxCmd v) s
  | 0x240010 => carried (.tune .refCmd v) s
  | 0x300004 => carried (.tune .gainScale v) s
  | 0x34004C => carried (.tune .caCmd v) s
  | 0x380040 => presetWrite p v s
  | 0x500004 => some { s with pim := { s.pim with page := assocSet s.pim.page p (v.toNat % 32) } }
  | 0x600018 => some (twnCmd v s)
  | 0x640080 => some (readSeqWrite p v s)
  | 0x680000 => some (statusWrite v s)
  | 0x680010 => some (updRtc (fun r => { r with stageTime := v }) s)
  | 0x680014 => some (updRtc (fun r => { r with stageDate := v }) s)
  | 0x680018 => some (commitWrite (commitSource p) v s)
  | 0x68001C => some (localOfsWrite v s)
  | 0x6C0080 => some (bootCmd v s)
  | 0x6C0100 => programming (progAddrWrite v) s
  | 0x6C0104 => programming (progDataWrite v) s
  | 0x6C0108 => programming (progCmdWrite v) s
  | _ =>
    let blk := a / 65536
    if 0x40 ≤ blk ∧ blk < 0x48 ∧ a % 65536 = 0x10 then some (mbcRecover (blk - 0x40) v s)
    else if 0x40 ≤ blk ∧ blk < 0x48 ∧ a % 65536 = 0x14 then some (txCancel (blk - 0x40) (fieldOf v 0 6) false s)
    else none

/-- SPI_MAINT_EN restricts the port after READY, at level 1 or above and not in FAILED (R721). -/
def State.spiRestricted (s : State) : Bool :=
  !s.image.clocks.spiMaintEn && s.boot.ready && decide (1 ≤ s.sys.level) && s.sys.state != .failed

/-- The answer to a write, 0 OK, 3 DENIED, 4 BAD_ARGUMENT, and the state it leaves: an address that R765 rejects comes first (R528, R758, R768). -/
def writeResult (p : Path) (a : Nat) (v : Word) (s : State) : Nat × State :=
  if (s.readWord p a).isNone then (4, s)
  else if p = .mspi ∧ s.spiRestricted = true then (3, s)
  else
    match tunableWrite p a v s with
    | some s' => (0, s')
    | none => (3, s)

/-- NET_REG_DENIED for a denied write of a session (R528). -/
def noteDenied (station : Nat) (a : Nat) (v : Word) (s : State) : State := record 0x0E07 4 station a v.toNat s.tickNo s

/-! ## The access paths -/

/-- The station of a MAINT session, while the session is open and AP4 carries it out (R528). -/
def State.maintStation (s : State) (n : Nat) : Option Nat :=
  if s.controllerOn then (s.net.sessions.find? (fun x => x.number == n && bitAt x.rights rightMaint)).map (·.source) else none

/-- A path reaches the registers: the port in every powered state, a session while it is open with MAINT (R528, R758). -/
def State.pathOpen (s : State) (p : Path) : Bool :=
  match p with
  | .mspi => s.sys.state != .off
  | .session n => (s.maintStation n).isSome

/-- A read of one address by a path; the word it returns goes with the frame that carries it. -/
def pathRead (p : Path) (a : Nat) (s : State) : State :=
  if s.pathOpen p ∧ (s.readWord p a).isSome then readEffect p a s else s

/-- A write of one address by a path; a denied write of a session is recorded. -/
def pathWrite (p : Path) (a : Nat) (v : Word) (s : State) : State :=
  if ¬ s.pathOpen p then s
  else
    let r := writeResult p a v s
    match p with
    | .mspi => r.2
    | .session n => if r.1 = 3 then noteDenied ((s.maintStation n).getD 0) a v r.2 else r.2

/-- A REG READ in the session of an accepted frame (R528, R766). -/
def regRead (h : StnHdr) (addr count : Nat) (s : State) : State :=
  let p := Path.session h.session
  let ok := decide (1 ≤ count ∧ count ≤ 64) && (List.range count).all (fun i => (s.readWord p (addr + 4 * i)).isSome)
  if ok then
    let r := readWords p count addr s
    sendReply h.session (.regRead 0 (wordN addr) r.1) r.2
  else sendReply h.session (.regRead 4 (wordN addr) []) s

def execRegRead (t : Nat) (h : StnHdr) (addr : Word) (count : Nat) (s : State) : Host.Outcome State Fault Refusal :=
  .next (accepted h rightMaint (regRead h addr.toNat count) (start t s))

/-- A REG WRITE in the session of an accepted frame (R528). The reply leaves before a restart the write may ask for. -/
def regWrite (h : StnHdr) (a : Nat) (v : Word) (s : State) : State :=
  let p := Path.session h.session
  let r := writeResult p a v s
  let s := sendReply h.session (.regWrite r.1 (wordN a)) s
  if r.1 = 3 then noteDenied h.source a v s else (writeResult p a v s).2

def execRegWrite (t : Nat) (h : StnHdr) (addr value : Word) (s : State) : Host.Outcome State Fault Refusal :=
  .next (accepted h rightMaint (regWrite h addr.toNat value) (start t s))

/-! ## The maintenance SPI port (R757, R758) -/

/-- The CRC of a frame: over ADDR and DATA, or over the reply's RESULT, ADDR and data (R757). -/
def mspiCrc (hi data : Nat) : Nat := crc8 (beBytes 4 hi ++ beBytes 4 data)

/-- A frame whose data is not laid down returns an open value in its place. -/
def mspiOpen (result addr : Nat) (s : State) : State :=
  let d := s.draw
  { d.2 with mspi := { result := result, addr := addr % 2 ^ 24, data := d.1 } }

/-- A frame of 72 bits with a right CRC is carried out (R757, R758). -/
def mspiCarry (hi : Nat) (v : Word) (s : State) : State :=
  let a := hi % 2 ^ 31
  if 2 ^ 31 ≤ hi then
    let r := writeResult .mspi a v s
    if r.1 = 0 then
      let s := { s with mspi := { result := 0, addr := hi % 2 ^ 24, data := v } }
      (writeResult .mspi a v s).2
    else mspiOpen r.1 hi s
  else
    match s.readWord .mspi a with
    | some w => { readEffect .mspi a s with mspi := { result := 0, addr := hi % 2 ^ 24, data := w } }
    | none => mspiOpen 4 hi s

/-- A frame of so many bits on the port: it returns the result of the frame before, and is carried out unless its length or its CRC is wrong. -/
def mspiFrame (bits : Nat) (f : BitVec 72) (s : State) : State :=
  if s.sys.state = .off then s
  else
    let m := s.mspi
    let s := emit (.mspiReply bits m.result m.addr m.data (mspiCrc (m.result * 2 ^ 24 + m.addr) m.data.toNat)) s
    let n := f.toNat
    let hi := n / 2 ^ 40
    let v := wordN (n / 2 ^ 8)
    if bits ≠ 72 then
      let d := s.draw
      mspiOpen 7 d.1.toNat d.2
    else if mspiCrc hi v.toNat ≠ n % 256 then mspiOpen 6 hi s
    else mspiCarry hi v s

def execMspiFrame (t bits : Nat) (f : BitVec 72) (s : State) : Host.Outcome State Fault Refusal := .next (mspiFrame bits f (start t s))

/-! ## Reads with an effect, by register -/

/-- TIME_SHADOW_FREEZE: a read of TIM_NOW_NS, TKS_TICK_NO, TIM_EVT_CNT_n or MBC_TSYNC_TICK. -/
def execTimeShadowFreeze (t : Nat) (p : Path) (a : Nat) (s : State) : Host.Outcome State Fault Refusal :=
  let s := start t s
  .next (if s.pathOpen p ∧ a % 4 = 0 then timeFreeze p a s else s)

/-- TIME_SHADOW_RELEASE: a read of TIM_NOW_SEC_HI, TKS_TICK_HI, TIM_EVT_LAST_SEC_n or MBC_TSYNC_SEC_LO. -/
def execTimeShadowRelease (t : Nat) (p : Path) (a : Nat) (s : State) : Host.Outcome State Fault Refusal :=
  let s := start t s
  .next (if s.pathOpen p ∧ a % 4 = 0 then timeRelease p a s else s)

/-- READ_CLEAR: a read of a register with fields of class RC. -/
def execReadClear (t : Nat) (p : Path) (a : Nat) (s : State) : Host.Outcome State Fault Refusal :=
  let s := start t s
  .next (if s.pathOpen p ∧ a % 4 = 0 then readClear a s else s)

/-- CALENDAR_SHADOW_FREEZE: a read of RTC_TIME, RTC_DATE or RTC_SUBSEC; the read of RTC_DATE also releases. -/
def execCalendarShadowFreeze (t : Nat) (p : Path) (reg : Nat) (s : State) : Host.Outcome State Fault Refusal :=
  let s := start t s
  .next (if reg < 3 then pathRead p (0x680004 + 4 * reg) s else s)

def execCalendarShadowRelease (t : Nat) (p : Path) (s : State) : Host.Outcome State Fault Refusal := .next (pathRead p 0x680008 (start t s))

def execEvrBooksFreeze (t : Nat) (p : Path) (s : State) : Host.Outcome State Fault Refusal := .next (pathRead p 0x640008 (start t s))
def execEvrBooksRelease (t : Nat) (p : Path) (s : State) : Host.Outcome State Fault Refusal := .next (pathRead p 0x640018 (start t s))

/-- POINT_WINDOW_FREEZE and POINT_WINDOW_RELEASE: a read of word 0 and of word 3 of place i of the window (R545). -/
def execPointWindowFreeze (t : Nat) (p : Path) (i : Nat) (s : State) : Host.Outcome State Fault Refusal :=
  let s := start t s
  .next (if i < 4096 then pathRead p (0x510000 + 16 * i) s else s)
def execPointWindowRelease (t : Nat) (p : Path) (i : Nat) (s : State) : Host.Outcome State Fault Refusal :=
  let s := start t s
  .next (if i < 4096 then pathRead p (0x51000C + 16 * i) s else s)
def execPointFreezeTimeout (t : Nat) (p : Path) (pt : Nat) (s : State) : Host.Outcome State Fault Refusal := .next (pointFreezeTimeout p pt (start t s))

/-- The byte address of a word of a buffer, 64 for the FIFO head. -/
def bufferAddr (n b w : Nat) : Nat := 0x400000 + n * 65536 + (if b = 64 then 0x3000 else 0x1000 + 0x80 * b) + 4 * w

def execRxBufferLock (t : Nat) (p : Path) (n b : Nat) (s : State) : Host.Outcome State Fault Refusal :=
  let s := start t s
  .next (if n < 8 ∧ b ≤ 64 then pathRead p (bufferAddr n b 0) s else s)
def execRxBufferRelease (t : Nat) (p : Path) (n b : Nat) (s : State) : Host.Outcome State Fault Refusal :=
  let s := start t s
  .next (if n < 8 ∧ b ≤ 64 then pathRead p (bufferAddr n b 18) s else s)

/-! ## Writes, by register -/

def execDfcSyncReset (t : Nat) (p : Path) (v : Word) (s : State) : Host.Outcome State Fault Refusal := .next (pathWrite p 0x280010 v (start t s))
def execDfcSwapReq (t : Nat) (p : Path) (v : Word) (s : State) : Host.Outcome State Fault Refusal := .next (pathWrite p 0x280014 v (start t s))

def execCtxCmdSetOperator (t : Nat) (p : Path) (c : Nat) (s : State) : Host.Outcome State Fault Refusal :=
  .next (pathWrite p 0x200040 (packWord [(8, 2, 1), (0, 8, c)]) (start t s))
def execCtxCmdClearOperator (t : Nat) (p : Path) (c : Nat) (s : State) : Host.Outcome State Fault Refusal :=
  .next (pathWrite p 0x200040 (packWord [(8, 2, 2), (0, 8, c)]) (start t s))

def execRefCmdSelect (t : Nat) (p : Path) (r : Nat) (s : State) : Host.Outcome State Fault Refusal :=
  .next (pathWrite p 0x240010 (packWord [(8, 2, 1), (0, 4, r)]) (start t s))
def execRefCmdRedeploy (t : Nat) (p : Path) (r : Nat) (s : State) : Host.Outcome State Fault Refusal :=
  .next (pathWrite p 0x240010 (packWord [(8, 2, 2), (0, 4, r)]) (start t s))
def execRefCmdClearTracks (t : Nat) (p : Path) (r : Nat) (s : State) : Host.Outcome State Fault Refusal :=
  .next (pathWrite p 0x240010 (packWord [(8, 2, 3), (0, 4, r)]) (start t s))

def execPclGainScaleWrite (t : Nat) (p : Path) (v : Word) (s : State) : Host.Outcome State Fault Refusal := .next (pathWrite p 0x300004 v (start t s))
def execCaCmdStart (t : Nat) (p : Path) (s : State) : Host.Outcome State Fault Refusal := .next (pathWrite p 0x34004C 1 (start t s))

/-- ENC_PRESET_VALUE and ENC_PRESET_CHANNEL: the first and the second write of a pair (R414). -/
def execEncPresetValue (t : Nat) (p : Path) (v : Word) (s : State) : Host.Outcome State Fault Refusal :=
  let s := start t s
  .next (if (assoc s.srv.presetVal p).isNone then pathWrite p 0x380040 v s else s)
def execEncPresetChannel (t : Nat) (p : Path) (n : Nat) (s : State) : Host.Outcome State Fault Refusal :=
  let s := start t s
  .next (if (assoc s.srv.presetVal p).isSome then pathWrite p 0x380040 (wordN n) s else s)

def execPimPageWrite (t : Nat) (p : Path) (v : Word) (s : State) : Host.Outcome State Fault Refusal := .next (pathWrite p 0x500004 v (start t s))

def execTwnCmdHandover (t : Nat) (p : Path) (s : State) : Host.Outcome State Fault Refusal := .next (pathWrite p 0x600018 1 (start t s))
def execTwnCmdHoldReturn (t : Nat) (p : Path) (s : State) : Host.Outcome State Fault Refusal := .next (pathWrite p 0x600018 2 (start t s))
def execTwnCmdReleaseReturn (t : Nat) (p : Path) (s : State) : Host.Outcome State Fault Refusal := .next (pathWrite p 0x600018 4 (start t s))

def execBootCmdRestart (t : Nat) (p : Path) (s : State) : Host.Outcome State Fault Refusal := .next (pathWrite p 0x6C0080 1 (start t s))
def execBootCmdClearRecord (t : Nat) (p : Path) (s : State) : Host.Outcome State Fault Refusal := .next (pathWrite p 0x6C0080 2 (start t s))
def execBootProgAddrWrite (t : Nat) (p : Path) (v : Word) (s : State) : Host.Outcome State Fault Refusal := .next (pathWrite p 0x6C0100 v (start t s))
def execBootProgDataWrite (t : Nat) (p : Path) (v : Word) (s : State) : Host.Outcome State Fault Refusal := .next (pathWrite p 0x6C0104 v (start t s))

/-- BOOT_PROG_CMD with a command and its argument (R717). -/
def progWord (c : ProgCmd) (arg : Nat) : Word := packWord [(24, 8, progCode c), (0, 8, arg)]

def execProgErase (t : Nat) (p : Path) (s : State) : Host.Outcome State Fault Refusal := .next (pathWrite p 0x6C0108 (progWord .erase 0) (start t s))
def execProgProgram (t : Nat) (p : Path) (s : State) : Host.Outcome State Fault Refusal := .next (pathWrite p 0x6C0108 (progWord .program 0) (start t s))
def execProgSetPrefer (t : Nat) (p : Path) (arg : Nat) (s : State) : Host.Outcome State Fault Refusal :=
  .next (pathWrite p 0x6C0108 (progWord .setPrefer arg) (start t s))
def execProgRead (t : Nat) (p : Path) (s : State) : Host.Outcome State Fault Refusal := .next (pathWrite p 0x6C0108 (progWord .read 0) (start t s))

/-- REGISTER_WRITE: a write of any address by a path. -/
def execRegisterWrite (t : Nat) (p : Path) (a v : Word) (s : State) : Host.Outcome State Fault Refusal := .next (pathWrite p a.toNat v (start t s))

end Sys2Proof.Machine
end

