-- ==== Sys2Proof/Machine/Commands.lean ====
section
/-! DEFINITION. What a station command or a carried tunable write does when it is applied, and its reply (R335, R526, R527, R687, R768 to R770). -/

namespace Sys2Proof.Machine

open Sys2Proof

/-- HARBOUR WATCH by station command: the outputs close, commands not applied are forgotten, the wake is armed and a round runs at once (R51, R526, R611, R687, R688). ACTIVE_IP is kept. -/
def watchEnter (s : State) : State :=
  let s := mbcCancelAll (closeGates s.sendingMask s)
  let s := armWatchdogs (enterState .harbourWatch 0x0500 s)
  watchArm { s with
    net := { s.net with cmdsIn := [], cmdsDue := [] }
    als := { s.als with caRun := false, solving := false, reckonerHeld := false }
    twn := { s.twn with handover := none, request := none, probation := none, sighting := none, sightDue := none, returnFrom := none } }

/-- A MODE command in HARBOUR WATCH: any other mode restarts the unit, once the reply has left (R335). -/
def modeInWatch (m t : Nat) (given : Bool) (track : Nat) (n e : Int) (s : State) : (Nat × Nat) × State :=
  if m < 6 then ((0, 0), record 0x0A01 4 s.pcl.mode 0 2 s.tickNo s) else modeCommand m t given track n e s

/-- A MODE command (R332, R335). -/
def cmdMode (m t : Nat) (given : Bool) (track : Nat) (n e : Int) (s : State) : (Nat × Nat) × State :=
  if s.sys.state = .harbourWatch then modeInWatch m t given track n e s
  else
    let r := modeCommand m t given track n e s
    if m = 6 ∧ r.1.1 = 0 ∧ r.2.sys.state = .active then (r.1, watchEnter r.2) else r

/-- An acknowledgement: of the faults (R632), of harbour watch (R690), of an excursion (R341). -/
def cmdAck (p : Nat) (s : State) : (Nat × Nat) × State :=
  let commands := s.sys.state != .standby
  if p = s.image.pins.safPointBase + 1 then ((0, 0), if commands then ackFaults 0 s else s)
  else if s.image.rtc.hwAlarmPoint = some p then ((0, 0), if commands then updRtc (fun r => { r with hwUnacked := false }) s else s)
  else if (s.pointCfg p).writer = 0xFF0A then ((0, 0), excursionAck s)
  else ((4, 0), s)

/-- A REFERENCE command or a write of FUS_REF_CMD (R292). -/
def cmdReference (act r : Nat) (s : State) : (Nat × Nat) × State :=
  if 3 < act ∨ 16 ≤ r then ((4, 0), s)
  else ((0, 0), match act with | 1 => refSelect r s | 2 => refRedeploy r s | 3 => refClear r s | _ => s)

/-- A CONTEXT command or a write of STR_CTX_CMD: 1 sets OPERATOR, 2 clears it (R215, R243). -/
def cmdContext (act c source : Nat) (s : State) : (Nat × Nat) × State :=
  if 3 < act ∨ 256 ≤ c then ((4, 0), s)
  else ((0, 0), match act with | 1 => operatorMask c true source s | 2 => operatorMask c false source s | _ => s)

/-- A BUS_RECOVER command (R473). -/
def cmdRecover (n : Nat) (s : State) : (Nat × Nat) × State := if 8 ≤ n then ((4, 0), s) else ((0, 0), (recoverBus n s).2)

/-- A HANDOVER command: refused for want of a target (R593). -/
def cmdHandover (s : State) : (Nat × Nat) × State :=
  let r := requestHandover .station s
  (if r.1 then (0, 0) else (1, 0), r.2)

/-- A carried tunable write (R768). -/
def applyTune (reg : CarriedReg) (v : Word) (s : State) : State :=
  match reg with
  | .syncReset => syncReset v 1 s
  | .swapReq => postSwap (fieldOf v 0 5) (fieldOf v 8 3) (fieldOf v 16 7) s
  | .ctxCmd => (cmdContext (fieldOf v 8 2) (fieldOf v 0 8) 1 s).2
  | .refCmd => (cmdReference (fieldOf v 8 2) (fieldOf v 0 4) s).2
  | .gainScale => gainScale v s
  | .caCmd => if bitAt v 0 then caCommand s else s

/-- What a command does, with its result and cause (R527). -/
def commandEffect (c : StnCmd) (s : State) : (Nat × Nat) × State :=
  match c with
  | .mode m t given track n e => cmdMode m t given track n e s
  | .setpoint n e h => setpointCommand n e h s
  | .ack p => cmdAck p s
  | .reference act r => cmdReference act r s
  | .context act c => cmdContext act c 0 s
  | .track l => trackCommand l s
  | .slot i act => slotCommand i act s
  | .busRecover n => cmdRecover n s
  | .handover => cmdHandover s
  | .tune reg v => ((0, 0), applyTune reg v s)
  | .encPreset v n => ((0, 0), encPreset v n s)

/-- The reply to a command is owed to its session, with the tick that applied it (R526). -/
def oweReply (e : CmdEntry) (r : Nat × Nat) (s : State) : State :=
  match e.session with
  | some n => { s with net := { s.net with owed := s.net.owed ++ [(n, .command (cmdCode e.cmd) r.1 r.2 s.tickNo)] } }
  | none => s

/-- Apply a command, unless the unit has left the state it was collected in (R526, R770). -/
def applyCommand (was : DevState) (s : State) (e : CmdEntry) : State :=
  if s.sys.state ≠ was then s
  else
    let r := commandEffect e.cmd s
    oweReply e r.1 r.2

/-- The commands due are applied in their order of arrival (R526, R770). -/
def applyCommands (s : State) : State :=
  let due := s.net.cmdsDue
  due.foldl (applyCommand s.sys.state) { s with net := { s.net with cmdsDue := [] } }

/-- A MODE command of these restarts the unit (R335). -/
def restartsWatch (l : List CmdEntry) : Bool := l.any (fun e => match e.cmd with | .mode m _ _ _ _ _ => decide (m < 6) | _ => false)

/-- In HARBOUR WATCH AP4 applies the commands in P6; a restart follows the replies (R335, R526). -/
def watchCommands (s : State) : State :=
  let due := s.net.cmdsDue
  let s := sendOwed (applyCommands s)
  if restartsWatch due then restartFromWatch 3 s else s

end Sys2Proof.Machine
end

