-- ==== Sys2Proof/Machine/Tick.lean ====
section
/-! DEFINITION. The tick: edges, phases, misses and the service level; and the clock monitors (R21, R32 to R57, R65, R104, R583, R615, R620, R633, R778, R779). -/

namespace Sys2Proof.Machine

open Sys2Proof

/-! ## Participants of a phase (R42, R615) -/

def updTks (f : Tks → Tks) (s : State) : State := { s with tks := f s.tks }

/-- The participants of a phase, as bits of TKS_MISS (R42). AP0 encodes in P5 for a missing AP3 (R614). -/
def State.participants (s : State) (p : Nat) : BitVec 15 :=
  let bits := fun (l : List Nat) => maskOf 15 (fun i => l.contains i)
  match p with
  | 0 => bits [6, 1, 3]
  | 1 => bits [7, 8, 1, 3]
  | 2 => bits [8, 1]
  | 3 => bits [0, 2]
  | 4 => bits [9]
  | 5 => bits [10, 11, 12, 13, if bitAt s.tks.excluded 3 then 0 else 3]
  | 6 => bits [5, 14, 4]
  | _ => bits (List.range 15)

/-- Masters as bits of TKS_MISS: AP0 to AP5, the fusion engine, the Reckoner and the servo engines. -/
def participantsOf (masters : Nat → Bool) : BitVec 15 :=
  maskOf 15 (fun i => if i < 6 then masters i else if 8 ≤ i ∧ i < 14 then masters (i + 3) else false)

/-- The participants of the open phase that will not have posted by the end of its window: those told with its opening, and those frozen or unclocked since the edge. TKS does not wait for one missing at the edge (R615). -/
def State.stalledNow (s : State) : BitVec 15 :=
  (s.tks.stalled ||| participantsOf (fun m => !s.works m)) &&& s.participants s.tks.phase &&& ~~~participantsOf (fun m => bitAt s.tks.excluded m)

/-- A participant posts its close of the open phase. -/
def State.posts (s : State) (i : Nat) : Bool := !bitAt s.stalledNow i

/-- The main work of the open phase is still awaited: the outer loop in P3, the main solve in P4. -/
def State.workAwaited (s : State) : Bool := (s.tks.phase == 3 && s.pcl.outerWait) || (s.tks.phase == 4 && s.als.solving)

/-- The work of a tick as the unit does it: by itself, as a shadow, or, as a standby that shadows and has no frame, not at all (R583). -/
def tickRun (f : State → State) (s : State) : State :=
  if s.twn.shadow.isSome then quietly f s else if s.isShadow then s else f s

/-- The unit computes ticks: STANDBY and ACTIVE. -/
def State.computes (s : State) : Bool := s.sys.state == .active || s.sys.state == .standby

/-- A unit below level 2 while ACTIVE holds its outputs (R52). -/
def State.holdsOutputs (s : State) : Bool := decide (s.sys.level < 2)

/-! ## Close and miss (R37 to R39, R42, R47, R565) -/

/-- What a close does beside its books: the servo duties in P5, the Carry frame in P6. -/
def closeWork (p : Nat) (s : State) : State :=
  match p with
  | 5 => if s.computes then tickRun (fun s => if s.holdsOutputs then s else servoClose s) s else s
  | 6 => carrySend false s
  | _ => s

/-- The open phase closes at an instant after the edge, ns (R38, TKS_PHASE_MAX). -/
def closePhase (at_ : Nat) (s : State) : State :=
  let p := s.tks.phase
  closeWork p (updTks (fun k => { k with phaseOpen := false, closed := inc32 k.closed, phaseMax := upd k.phaseMax p (fun v => max v (min 0xFFFE (at_ / 100))) }) s)

/-- The phases abandoned after a miss, and bit 5: P5 queues the commands of the tick before (R42). -/
def missChain (p : Nat) : BitVec 8 :=
  match p with
  | 0 => 0x3E | 1 => 0x3C | 2 => 0x38 | 3 => 0x30 | 4 => 0x20 | _ => 0

/-- What is left undone by a phase that misses. -/
def missWork (p : Nat) (s : State) : State :=
  match p with
  | 2 => if s.computes then tickRun fusHold s else s
  | 3 => if s.computes then tickRun (fun s => if s.pcl.outerWait then updPcl (fun q => { q with outerWait := false, outerDue := true }) s else pclMiss s) s else s
  | 4 => if s.computes then tickRun p4Abandon s else s
  | 6 => carrySend true s
  | _ => s

/-- The open phase misses its deadline: TKS_MISS, and the effects on the later phases (R39, R42, R47). -/
def missPhase (s : State) : State :=
  let p := s.tks.phase
  let mask := s.stalledNow ||| (if p = 3 ∧ s.pcl.outerWait then 1 else 0)
  let run := if s.tks.tickMissed then s.tks.missRun else min 3 (s.tks.missRun + 1)
  let s := updTks (fun k => { k with
    phaseOpen := false, missed := inc32 k.missed, tickMissed := true, missRun := run, lastMiss := p, missCnt := upd k.missCnt p (fun n => satAdd n 1 15)
    phaseMax := put k.phaseMax p 0xFFFF, abandon := k.abandon ||| missChain p }) s
  missWork p (record 0x0501 5 p s.tickNo mask.toNat run s)

/-- The open phase cannot close: a participant does not post, or the outer loop is awaited. A main solve still awaited at the end of P4 is an allocation miss instead (R46). -/
def State.misses (s : State) : Bool := s.stalledNow != 0 || (s.tks.phase == 3 && s.pcl.outerWait)

/-- The window of the open phase has passed: it misses, or it has closed by its end (R38, R39). -/
def endPhase (s : State) : State :=
  if ¬ s.tks.phaseOpen then s
  else if s.misses then missPhase s
  else
    let s := if s.tks.phase = 4 ∧ s.computes = true then inTick solveDeadline s else s
    closePhase (phaseEnd s.tks.phase) s

/-- The phase closes: every participant has posted (R38). -/
def phaseClose (p : Nat) (s : State) : State :=
  if s.tks.phase = p ∧ s.tks.phaseOpen ∧ ¬ s.misses ∧ ¬ s.workAwaited ∧ (s.tks.sinceEdge ≤ phaseEnd p ∨ p = 7) then closePhase s.tks.sinceEdge s else s

def execPhaseClose (t p : Nat) (s : State) : Host.Outcome State Fault Refusal := .next (phaseClose p (start t s))

/-- The phase has not closed at the end of its window (R39). -/
def deadlineMiss (p : Nat) (s : State) : State :=
  if s.tks.phase = p ∧ s.tks.phaseOpen ∧ s.misses ∧ phaseEnd p ≤ s.tks.sinceEdge then missPhase s else s

def execDeadlineMiss (t p : Nat) (s : State) : Host.Outcome State Fault Refusal := .next (deadlineMiss p (start t s))

/-- The third consecutive tick with a miss: the unit fails (R47, R624). -/
def tksFailed (s : State) : State :=
  if s.tks.tickMissed ∧ 3 ≤ s.tks.missRun ∧ s.sys.state ≠ .failed ∧ s.sys.state ≠ .off then
    raiseFault 4 (record 0x0502 7 s.tks.lastMiss s.tickNo 0 0 s)
  else s

def execTksFailed (t : Nat) (s : State) : Host.Outcome State Fault Refusal := .next (tksFailed (start t s))

/-! ## P0: latch and collect (R21, R115, R215, R583, R584) -/

/-- The source of a context is lost: its UART, bus, filter channel, antenna, encoder or point writer (R215, R614). -/
def State.sourceLost (s : State) (c : Nat) : Bool :=
  match s.ctxCfg c with
  | none => false
  | some k =>
    match k.src with
    | .sentence _ _ => !s.uartsServed
    | .template _ _ => !s.uartsServed
    | .can e => !s.mbcHears (s.entry e).mbc || (s.mbc (s.entry e).mbc).errState == 3 || !s.works 3
    | .filter ch => !s.works 10 || (nth s.dfc.chs ch {}).stuck
    | .encoder n => !s.domOk 10 || (s.enc n).fault || (s.enc n).overspeed
    | .gnss _ => !(s.works 7 && s.works 8 && s.works 9 && s.domOk 7) || !(List.range 4).any s.antWorks
    | .point p =>
      match s.image.net.nodes.findIdx? (fun n => n.id == (s.pointCfg p).writer) with
      | some i => (nth s.pim.nodes i {}).lost
      | none => false

/-- The samples of P0: those arrived, the filter window and the encoder latches. -/
def State.p0Samples (s : State) : List RawSample :=
  s.str.inbox ++ (if (s.dfc.latTick + 1) % 2 ^ 32 = s.tickNo then s.filterSamples else []) ++ s.encSamples

/-- The captures held since the last P0, by input. -/
def State.evtHeld (s : State) : List (Nat × EvtCapture) :=
  (List.range 8).flatMap (fun n => (nth s.tim.evt n {}).held.map (fun c => (n, c)))

/-- The captures are drained (R115). -/
def drainEvts (s : State) : State := { s with tim := { s.tim with evt := s.tim.evt.map (fun e => { e with held := [], lostTick := 0 }) } }

/-- The INPUTS of this tick (R559). -/
def State.inputsNow (s : State) : CarryInputs :=
  { samples := s.p0Samples, encTick := s.srv.winTick, encs := s.srv.win, dfcTick := s.dfc.latTick, dfc := s.dfc.lat
    gnss := if s.epochTick then some (s.gnb.hdr, s.gnb.recs) else none, evts := s.evtHeld, lost := s.ctxsDefined.filter s.sourceLost }

/-- What P0 latches, whatever is then made of it (R21, R181, R425). -/
def p0Latch (s : State) : State := encPublish (dfcLatch s)

/-- P0 of a unit that shadows: its own input side collects, and the shadow takes the frame's INPUTS (R583, R584). -/
def p0Shadow (s : State) : State :=
  let own := s.inputsNow
  let s := ownCollect own.samples own.lost.contains (beginShadow (drainEvts s))
  match s.twn.shadow with
  | some x => (match x.inputs with | some v => quietly (strCollect v.samples v.lost.contains) s | none => s)
  | none => s

/-- P0. -/
def p0Work (s : State) : State :=
  let s := p0Latch s
  if s.stalledNow ≠ 0 then s
  else if s.isShadow then p0Shadow s
  else if s.computes ∨ s.sys.state = .harbourWatch then
    let v := s.inputsNow
    let s := strCollect v.samples v.lost.contains (drainEvts s)
    if s.sys.state = .active then updTwn (fun w => { w with p0 := v }) s else s
  else { (drainEvts s) with str := { s.str with inbox := [] } }

/-! ## P1 to P5 -/

/-- Joystick, handwheel, thruster and generic values need no projector: their latest measurement stands as soon as it is released, so that joystick control goes on without fusion (R219, R614). -/
def directInputs (s : State) : State :=
  s.str.wait.foldl (fun s m =>
    match s.ctxCfg m.ctx with
    | some k =>
      match k.kind with
      | .joystick | .handwheel | .thruster | .generic => if m.absent then s else noteMeas s m
      | _ => s
    | none => s) s

/-- P1: align and project; without the fusion engine's master the projector rests (R219 to R239, R615). -/
def p1Work (s : State) : State :=
  let s := directInputs (strAlign s)
  if bitAt s.tks.excluded 11 then s else projector s

/-- P3 of a unit that computes: automatic changes, the commands of the tick, control, and the delta list unless the outer loop is awaited (R296, R298, R526). -/
def p3Work (s : State) : State :=
  let was := s.sys.state
  let s := applyCommands (autoChanges s)
  if s.sys.state ≠ was ∨ s.holdsOutputs = true then s
  else
    let s := pclWork s
    if s.pcl.outerWait then s else alsForm s

/-- P5: command frames and servo loops. After a miss of an earlier phase, and while the unit holds its outputs, the commands of the tick before go out again (R42, R43, R52). -/
def p5Work (s : State) : State :=
  let encoder := if bitAt s.tks.excluded 3 then 0 else 3
  let fresh := !bitAt s.tks.abandon 5 && s.posts encoder && !s.holdsOutputs
  let s := busFrames fresh s
  if s.holdsOutputs then s else (List.range 4).foldl (fun s e => if s.posts (10 + e) then runEngine s e else s) s

/-! ## P6 (R526, R540, R558, R585, R589, R633, R779) -/

/-- The collection window ends: what was collected is due in the next tick (R779). -/
def closeWindow (s : State) : State := { s with net := { s.net with cmdsDue := s.net.cmdsDue ++ s.net.cmdsIn, cmdsIn := [] } }

/-- SP's points of P6 (R633). -/
def safPoints (s : State) : State :=
  let b := s.image.pins.safPointBase
  let s' := blockPoint 2 (some b) s.safStatus 1 0 false s.sysNow s
  let s' := blockPoint 2 (some (b + 1)) (s.saf.latch.setWidth 32) 1 0 false s.sysNow s'
  blockPoint 2 (some (b + 2)) (s.saf.frozen.setWidth 32) 1 0 false s.sysNow s'

/-- The shadow's P6: its results are compared, and the frame's commands are due in its next tick (R583, R585). -/
def p6Shadow (s : State) : State :=
  match s.twn.shadow with
  | some x => shadowCompare { s with net := { s.net with cmdsDue := x.commands.getD [] } }
  | none => s

/-- The points and the publication of P6, when AP5 posts. -/
def p6Publish (s : State) : State := if s.posts 5 then sendOwed (publish (healthReport (safPoints s))) else s

/-- P6. -/
def p6Work (s : State) : State :=
  match s.sys.state with
  | .active => p6Publish (updTwn (fun w => { w with carryTx := if s.posts 14 then w.seq else w.carryTx }) (closeWindow s))
  | .standby => p6Publish (p6Shadow s)
  | .harbourWatch =>
    let s := watchCommands s
    if s.sys.state = .harbourWatch then p6Publish (closeWindow s) else s
  | _ => s

/-! ## The opening of a phase (R36, R37, R42, R615) -/

/-- The work of a phase that opens. A phase of which a participant does not post is not carried out in P1 to P3 (R42). -/
def phaseWork (p : Nat) (s : State) : State :=
  let run := fun (f : State → State) => if s.computes && s.stalledNow == 0 then tickRun f s else s
  match p with
  | 0 => p0Work s
  | 1 => run p1Work
  | 2 => run fusWork
  | 3 => run p3Work
  | 4 => if s.computes && !s.holdsOutputs then tickRun p4Open s else s
  | 5 => if s.computes then tickRun p5Work s else s
  | 6 => p6Work s
  | _ => s

/-- What is left undone by a phase that is abandoned. -/
def abandonWork (p : Nat) (s : State) : State :=
  if ¬ s.computes then s
  else match p with
    | 2 => tickRun fusHold s
    | 3 => tickRun pclMiss s
    | 4 => tickRun p4Abandon s
    | _ => s

/-- A phase is abandoned when its window opens: after a miss (R42), or because its work needs a missing unit (R615). -/
def State.abandons (s : State) (p : Nat) : Bool :=
  let out := fun (m : Nat) => bitAt s.tks.excluded m
  (decide (p < 5) && bitAt s.tks.abandon p)
    || (match p with | 2 => out 1 || out 11 | 3 => out 0 | 4 => out 0 | 6 => out 4 || out 5 | _ => false)

/-- The frame a shadow runs on, with what has come of it since. -/
def refreshShadow (s : State) : State :=
  match s.twn.shadow with
  | some x => updTwn (fun w => { w with shadow := some (s.lastFrame.getD x) }) s
  | none => s

/-- The frames in transmission, as the buses have them now (R466). -/
def noteWires (onWire : BitVec 8) (s : State) : State :=
  { s with mbcs := (List.range 8).map (fun n => { (s.mbc n) with wire := if bitAt onWire n then (s.mbc n).current.map (·.entry) else none }) }

/-- The window of a phase opens (R37). `stalled`: the participants that will not have posted by its end. -/
def phaseOpen (p : Nat) (stalled : BitVec 15) (onWire : BitVec 8) (s : State) : State :=
  if ¬ s.tks.running ∨ p ≠ (s.tks.phase + 1) % 8 ∨ s.tks.sinceEdge < phaseStart p ∨ (phaseEnd p ≤ s.tks.sinceEdge ∧ p ≠ 7) then s
  else
    let s := refreshShadow (noteWires onWire (endPhase s))
    let s := updTks (fun k => { k with phase := p, phaseOpen := true, stalled := stalled, opened := inc32 k.opened }) s
    if s.abandons p then abandonWork p (updTks (fun k => { k with phaseOpen := false, abandoned := inc32 k.abandoned }) s)
    else phaseWork p s

def execPhaseOpen (t p : Nat) (stalled : BitVec 15) (onWire : BitVec 8) (s : State) : Host.Outcome State Fault Refusal :=
  .next (phaseOpen p stalled onWire (start t s))

/-! ## The service level (R54 to R57) -/

/-- The level is evaluated in the last SYS cycle before the edge; a change is recorded, and takes effect from the edge. -/
def levelEvaluation (s : State) : State :=
  if ¬ s.tks.running ∨ s.tks.sinceEdge < phaseStart 7 ∨ ¬ (s.computes ∨ s.sys.state = .harbourWatch) then s
  else if s.levelNow = s.sys.level then { s with sys := { s.sys with levelNext := none } }
  else record 0x0102 5 s.sys.level s.levelNow s.missingMask s.tickNo { s with sys := { s.sys with levelNext := some s.levelNow } }

def execLevelEvaluation (t : Nat) (s : State) : Host.Outcome State Fault Refusal := .next (levelEvaluation (start t s))

/-- The level evaluated takes effect; an extra heartbeat tells a change (R56, R568). -/
def takeLevel (s : State) : State :=
  match s.sys.levelNext with
  | some n => urgentHeartbeat false { s with sys := { s.sys with level := n, levelNext := none } }
  | none => s

/-! ## The tick edge (R33, R34, R40, R41, R47, R48, R65, R66, R92, R93, R104, R105, R778) -/

/-- Ticks are generated: the counters are loaded and the tick source, or a domain to take over from the backup counter, runs. -/
def State.tickComes (s : State) : Bool :=
  s.tim.loaded && s.sys.state != .off &&
    (match s.tim.sel with
      | 0 => s.domOk 5
      | 1 => s.domOk 6
      | 2 => s.domOk 10 || s.domOk 5 || s.domOk 6
      | _ => false)

/-- The change of the residual in a tick: 10 ns towards 0, none while it waits for a step (R34, R93). -/
def State.residualStep (s : State) : Int := if s.tim.residStep then 0 else clampI (-10) 10 (-s.tim.residual)

/-- The counters go on by n ns of system time; the domains that are not the tick source drift against it. -/
def advanceClocks (n drift : Int) (s : State) : State :=
  let dr := s.residualStep
  let m := n - dr
  let go := fun (k c : Nat) => shift c (if s.tim.sel = k then m else m + drift)
  let dom := fun (k : Nat) (d : Dom) => if d.state = .none then d else { d with ctr := go k d.ctr }
  { s with
    tim := { s.tim with a := dom 0 s.tim.a, b := dom 1 s.tim.b, backup := go 2 s.tim.backup, residual := s.tim.residual + dr, latSys := shift s.tim.latSys n }
    tks := { s.tks with prevEdge := s.tks.upEdge, upEdge := shift s.tks.upEdge m, periodNs := m.toNat, sinceEdge := 0 } }

/-- The first edge falls on the next whole millisecond of system time; TICK_EXT is 0 there (R33, R41). -/
def firstEdge (drift : Int) (s : State) : State :=
  let target := (s.sysNow + 999999) / 1000000 * 1000000
  let s := advanceClocks ((target : Int) - s.tim.latSys) drift s
  updTks (fun k => { k with running := true, periodNs := 0 }) s

/-- Every later edge comes 1,000 µs of system time after the one before, 1 µs sooner or later while the phase is realigned (R34, R40, R104). -/
def nextEdge (drift : Int) (s : State) : State :=
  let corr := periodCorr s.tks.phaseErr
  let s := advanceClocks (1000000 - corr) drift s
  updTks (fun k => { k with phaseErr := k.phaseErr - corr, tickExt := (k.tickExt + 1) % 2 ^ 48 }) s

/-- The books of the tick that ends, and the masters missing from this edge (R47, R48, R615). -/
def edgeBooks (s : State) : State :=
  let missing := maskOf 17 (fun m => !s.works m)
  let s := updTks (fun k => { k with
    missLast := k.tickMissed, missRun := if k.tickMissed then k.missRun else 0, tickMissed := false, abandon := 0, stalled := 0, reckoner := false
    phase := 7, phaseOpen := false, excluded := missing }) s
  { s with sys := { s.sys with healthSeq := (s.sys.healthSeq + 1) % 256 }, tim := { s.tim with abDiff := (s.tim.a.ctr : Int) - s.tim.b.ctr } }

/-- A domain whose clock has returned is loaded (R778). -/
def edgeReload (s : State) : State :=
  [0, 1].foldl (fun s d => if (s.imgDom d).enabled && (s.dom d).state == .none && s.domOk (5 + d) then reloadDom d s else s) s

/-- The confidence of the contexts, on the standby's own input side too (R217). -/
def edgeConf (s : State) : State :=
  let own := (confSteps { s with str := { s.str with ctxs := s.twn.ownCtxs } }).str.ctxs
  let s := confSteps s
  if s.twn.ownCtxs.isEmpty then s else updTwn (fun w => { w with ownCtxs := own }) s

/-- What every block does at an edge (R21, R65, R173, R186, R217, R224, R425, R432, R471, R490, R564, R667). -/
def edgeBlocks (s : State) : State :=
  let s := twnEdge s
  let s := { s with dfc := { s.dfc with chs := s.dfc.chs.map (dfcEdge s.tks.upEdge) } }
  let s := busTick (encTick (edgeConf (groupEdges s)))
  let s := rtcTick { s with pim := { s.pim with accepted := [] } }
  if s.takesWrites then takeWaiting s else s

/-- A tick edge. Work still running is abandoned. `drift`: what the other domains have moved against the tick source in the period, ns. -/
def tickEdge (drift : Int) (s : State) : State :=
  if ¬ s.tickComes then s
  else
    let s := endPhase s
    let s := if s.tks.running then nextEdge drift s else firstEdge drift s
    edgeBlocks (edgeReload (takeLevel (edgeBooks s)))

def execTickEdge (t : Nat) (drift : Int) (s : State) : Host.Outcome State Fault Refusal := .next (tickEdge drift (start t s))

/-! ## The clock monitors (R32, R620, R624) -/

/-- Nominal frequency of a domain or reference input, Hz. -/
def nominalHz (d : Nat) : Nat :=
  nth [800000000, 600000000, 200000000, 125000000, 156250000, 250000000, 250000000, 16368000, 261888000, 80000000, 100000000, 32768, 25000000, 156250000] d 0

/-- A domain or reference input is watched: started by the image, other than SAFE, which the checker watches (R619, R620, R721). -/
def State.clkWatched (s : State) (d : Nat) : Bool :=
  let k := s.image.clocks
  s.sys.state != .off && !s.saf.checker && d != 2 &&
    (if d = 12 then true else if d = 13 then k.serdesRef
     else if d = 3 ∨ d = 4 then k.serdesRef && bitAt k.domainUse d
     else decide (d < 12) && (d == 0 || d == 10 || bitAt k.domainUse d))

/-- What the loss of a domain does beyond the service level (R32, R66, R413, R489, R670). -/
def clkLostWork (d : Nat) (s : State) : State :=
  match d with
  | 4 => carryDown 1 (carryDown 0 s)
  | 5 => domClockLost 0 s
  | 6 => domClockLost 1 s
  | 9 => busLost s
  | 10 => updSrv (fun v => { v with encs := v.encs.map (fun c => { c with indexed := false }) }) s
  | _ => s

/-- What the return of a domain does (R188, R428, R497, R670). -/
def clkBackWork (d : Nat) (s : State) : State :=
  match d with
  | 9 => busReturns s
  | 10 => encStart (syncReset s.dfc.chEn 2 s)
  | 11 => xtalReturns s
  | _ => s

/-- Two gates in a row outside the band: the domain is lost (R620, R624). -/
def clkLoss (d hz : Nat) (s : State) : State :=
  let s := if d = 11 then xtalStops s else s
  let s := { s with clk := { s.clk with lost := setBit s.clk.lost d true, running := setBit s.clk.running d false, lostAt := put s.clk.lostAt d s.up } }
  let s := clkLostWork d (record 0x0301 6 d (hz / 1000 : Nat) 0 s.tickNo s)
  raiseFault (if d = 0 ∨ d = 1 ∨ d = 3 ∨ d = 9 ∨ d = 10 ∨ d = 12 ∨ d = 13 then 18 else 19) s

/-- Ten gates in a row within the band: the domain is restored; one that had not run before runs (R620). -/
def clkBack (d hz : Nat) (s : State) : State :=
  let lost := s.clkLost d
  let ms := (s.up - nth s.clk.lostAt d 0) / nsPerMs
  let s := { s with clk := { s.clk with lost := setBit s.clk.lost d false, running := setBit s.clk.running d true } }
  if lost then clkBackWork d (record 0x0302 4 d (hz / 1000 : Nat) ms s.tickNo s) else s

/-- A monitor gate ends with a count that stands for a frequency in Hz (R620). -/
def clkGate (d hz : Nat) (s : State) : State :=
  if ¬ s.clkWatched d then s
  else
    let inside := decide (95 * nominalHz d ≤ 100 * hz ∧ 100 * hz ≤ 105 * nominalHz d)
    let bad := if inside then 0 else min 2 (nth s.clk.gateBad d 0 + 1)
    let good := if inside then min 10 (nth s.clk.gateGood d 0 + 1) else 0
    let s := { s with clk := { s.clk with gateBad := put s.clk.gateBad d bad, gateGood := put s.clk.gateGood d good } }
    if bad = 2 ∧ bitAt s.clk.running d ∧ ¬ s.clkLost d then clkLoss d hz s
    else if good = 10 ∧ ¬ s.domOk d then clkBack d hz s
    else s

def execClkMonitorGate (t d hz : Nat) (s : State) : Host.Outcome State Fault Refusal := .next (clkGate d hz (start t s))

/-- The PLL of a domain unlocks without loss of the domain (R620, R624). -/
def pllUnlock (d : Nat) (s : State) : State :=
  if [0, 1, 3, 8, 9, 10].contains d ∧ s.clkWatched d = true ∧ s.domOk d = true then raiseFault 20 (record 0x0303 5 d 0 0 s.tickNo s) else s

def execClkPllUnlock (t d : Nat) (s : State) : Host.Outcome State Fault Refusal := .next (pllUnlock d (start t s))

end Sys2Proof.Machine
end

