-- ==== Sys2Proof/Machine/Dispatch.lean ====
section
/-! DEFINITION. The dispatch of a command to its meaning: one arm per row of the table. -/

namespace Sys2Proof.Machine

def exec (i : Instr) (s : State) : Host.Outcome State Fault Refusal :=
  match i with
  | .resetRelease t v => Sys2Proof.Machine.execResetRelease t v s
  | .rstNPulse t lowNs => Sys2Proof.Machine.execRstNPulse t lowNs s
  | .lossOfPower t reached => Sys2Proof.Machine.execLossOfPower t reached s
  | .discoveryEnd t v => Sys2Proof.Machine.execDiscoveryEnd t v s
  | .masterWaitExpiry t v => Sys2Proof.Machine.execMasterWaitExpiry t v s
  | .startWatchdogExpiry t => Sys2Proof.Machine.execStartWatchdogExpiry t s
  | .directoryRewrite t => Sys2Proof.Machine.execDirectoryRewrite t s
  | .tickEdge t drift => Sys2Proof.Machine.execTickEdge t drift s
  | .phaseOpen t p stalled onWire => Sys2Proof.Machine.execPhaseOpen t p stalled onWire s
  | .phaseClose t p => Sys2Proof.Machine.execPhaseClose t p s
  | .deadlineMiss t p => Sys2Proof.Machine.execDeadlineMiss t p s
  | .tksFailed t => Sys2Proof.Machine.execTksFailed t s
  | .levelEvaluation t => Sys2Proof.Machine.execLevelEvaluation t s
  | .reckonerRequest t => Sys2Proof.Machine.execReckonerRequest t s
  | .scrubRead t found => Sys2Proof.Machine.execScrubRead t found s
  | .lockstepDisagreement t pair pc => Sys2Proof.Machine.execLockstepDisagreement t pair pc s
  | .clkMonitorGate t d hz => Sys2Proof.Machine.execClkMonitorGate t d hz s
  | .clkPllUnlock t d => Sys2Proof.Machine.execClkPllUnlock t d s
  | .ptpSyncReceived t d port src seq origin corr twoStep => Sys2Proof.Machine.execPtpSyncReceived t d port src seq origin corr twoStep s
  | .ptpFollowUpReceived t d port src seq origin corr => Sys2Proof.Machine.execPtpFollowUpReceived t d port src seq origin corr s
  | .ptpDelayReqReceived t d port seq corr => Sys2Proof.Machine.execPtpDelayReqReceived t d port seq corr s
  | .ptpDelayRespReceived t d port req seq t4 corr => Sys2Proof.Machine.execPtpDelayRespReceived t d port req seq t4 corr s
  | .ptpPdelayReqReceived t d port seq turnNs corr => Sys2Proof.Machine.execPtpPdelayReqReceived t d port seq turnNs corr s
  | .ptpPdelayRespReceived t d port req seq t2 corr twoStep => Sys2Proof.Machine.execPtpPdelayRespReceived t d port req seq t2 corr twoStep s
  | .ptpPdelayRespFollowUpReceived t port req seq t3 corr => Sys2Proof.Machine.execPtpPdelayRespFollowUpReceived t port req seq t3 corr s
  | .ptpAnnounceReceived t d port a => Sys2Proof.Machine.execPtpAnnounceReceived t d port a s
  | .ptpOtherMessage t => Sys2Proof.Machine.execPtpOtherMessage t s
  | .ptpSyncSend t d => Sys2Proof.Machine.execPtpSyncSend t d s
  | .ptpAnnounceSend t d => Sys2Proof.Machine.execPtpAnnounceSend t d s
  | .ptpDelayReqSend t d port => Sys2Proof.Machine.execPtpDelayReqSend t d port s
  | .announceTimeout t d => Sys2Proof.Machine.execAnnounceTimeout t d s
  | .syncTimeout t d => Sys2Proof.Machine.execSyncTimeout t d s
  | .sourceReturn t d => Sys2Proof.Machine.execSourceReturn t d s
  | .domainLock t d => Sys2Proof.Machine.execDomainLock t d s
  | .timeStep t which => Sys2Proof.Machine.execTimeStep t which s
  | .slewDone t which => Sys2Proof.Machine.execSlewDone t which s
  | .holdoverLimit t d => Sys2Proof.Machine.execHoldoverLimit t d s
  | .tickSourceChange t => Sys2Proof.Machine.execTickSourceChange t s
  | .timeSave t => Sys2Proof.Machine.execTimeSave t s
  | .timePulse t => Sys2Proof.Machine.execTimePulse t s
  | .tp1Pulse t => Sys2Proof.Machine.execTp1Pulse t s
  | .utcLeapInstant t => Sys2Proof.Machine.execUtcLeapInstant t s
  | .evtInCapture t n fall => Sys2Proof.Machine.execEvtInCapture t n fall s
  | .antennaDutyPeriod t a n magI magQ sgnI sgnQ => Sys2Proof.Machine.execAntennaDutyPeriod t a n magI magQ sgnI sgnQ s
  | .acqSearchDone t durUs peaks => Sys2Proof.Machine.execAcqSearchDone t durUs peaks s
  | .acqAidedRequest t a prn => Sys2Proof.Machine.execAcqAidedRequest t a prn s
  | .pullInTimeout t c => Sys2Proof.Machine.execPullInTimeout t c s
  | .channelTrack1ms t c => Sys2Proof.Machine.execChannelTrack1ms t c s
  | .bitSync t c => Sys2Proof.Machine.execBitSync t c s
  | .gnssLoopPass t ms => Sys2Proof.Machine.execGnssLoopPass t ms s
  | .channelLossOfLock t c => Sys2Proof.Machine.execChannelLossOfLock t c s
  | .measurementEpoch t feFreq ms => Sys2Proof.Machine.execMeasurementEpoch t feFreq ms s
  | .lnavSubframe t c inverted tx body => Sys2Proof.Machine.execLnavSubframe t c inverted tx body s
  | .ephemerisExpiry t prn => Sys2Proof.Machine.execEphemerisExpiry t prn s
  | .rtcm1004 t src o => Sys2Proof.Machine.execRtcm1004 t src o s
  | .rtcm1005 t src station x y z => Sys2Proof.Machine.execRtcm1005 t src station x y z s
  | .rtcm1006 t src station x y z height => Sys2Proof.Machine.execRtcm1006 t src station x y z height s
  | .rtcm1019 t src e => Sys2Proof.Machine.execRtcm1019 t src e s
  | .rtcmOtherType t src => Sys2Proof.Machine.execRtcmOtherType t src s
  | .rtcmHoldExpiry t => Sys2Proof.Machine.execRtcmHoldExpiry t s
  | .navSolutionDelivery t r => Sys2Proof.Machine.execNavSolutionDelivery t r s
  | .gnssTimeLost t => Sys2Proof.Machine.execGnssTimeLost t s
  | .antennaLost t a => Sys2Proof.Machine.execAntennaLost t a s
  | .dfcChannelStuck t f => Sys2Proof.Machine.execDfcChannelStuck t f s
  | .dfcChannelRecover t k => Sys2Proof.Machine.execDfcChannelRecover t k s
  | .sincStep t f => Sys2Proof.Machine.execSincStep t f s
  | .firRound t fs => Sys2Proof.Machine.execFirRound t fs s
  | .firRoundEnd t => Sys2Proof.Machine.execFirRoundEnd t s
  | .dfcSyncReset t p v => Sys2Proof.Machine.execDfcSyncReset t p v s
  | .dfcSwapReq t p v => Sys2Proof.Machine.execDfcSwapReq t p v s
  | .sentenceHdt t tg => Sys2Proof.Machine.execSentenceHdt t tg s
  | .sentenceThs t tg => Sys2Proof.Machine.execSentenceThs t tg s
  | .sentenceRot t tg => Sys2Proof.Machine.execSentenceRot t tg s
  | .sentenceHrm t tg => Sys2Proof.Machine.execSentenceHrm t tg s
  | .sentenceMwv t tg => Sys2Proof.Machine.execSentenceMwv t tg s
  | .sentenceGga t tg => Sys2Proof.Machine.execSentenceGga t tg s
  | .sentenceGns t tg => Sys2Proof.Machine.execSentenceGns t tg s
  | .sentenceVtg t tg => Sys2Proof.Machine.execSentenceVtg t tg s
  | .sentenceTtm t tg => Sys2Proof.Machine.execSentenceTtm t tg s
  | .sentenceOther t tg => Sys2Proof.Machine.execSentenceOther t tg s
  | .templateTelegram t tm tg => Sys2Proof.Machine.execTemplateTelegram t tm tg s
  | .contextStale t c => Sys2Proof.Machine.execContextStale t c s
  | .contextUnmask t c => Sys2Proof.Machine.execContextUnmask t c s
  | .groupInstant t g => Sys2Proof.Machine.execGroupInstant t g s
  | .groupReleaseTimeout t g => Sys2Proof.Machine.execGroupReleaseTimeout t g s
  | .groupToTriggered t g => Sys2Proof.Machine.execGroupToTriggered t g s
  | .groupToMain t g => Sys2Proof.Machine.execGroupToMain t g s
  | .syncOutPulse t g => Sys2Proof.Machine.execSyncOutPulse t g s
  | .ctxCmdSetOperator t p c => Sys2Proof.Machine.execCtxCmdSetOperator t p c s
  | .ctxCmdClearOperator t p c => Sys2Proof.Machine.execCtxCmdClearOperator t p c s
  | .replaySnapshot t => Sys2Proof.Machine.execReplaySnapshot t s
  | .fusStreamLate t c => Sys2Proof.Machine.execFusStreamLate t c s
  | .flatContradiction t q => Sys2Proof.Machine.execFlatContradiction t q s
  | .outlierMask t q => Sys2Proof.Machine.execOutlierMask t q s
  | .disputeEnd t q => Sys2Proof.Machine.execDisputeEnd t q s
  | .drLimitExpiry t q => Sys2Proof.Machine.execDrLimitExpiry t q s
  | .refCmdSelect t p r => Sys2Proof.Machine.execRefCmdSelect t p r s
  | .refCmdRedeploy t p r => Sys2Proof.Machine.execRefCmdRedeploy t p r s
  | .refCmdClearTracks t p r => Sys2Proof.Machine.execRefCmdClearTracks t p r s
  | .scanClose t r => Sys2Proof.Machine.execScanClose t r s
  | .outerLoop t => Sys2Proof.Machine.execOuterLoop t s
  | .joystickInvalid t => Sys2Proof.Machine.execJoystickInvalid t s
  | .waypointReached t => Sys2Proof.Machine.execWaypointReached t s
  | .blendEnd t => Sys2Proof.Machine.execBlendEnd t s
  | .windFadeEnd t => Sys2Proof.Machine.execWindFadeEnd t s
  | .pclGainScaleWrite t p v => Sys2Proof.Machine.execPclGainScaleWrite t p v s
  | .commandMode t h m slot given track n e => Sys2Proof.Machine.execCommandMode t h m slot given track n e s
  | .commandSetpoint t h n e hdg => Sys2Proof.Machine.execCommandSetpoint t h n e hdg s
  | .commandAck t h point => Sys2Proof.Machine.execCommandAck t h point s
  | .commandReference t h action ref => Sys2Proof.Machine.execCommandReference t h action ref s
  | .commandContext t h action ctx => Sys2Proof.Machine.execCommandContext t h action ctx s
  | .commandTrack t h wps => Sys2Proof.Machine.execCommandTrack t h wps s
  | .commandSlot t h slot action => Sys2Proof.Machine.execCommandSlot t h slot action s
  | .commandBusRecover t h n => Sys2Proof.Machine.execCommandBusRecover t h n s
  | .commandHandover t h => Sys2Proof.Machine.execCommandHandover t h s
  | .solveOutcome t => Sys2Proof.Machine.execSolveOutcome t s
  | .solveDeadline t => Sys2Proof.Machine.execSolveDeadline t s
  | .fallbackOn t => Sys2Proof.Machine.execFallbackOn t s
  | .fallbackOff t => Sys2Proof.Machine.execFallbackOff t s
  | .structureLoaded t => Sys2Proof.Machine.execStructureLoaded t s
  | .pwrHoldExpiry t b => Sys2Proof.Machine.execPwrHoldExpiry t b s
  | .caRoundStart t => Sys2Proof.Machine.execCaRoundStart t s
  | .caCaseDone t => Sys2Proof.Machine.execCaCaseDone t s
  | .caRoundLate t => Sys2Proof.Machine.execCaRoundLate t s
  | .caCmdStart t p => Sys2Proof.Machine.execCaCmdStart t p s
  | .encoderEdge t n a b => Sys2Proof.Machine.execEncoderEdge t n a b s
  | .encoderIndex t n => Sys2Proof.Machine.execEncoderIndex t n s
  | .standstill t n => Sys2Proof.Machine.execStandstill t n s
  | .ssiFrameStart t n => Sys2Proof.Machine.execSsiFrameStart t n s
  | .ssiFrameDone t n raw idleHigh finalLow => Sys2Proof.Machine.execSsiFrameDone t n raw idleHigh finalLow s
  | .encPresetValue t p v => Sys2Proof.Machine.execEncPresetValue t p v s
  | .encPresetChannel t p n => Sys2Proof.Machine.execEncPresetChannel t p n s
  | .pdivStep t p => Sys2Proof.Machine.execPdivStep t p s
  | .feedbackLost t x => Sys2Proof.Machine.execFeedbackLost t x s
  | .azFollow t x => Sys2Proof.Machine.execAzFollow t x s
  | .pwmPeriodStart t k => Sys2Proof.Machine.execPwmPeriodStart t k s
  | .txDone t n => Sys2Proof.Machine.execTxDone t n s
  | .arbitrationLost t n => Sys2Proof.Machine.execArbitrationLost t n s
  | .txError t n k exempt => Sys2Proof.Machine.execTxError t n k exempt s
  | .mbcTxCancel t n v won => Sys2Proof.Machine.execMbcTxCancel t n v won s
  | .txExpired t n => Sys2Proof.Machine.execTxExpired t n s
  | .busRecovered t n => Sys2Proof.Machine.execBusRecovered t n s
  | .mbcRecover t n v => Sys2Proof.Machine.execMbcRecover t n v s
  | .failback t n => Sys2Proof.Machine.execFailback t n s
  | .integrationDone t n => Sys2Proof.Machine.execIntegrationDone t n s
  | .rxFrame t n f sofAgo => Sys2Proof.Machine.execRxFrame t n f sofAgo s
  | .rxBufferLock t p n b => Sys2Proof.Machine.execRxBufferLock t p n b s
  | .rxBufferRelease t p n b => Sys2Proof.Machine.execRxBufferRelease t p n b s
  | .rxLockTimeout t n b => Sys2Proof.Machine.execRxLockTimeout t n b s
  | .wakeEdge t n ns => Sys2Proof.Machine.execWakeEdge t n ns s
  | .wakeFrame t n f => Sys2Proof.Machine.execWakeFrame t n f s
  | .phyLinkChange t p mbps full => Sys2Proof.Machine.execPhyLinkChange t p mbps full s
  | .portFrameReceived t p f => Sys2Proof.Machine.execPortFrameReceived t p f s
  | .frameAdmission t => Sys2Proof.Machine.execFrameAdmission t s
  | .frameTransmitted t p => Sys2Proof.Machine.execFrameTransmitted t p s
  | .addressAgeing t => Sys2Proof.Machine.execAddressAgeing t s
  | .prpSupervisionSend t => Sys2Proof.Machine.execPrpSupervisionSend t s
  | .prpLanLost t l => Sys2Proof.Machine.execPrpLanLost t l s
  | .arpRequest t p ip => Sys2Proof.Machine.execArpRequest t p ip s
  | .icmpEcho t ip id seq => Sys2Proof.Machine.execIcmpEcho t ip id seq s
  | .helloOpen t h rights nonceHi nonceLo => Sys2Proof.Machine.execHelloOpen t h rights nonceHi nonceLo s
  | .helloStatus t h nonceHi nonceLo => Sys2Proof.Machine.execHelloStatus t h nonceHi nonceLo s
  | .subscribeAdd t h action first count => Sys2Proof.Machine.execSubscribeAdd t h action first count s
  | .subscribeRemove t h first count => Sys2Proof.Machine.execSubscribeRemove t h first count s
  | .subscribeFull t h first count => Sys2Proof.Machine.execSubscribeFull t h first count s
  | .pointUpdateReceived t h recs => Sys2Proof.Machine.execPointUpdateReceived t h recs s
  | .ioFrameInputs t h sample entries => Sys2Proof.Machine.execIoFrameInputs t h sample entries s
  | .ioFrameBytes t h channel bytes => Sys2Proof.Machine.execIoFrameBytes t h channel bytes s
  | .ioOutputsSend t k => Sys2Proof.Machine.execIoOutputsSend t k s
  | .ioNodeLost t k => Sys2Proof.Machine.execIoNodeLost t k s
  | .regRead t h addr count => Sys2Proof.Machine.execRegRead t h addr count s
  | .regWrite t h addr value => Sys2Proof.Machine.execRegWrite t h addr value s
  | .eventFetch t h from_ count => Sys2Proof.Machine.execEventFetch t h from_ count s
  | .stationFrameDiscard t h need => Sys2Proof.Machine.execStationFrameDiscard t h need s
  | .sessionTimeout t n => Sys2Proof.Machine.execSessionTimeout t n s
  | .pointStale t p => Sys2Proof.Machine.execPointStale t p s
  | .pointWindowFreeze t p k => Sys2Proof.Machine.execPointWindowFreeze t p k s
  | .pointWindowRelease t p k => Sys2Proof.Machine.execPointWindowRelease t p k s
  | .pointFreezeTimeout t p pt => Sys2Proof.Machine.execPointFreezeTimeout t p pt s
  | .pimPageWrite t p v => Sys2Proof.Machine.execPimPageWrite t p v s
  | .carryFrameReceived t link h sec crcOk => Sys2Proof.Machine.execCarryFrameReceived t link h sec crcOk s
  | .carryDue t => Sys2Proof.Machine.execCarryDue t s
  | .carryLinkDown t l => Sys2Proof.Machine.execCarryLinkDown t l s
  | .carryLinkUp t l => Sys2Proof.Machine.execCarryLinkUp t l s
  | .heartbeatSend t => Sys2Proof.Machine.execHeartbeatSend t s
  | .heartbeatReceived t path hb ofs crcOk => Sys2Proof.Machine.execHeartbeatReceived t path hb ofs crcOk s
  | .heartbeatWindowEnd t => Sys2Proof.Machine.execHeartbeatWindowEnd t s
  | .duplicateClear t => Sys2Proof.Machine.execDuplicateClear t s
  | .activeEntry t => Sys2Proof.Machine.execActiveEntry t s
  | .yield t => Sys2Proof.Machine.execYield t s
  | .probationEnd t => Sys2Proof.Machine.execProbationEnd t s
  | .joinSynced t => Sys2Proof.Machine.execJoinSynced t s
  | .roleExchangeDue t => Sys2Proof.Machine.execRoleExchangeDue t s
  | .returnDue t => Sys2Proof.Machine.execReturnDue t s
  | .handoverAccept t => Sys2Proof.Machine.execHandoverAccept t s
  | .handoverEdge t => Sys2Proof.Machine.execHandoverEdge t s
  | .handoverAbort t => Sys2Proof.Machine.execHandoverAbort t s
  | .twnCmdHandover t p => Sys2Proof.Machine.execTwnCmdHandover t p s
  | .twnCmdHoldReturn t p => Sys2Proof.Machine.execTwnCmdHoldReturn t p s
  | .twnCmdReleaseReturn t p => Sys2Proof.Machine.execTwnCmdReleaseReturn t p s
  | .layupFollow t => Sys2Proof.Machine.execLayupFollow t s
  | .watchdogKick t writer m v => Sys2Proof.Machine.execWatchdogKick t writer m v s
  | .watchdogExpiry t m => Sys2Proof.Machine.execWatchdogExpiry t m s
  | .firewallViolation t m addr write => Sys2Proof.Machine.execFirewallViolation t m addr write s
  | .safReqAck t writer maint => Sys2Proof.Machine.execSafReqAck t writer maint s
  | .safReqSwFault t writer code => Sys2Proof.Machine.execSafReqSwFault t writer code s
  | .safeLost t kHz => Sys2Proof.Machine.execSafeLost t kHz s
  | .supplyBandChange t rail band mV => Sys2Proof.Machine.execSupplyBandChange t rail band mV s
  | .tempBandChange t band tj => Sys2Proof.Machine.execTempBandChange t band tj s
  | .outenMismatch t level => Sys2Proof.Machine.execOutenMismatch t level s
  | .pfailFall t lowNs => Sys2Proof.Machine.execPfailFall t lowNs s
  | .pfailRise t => Sys2Proof.Machine.execPfailRise t s
  | .flushPageStart t => Sys2Proof.Machine.execFlushPageStart t s
  | .pageCommit t ok => Sys2Proof.Machine.execPageCommit t ok s
  | .urgentFlushDone t => Sys2Proof.Machine.execUrgentFlushDone t s
  | .evrReadSeqWrite t p v => Sys2Proof.Machine.execEvrReadSeqWrite t p v s
  | .evrBooksFreeze t p => Sys2Proof.Machine.execEvrBooksFreeze t p s
  | .evrBooksRelease t p => Sys2Proof.Machine.execEvrBooksRelease t p s
  | .calendarSecond t => Sys2Proof.Machine.execCalendarSecond t s
  | .trimAdjust t => Sys2Proof.Machine.execTrimAdjust t s
  | .calendarSync t => Sys2Proof.Machine.execCalendarSync t s
  | .rtcCommit t source v => Sys2Proof.Machine.execRtcCommit t source v s
  | .rtcCommitCheck t => Sys2Proof.Machine.execRtcCommitCheck t s
  | .rtcLocalOfsWrite t v => Sys2Proof.Machine.execRtcLocalOfsWrite t v s
  | .dateErrClear t v => Sys2Proof.Machine.execDateErrClear t v s
  | .calendarShadowFreeze t p reg => Sys2Proof.Machine.execCalendarShadowFreeze t p reg s
  | .calendarShadowRelease t p => Sys2Proof.Machine.execCalendarShadowRelease t p s
  | .calendarShadowTimeout t p => Sys2Proof.Machine.execCalendarShadowTimeout t p s
  | .supplySwitchToVbu t io vbu => Sys2Proof.Machine.execSupplySwitchToVbu t io vbu s
  | .supplySwitchToMain t io vbu => Sys2Proof.Machine.execSupplySwitchToMain t io vbu s
  | .backupReset t lowNs => Sys2Proof.Machine.execBackupReset t lowNs s
  | .wakeTimer t => Sys2Proof.Machine.execWakeTimer t s
  | .hwRoundSample t => Sys2Proof.Machine.execHwRoundSample t s
  | .hwPowerHeld t => Sys2Proof.Machine.execHwPowerHeld t s
  | .timeShadowFreeze t p a => Sys2Proof.Machine.execTimeShadowFreeze t p a s
  | .timeShadowRelease t p a => Sys2Proof.Machine.execTimeShadowRelease t p a s
  | .readClear t p a => Sys2Proof.Machine.execReadClear t p a s
  | .bootCmdClearRecord t p => Sys2Proof.Machine.execBootCmdClearRecord t p s
  | .bootCmdRestart t p => Sys2Proof.Machine.execBootCmdRestart t p s
  | .bootProgAddrWrite t p v => Sys2Proof.Machine.execBootProgAddrWrite t p v s
  | .bootProgDataWrite t p v => Sys2Proof.Machine.execBootProgDataWrite t p v s
  | .progErase t p => Sys2Proof.Machine.execProgErase t p s
  | .progProgram t p => Sys2Proof.Machine.execProgProgram t p s
  | .progSetPrefer t p arg => Sys2Proof.Machine.execProgSetPrefer t p arg s
  | .progRead t p => Sys2Proof.Machine.execProgRead t p s
  | .progDone t => Sys2Proof.Machine.execProgDone t s
  | .mspiFrame t bits f => Sys2Proof.Machine.execMspiFrame t bits f s
  | .registerWrite t p a v => Sys2Proof.Machine.execRegisterWrite t p a v s
  | .rxError t n k by8 => Sys2Proof.Machine.execRxError t n k by8 s
  | .rtcmFrameError t src badLength => Sys2Proof.Machine.execRtcmFrameError t src badLength s
  | .steppedClear t => Sys2Proof.Machine.execSteppedClear t s
  | .pfailFaultClear t => Sys2Proof.Machine.execPfailFaultClear t s
  | .tckEdge t tms tdi trst => Sys2Proof.Machine.execTckEdge t tms tdi trst s

end Sys2Proof.Machine
end

