-- ==== Sys2Proof/Safety.lean ====
section
/-! DEFINITION. The terms the statements use: what a command gives, and what counts as a safe state. -/

namespace Sys2Proof.Machine

open Sys2Proof

/-- The command is answered by a next state, of which P holds. -/
def Gives (c : Instr) (s : State) (P : State → Prop) : Prop := ∃ s', Sys2Proof.Machine.exec c s = .next s' ∧ P s'

/-- Master m is frozen with a cause, its watchdog is disarmed, and the fault that came with it is present and latched (R612, R613, R624). -/
def State.frozenBy (s : State) (m cause fault : Nat) : Prop :=
  bitAt s.saf.frozen m = true ∧ (nth s.saf.freeze m {}).cause = cause ∧ (nth s.saf.wdg m {}).armed = false
    ∧ bitAt s.saf.present fault = true ∧ bitAt s.saf.latch fault = true

/-- Every gate is closed, the keep-alive stopped, OUT_EN_MON low, and the unit FAILED at level 0 (R611, R622). -/
def State.outputsClosed (s : State) : Prop :=
  s.saf.gate0 = 0 ∧ s.saf.gate1 = 0 ∧ s.saf.keepAlive = false ∧ s.saf.outenDrive = false ∧ s.sys.state = .failed ∧ s.sys.level = 0

/-- The watchdog of master m is armed (R618). -/
def State.watched (s : State) (m : Nat) : Bool := (nth s.saf.wdg m {}).armed

/-- The value the next kick of master m must carry (R617). -/
def State.nextKick (s : State) (m : Nat) : Nat := if (nth s.saf.wdg m {}).second then 0xA55A else 0x5AA5

/-- What a domain is once it has lost its source at an instant: it holds the mean of its correction, the correction saved, or none (R94); slew and pending step are gone (R107). -/
def Dom.sourceLost (m m' : Dom) (up : Nat) : Prop :=
  (domLocked m.state = true → m'.state = .holdover ∧ m'.freq = m.heldMean up ∧ m'.holdFrom = (up : Int))
  ∧ (m.state = .acquiring → m.lockedEver = true → m'.state = .holdover ∧ m'.freq = m.heldMean m.leftLockAt ∧ m'.holdFrom = (m.leftLockAt : Int))
  ∧ (∀ f, m.state = .acquiring → m.lockedEver = false → m.heldAtS9 = some f → m'.state = .holdover ∧ m'.freq = f ∧ m'.holdFrom = m.holdFrom)
  ∧ (m.state = .acquiring → m.lockedEver = false → m.heldAtS9 = none → m'.state = .freerun ∧ m'.freq = 0)
  ∧ m'.slew = none ∧ m'.stepPending = none ∧ m'.med = [] ∧ m'.lockRun = 0 ∧ m'.ctr = m.ctr

/-- The commands that are a frame of a station or node: the instant, the header as it is tested, and the right its TYPE asks for (R519, R523, R525). -/
def stationFrame : Instr → Option (Nat × StnHdr × Nat)
  | .commandMode t h _ _ _ _ _ _ => some (t, h, rightCommand)
  | .commandSetpoint t h _ _ _ => some (t, h, rightCommand)
  | .commandAck t h _ => some (t, h, rightCommand)
  | .commandReference t h _ _ => some (t, h, rightCommand)
  | .commandContext t h _ _ => some (t, h, rightCommand)
  | .commandTrack t h _ => some (t, h, rightCommand)
  | .commandSlot t h _ _ => some (t, h, rightCommand)
  | .commandBusRecover t h _ => some (t, h, rightCommand)
  | .commandHandover t h => some (t, h, rightCommand)
  | .helloOpen t h _ _ _ => some (t, { h with session := 0 }, rightHello)
  | .helloStatus t h _ _ => if h.session = 0 then none else some (t, h, rightHello)
  | .subscribeAdd t h action _ _ => if action = 1 ∨ action = 2 then none else some (t, h, rightView)
  | .subscribeRemove t h _ _ => some (t, h, rightView)
  | .subscribeFull t h _ _ => some (t, h, rightView)
  | .pointUpdateReceived t h _ => some (t, h, rightView)
  | .eventFetch t h _ _ => some (t, h, rightView)
  | .regRead t h _ _ => some (t, h, rightMaint)
  | .regWrite t h _ _ => some (t, h, rightMaint)
  | .ioFrameInputs t h _ _ => some (t, { h with ioPort := true }, rightIo)
  | .ioFrameBytes t h _ _ => some (t, { h with ioPort := true }, rightIo)
  | _ => none

/-- The commands of a station and what they ask (R527). -/
def stationAsk : Instr → Option (Nat × StnHdr × StnCmd)
  | .commandMode t h m slot given track n e => some (t, h, .mode m slot given track n e)
  | .commandSetpoint t h n e hdg => some (t, h, .setpoint n e hdg)
  | .commandAck t h point => some (t, h, .ack point)
  | .commandReference t h action ref => some (t, h, .reference action ref)
  | .commandContext t h action ctx => some (t, h, .context action ctx)
  | .commandTrack t h wps => some (t, h, .track wps)
  | .commandSlot t h slot action => some (t, h, .slot slot action)
  | .commandBusRecover t h n => some (t, h, .busRecover n)
  | .commandHandover t h => some (t, h, .handover)
  | _ => none

/-- The SUBSCRIBE messages: their header, ACTION, FIRST_ROD and COUNT (R525, R543). -/
def stationSub : Instr → Option (Nat × StnHdr × Nat × Nat × Nat)
  | .subscribeAdd t h action first count => if action = 1 ∨ action = 2 then none else some (t, h, action, first, count)
  | .subscribeRemove t h first count => some (t, h, 1, first, count)
  | .subscribeFull t h first count => some (t, h, 2, first, count)
  | _ => none

/-- No SEQ of a session or of the frame is about to reach the limit at which a session closes (R522). -/
def State.calm (s : State) (h : StnHdr) : Prop := h.seq < seqLimit ∧ ∀ x, x ∈ s.net.sessions → x.h < seqLimit ∧ x.txSeq + 1 < seqLimit

/-- The sessions after a frame of one of them has been accepted: the time of its last frame, and its replay window (R520, R522). -/
def State.sessionsAfter (s : State) (h : StnHdr) : List Session :=
  s.net.sessions.map (fun x => if x.number = h.session then { x with lastUp := s.up, h := (takeSeq x.h x.map h.seq).1, map := (takeSeq x.h x.map h.seq).2 } else x)

/-- Priority of a class (R505). -/
def classRank : FrameClass → Nat
  | .ptp => 0
  | .ctrl => 1
  | .bulk => 2

/-- The books balance, the records of a page in flight counted as pending (R654, R655). -/
def Evr.balanced (e : Evr) : Prop := e.written % 2 ^ 32 = (e.stored + e.overwritten + e.dropped + e.pend.length + e.inFlight.length) % 2 ^ 32

/-- A record, seen in the store at a slot (R647). -/
def storedAt (slot : Nat) (r : Rec) : StoreEntry := { slot := slot, severity := r.severity, seq := r.seq.getD 0, record := some r }

/-- A date and time within the calendar's range, with the weekday of its day (R664, R665). -/
def calendarOk (c : Calendar) : Prop :=
  2000 ≤ c.year ∧ c.year ≤ 2399 ∧ 1 ≤ c.month ∧ c.month ≤ 12 ∧ 1 ≤ c.day ∧ c.day ≤ daysInMonth c.year c.month
    ∧ c.hour ≤ 23 ∧ c.min ≤ 59 ∧ c.sec ≤ 59 ∧ c.weekday = weekdayOf (dayOf c)

/-- Midnight of the day after a date, before 2400 (R664, R665). -/
def midnightAfter (c : Calendar) : Calendar :=
  let wd := c.weekday % 7 + 1
  if c.year = 2399 ∧ c.month = 12 ∧ c.day = 31 then { year := 2000, month := 1, day := 1, weekday := 6 }
  else if c.day < daysInMonth c.year c.month then { year := c.year, month := c.month, day := c.day + 1, weekday := wd }
  else if c.month < 12 then { year := c.year, month := c.month + 1, day := 1, weekday := wd }
  else { year := c.year + 1, month := 1, day := 1, weekday := wd }

/-- The fields of the staging registers, each as its decimal digits in BCD (R664, R697). -/
def State.staged (s : State) (h mi sc y mo d : Nat) : Prop :=
  fieldOf s.rtc.stageTime 16 6 = bcd2 h ∧ fieldOf s.rtc.stageTime 8 7 = bcd2 mi ∧ fieldOf s.rtc.stageTime 0 7 = bcd2 sc
    ∧ fieldOf s.rtc.stageDate 16 16 = bcd4 y ∧ fieldOf s.rtc.stageDate 8 5 = bcd2 mo ∧ fieldOf s.rtc.stageDate 0 6 = bcd2 d
    ∧ h < 100 ∧ mi < 100 ∧ sc < 100 ∧ y < 10000 ∧ mo < 100 ∧ d < 100

/-- A sampled point of harbour watch is in alarm: its quality is not GOOD, or its value lies outside its limits (R689). -/
def State.hwInAlarm (s : State) (h : HwPoint) : Bool :=
  let r := s.point h.point
  let type := (s.pointCfg h.point).type
  r.quality != 0 || decide (typedValue type r.value < limitValue type h.low) || decide (limitValue type h.high < typedValue type r.value)

/-- The commands that write one word at an address by an access path: instant, path, address and value (R414, R768). -/
def namedWrite : Instr → Option (Nat × Path × Word × Word)
  | .dfcSyncReset t p v => some (t, p, 0x280010, v)
  | .dfcSwapReq t p v => some (t, p, 0x280014, v)
  | .ctxCmdSetOperator t p c => some (t, p, 0x200040, packWord [(8, 2, 1), (0, 8, c)])
  | .ctxCmdClearOperator t p c => some (t, p, 0x200040, packWord [(8, 2, 2), (0, 8, c)])
  | .refCmdSelect t p r => some (t, p, 0x240010, packWord [(8, 2, 1), (0, 4, r)])
  | .refCmdRedeploy t p r => some (t, p, 0x240010, packWord [(8, 2, 2), (0, 4, r)])
  | .refCmdClearTracks t p r => some (t, p, 0x240010, packWord [(8, 2, 3), (0, 4, r)])
  | .pclGainScaleWrite t p v => some (t, p, 0x300004, v)
  | .caCmdStart t p => some (t, p, 0x34004C, 1)
  | .pimPageWrite t p v => some (t, p, 0x500004, v)
  | .twnCmdHandover t p => some (t, p, 0x600018, 1)
  | .twnCmdHoldReturn t p => some (t, p, 0x600018, 2)
  | .twnCmdReleaseReturn t p => some (t, p, 0x600018, 4)
  | .registerWrite t p a v => some (t, p, a, v)
  | _ => none

/-- The carried tunables, by address (R768, R769). -/
def carriedAt (a : Word) : Option CarriedReg :=
  if a = 0x280010 then some .syncReset
  else if a = 0x280014 then some .swapReq
  else if a = 0x200040 then some .ctxCmd
  else if a = 0x240010 then some .refCmd
  else if a = 0x300004 then some .gainScale
  else if a = 0x34004C then some .caCmd
  else none

/-- The addresses of the run-time tunables (R768). -/
def tunableAt (a : Word) : Bool :=
  [0x280010, 0x280014, 0x200040, 0x240010, 0x300004, 0x34004C, 0x380040, 0x500004, 0x600018, 0x640080,
   0x680000, 0x680010, 0x680014, 0x680018, 0x68001C, 0x6C0080, 0x6C0100, 0x6C0104, 0x6C0108].contains a.toNat
  || (List.range 8).any (fun n => a.toNat == 0x400010 + 0x10000 * n || a.toNat == 0x400014 + 0x10000 * n)

/-- The bits of class RC in the register at an address (R18, R767). -/
def rcBits (a : Nat) : Word :=
  let off := a % 65536
  let blk := a / 65536
  let rep := fun (base stride n : Nat) => (arr base stride n off).isSome
  if a = 0x000010 ∨ a = 0x040008 then 0xFFFFFFFF
  else if blk = 0x04 ∧ rep 0x20 4 8 then 0x0000FFFF
  else if blk = 0x10 ∧ rep 0x100 4 64 then 0x000000FF
  else if a = 0x100210 then 0x00000FF0
  else if blk = 0x20 ∧ (rep 0x200 4 12 ∨ rep 0x100C 0x10 256) then 0xFFFFFFFF
  else if a = 0x240004 then 0xFFFFFFFF
  else if a = 0x240008 then 0x07FFFFFF
  else if blk = 0x28 ∧ rep 0x100 4 32 then 0x000000FF
  else if a = 0x34000C then 0x0000FFFF
  else if a = 0x340010 ∨ a = 0x340014 then 0xFFFFFFFF
  else if blk = 0x38 ∧ rep 0x114 0x20 16 then 0xFFFFFF00
  else if 0x40 ≤ blk ∧ blk < 0x48 ∧ (off = 0x0C ∨ off = 0x48) then 0xFFFFFFFF
  else if blk = 0x48 ∧ (rep 0x10 4 5 ∨ rep 0x40 4 4 ∨ off = 0x80) then 0xFFFFFFFF
  else if a = 0x500008 ∨ a = 0x50000C then 0xFFFFFFFF
  else if a = 0x600010 ∨ a = 0x600014 then 0xFFFFFFFF
  else if blk = 0x60 ∧ rep 0x40 4 2 then 0x0000FFFF
  else if a = 0x640040 then 0x0000FFFF
  else if a = 0x680024 then 0xFF000000
  else 0

/-- The commands whose work belongs to the computation of a tick, which a standby runs as a shadow (R583). -/
def shadowRun : Instr → Bool
  | .outerLoop _ | .solveOutcome _ | .solveDeadline _ | .fallbackOn _ | .fallbackOff _ | .windFadeEnd _ | .waypointReached _ | .joystickInvalid _ | .drLimitExpiry _ _ | .blendEnd _
  | .scanClose _ _ | .replaySnapshot _ | .fusStreamLate _ _ | .flatContradiction _ _ | .outlierMask _ _ | .disputeEnd _ _ | .groupReleaseTimeout _ _ => true
  | _ => false

/-- Registers of the register index with the values they take at reset: address, stride, number and value (R767). -/
def resetWords : List (Nat × Nat × Nat × Word) :=
  [(0x000000, 4, 1, 0), (0x000010, 4, 2, 0), (0x020000, 4, 1, 4), (0x040000, 4, 4, 0), (0x040020, 4, 8, 0)]
  ++ [(0x010000, 4, 10, 0), (0x010080, 4, 1, 0), (0x010100, 4, 6, 0), (0x01011C, 4, 10, 0), (0x010200, 4, 17, 0), (0x010280, 4, 17, 0)]
  ++ [(0x030000, 4, 1, 0x000C0000), (0x030004, 4, 1, 0xFFFE0000), (0x030008, 4, 6, 0), (0x030040, 0x10, 2, 0), (0x030044, 0x10, 2, 0), (0x030048, 0x10, 2, 0), (0x030080, 4, 1, 0), (0x0300C0, 0x10, 8, 0), (0x0300C4, 0x10, 8, 0), (0x0300C8, 0x10, 8, 0)]
  ++ [(0x100000, 4, 1, 0), (0x100010, 4, 4, 0), (0x100100, 4, 64, 0), (0x100200, 4, 1, 0), (0x100210, 4, 1, 0x000FF000)]
  ++ [(0x200000, 4, 1, 0), (0x200010, 4, 8, 0), (0x200040, 4, 1, 0), (0x200100, 4, 8, 0), (0x200200, 4, 12, 0), (0x201000, 4, 1024, 0)]
  ++ [(0x240000, 4, 3, 0), (0x240010, 4, 1, 0), (0x240100, 4, 16, 0), (0x240200, 4, 64, 0)]
  ++ [(0x280000, 4, 6, 0), (0x280080, 4, 8, 0), (0x280100, 4, 32, 0), (0x300000, 4, 1, 0), (0x300004, 4, 1, 0x00404040), (0x300010, 4, 12, 0), (0x300040, 4, 1, 0)]
  ++ [(0x340000, 4, 1, 0xE0000000), (0x340004, 4, 1, 8), (0x340008, 4, 5, 0), (0x340020, 4, 3, 0), (0x340040, 4, 4, 0), (0x340080, 4, 8, 0), (0x340100, 8, 8, 0), (0x340104, 8, 8, 0x00060000)]
  ++ [(0x380000, 4, 1, 0), (0x380040, 4, 1, 0), (0x380100, 0x20, 16, 0), (0x380104, 0x20, 16, 0), (0x380108, 0x20, 16, 0), (0x38010C, 0x20, 16, 0), (0x380110, 0x20, 16, 0), (0x380114, 0x20, 16, 0), (0x380400, 4, 4, 0), (0x380800, 4, 128, 0)]
  ++ [(0x400000, 0x10000, 8, 0), (0x400004, 0x10000, 8, 0), (0x400008, 0x10000, 8, 0), (0x40000C, 0x10000, 8, 0), (0x400010, 0x10000, 8, 0), (0x400014, 0x10000, 8, 0), (0x400020, 4, 4, 0), (0x400030, 4, 3, 0), (0x400040, 4, 5, 0), (0x400200, 4, 64, 0)]
  ++ [(0x480000, 4, 1, 0), (0x480004, 4, 1, 0x10000000), (0x480010, 4, 5, 0), (0x480040, 4, 4, 0), (0x480080, 4, 1, 0), (0x500000, 4, 4, 0)]
  ++ [(0x600000, 4, 1, 0x000C0000), (0x600004, 4, 6, 0), (0x60001C, 4, 1, 0x0000FFFF), (0x600020, 4, 1, 0), (0x600040, 4, 2, 0), (0x600080, 0x10, 3, 0), (0x600084, 0x10, 3, 0)]
  ++ [(0x640000, 4, 7, 0), (0x640020, 4, 8, 0), (0x640040, 4, 2, 0), (0x640080, 4, 1, 0), (0x640100, 4, 64, 0)]
  ++ [(0x680000, 4, 1, 0x00000C40), (0x680004, 4, 1, 0), (0x680008, 4, 1, 0x2000C101), (0x68000C, 4, 2, 0), (0x680014, 4, 1, 0x20000101), (0x680018, 4, 5, 0)]
  ++ [(0x6C0000, 4, 4, 0), (0x6C0040, 4, 8, 0), (0x6C0060, 4, 8, 0), (0x6C0080, 4, 1, 0), (0x6C0100, 4, 4, 0), (0x700000, 4, 3, 0), (0x700010, 4, 8, 0)]

end Sys2Proof.Machine
end

