-- ==== Sys2Proof/WellFormed.lean ====
section
/-! DEFINITION. Well-formed commands: every number of a channel, an input, a port, a field and the like lies in the range the spec gives it. A command that is not well-formed still has a meaning, by the rules; the check says what the spec's own frames, registers and inputs can name. -/

namespace Sys2Proof

/-- The numbers of a command with the bound each must stay below: masters, phases and domains (R36, R608, clock domain table), antennas, channels and satellites (R124, R125), contexts, groups and templates (R200, R219), references (R263), axes, encoders and pairs (R407, R429, R433), controllers and buffers (R452, R481), ports and links (R502, R554), rods and points (R534), and the fields of frames (R527). -/
def Instr.bounds : Instr → List (Nat × Nat)
  | .resetRelease _ _ => []
  | .rstNPulse _ _ => []
  | .lossOfPower _ _ => []
  | .discoveryEnd _ _ => []
  | .masterWaitExpiry _ _ => []
  | .startWatchdogExpiry _ => []
  | .directoryRewrite _ => []
  | .tickEdge _ _ => []
  | .phaseOpen _ p _ _ => [(p, 8)]
  | .phaseClose _ p => [(p, 8)]
  | .deadlineMiss _ p => [(p, 8)]
  | .tksFailed _ => []
  | .levelEvaluation _ => []
  | .reckonerRequest _ => []
  | .scrubRead _ _ => []
  | .lockstepDisagreement _ pair _ => [(pair, 7)]
  | .clkMonitorGate _ d _ => [(d, 14)]
  | .clkPllUnlock _ d => [(d, 14)]
  | .ptpSyncReceived _ _ port _ seq _ _ _ => [(port, 4), (seq, 65536)]
  | .ptpFollowUpReceived _ _ port _ seq _ _ => [(port, 4), (seq, 65536)]
  | .ptpDelayReqReceived _ _ port seq _ => [(port, 4), (seq, 65536)]
  | .ptpDelayRespReceived _ _ port _ seq _ _ => [(port, 4), (seq, 65536)]
  | .ptpPdelayReqReceived _ _ port seq _ _ => [(port, 4), (seq, 65536)]
  | .ptpPdelayRespReceived _ _ port _ seq _ _ _ => [(port, 4), (seq, 65536)]
  | .ptpPdelayRespFollowUpReceived _ port _ seq _ _ => [(port, 4), (seq, 65536)]
  | .ptpAnnounceReceived _ _ port _ => [(port, 4)]
  | .ptpOtherMessage _ => []
  | .ptpSyncSend _ d => [(d, 2)]
  | .ptpAnnounceSend _ d => [(d, 2)]
  | .ptpDelayReqSend _ d port => [(d, 2), (port, 4)]
  | .announceTimeout _ d => [(d, 2)]
  | .syncTimeout _ d => [(d, 2)]
  | .sourceReturn _ d => [(d, 2)]
  | .domainLock _ d => [(d, 2)]
  | .timeStep _ which => [(which, 3)]
  | .slewDone _ which => [(which, 3)]
  | .holdoverLimit _ d => [(d, 2)]
  | .tickSourceChange _ => []
  | .timeSave _ => []
  | .timePulse _ => []
  | .tp1Pulse _ => []
  | .utcLeapInstant _ => []
  | .evtInCapture _ n _ => [(n, 8)]
  | .antennaDutyPeriod _ a _ _ _ _ _ => [(a, 4)]
  | .acqSearchDone _ _ _ => []
  | .acqAidedRequest _ a prn => [(a, 4), (prn, 33)]
  | .pullInTimeout _ c => [(c, 64)]
  | .channelTrack1ms _ c => [(c, 64)]
  | .bitSync _ c => [(c, 64)]
  | .gnssLoopPass _ _ => []
  | .channelLossOfLock _ c => [(c, 64)]
  | .measurementEpoch _ _ _ => []
  | .lnavSubframe _ c _ _ _ => [(c, 64)]
  | .ephemerisExpiry _ prn => [(prn, 33)]
  | .rtcm1004 _ _ _ => []
  | .rtcm1005 _ _ _ _ _ _ => []
  | .rtcm1006 _ _ _ _ _ _ _ => []
  | .rtcm1019 _ _ _ => []
  | .rtcmOtherType _ _ => []
  | .rtcmHoldExpiry _ => []
  | .navSolutionDelivery _ _ => []
  | .gnssTimeLost _ => []
  | .antennaLost _ a => [(a, 4)]
  | .dfcChannelStuck _ _ => []
  | .dfcChannelRecover _ k => [(k, 32)]
  | .sincStep _ _ => []
  | .firRound _ _ => []
  | .firRoundEnd _ => []
  | .dfcSyncReset _ _ _ => []
  | .dfcSwapReq _ _ _ => []
  | .sentenceHdt _ _ => []
  | .sentenceThs _ _ => []
  | .sentenceRot _ _ => []
  | .sentenceHrm _ _ => []
  | .sentenceMwv _ _ => []
  | .sentenceGga _ _ => []
  | .sentenceGns _ _ => []
  | .sentenceVtg _ _ => []
  | .sentenceTtm _ _ => []
  | .sentenceOther _ _ => []
  | .templateTelegram _ tm _ => [(tm, 16)]
  | .contextStale _ c => [(c, 256)]
  | .contextUnmask _ c => [(c, 256)]
  | .groupInstant _ g => [(g, 32)]
  | .groupReleaseTimeout _ g => [(g, 32)]
  | .groupToTriggered _ g => [(g, 32)]
  | .groupToMain _ g => [(g, 32)]
  | .syncOutPulse _ g => [(g, 32)]
  | .ctxCmdSetOperator _ _ c => [(c, 256)]
  | .ctxCmdClearOperator _ _ c => [(c, 256)]
  | .replaySnapshot _ => []
  | .fusStreamLate _ c => [(c, 256)]
  | .flatContradiction _ q => [(q, 2)]
  | .outlierMask _ q => [(q, 2)]
  | .disputeEnd _ q => [(q, 2)]
  | .drLimitExpiry _ q => [(q, 2)]
  | .refCmdSelect _ _ r => [(r, 16)]
  | .refCmdRedeploy _ _ r => [(r, 16)]
  | .refCmdClearTracks _ _ r => [(r, 16)]
  | .scanClose _ r => [(r, 16)]
  | .outerLoop _ => []
  | .joystickInvalid _ => []
  | .waypointReached _ => []
  | .blendEnd _ => []
  | .windFadeEnd _ => []
  | .pclGainScaleWrite _ _ _ => []
  | .commandMode _ _ m slot _ track _ _ => [(m, 256), (slot, 256), (track, 256)]
  | .commandSetpoint _ _ _ _ _ => []
  | .commandAck _ _ point => [(point, 4294967296)]
  | .commandReference _ _ action ref => [(action, 256), (ref, 256)]
  | .commandContext _ _ action ctx => [(action, 256), (ctx, 256)]
  | .commandTrack _ _ _ => []
  | .commandSlot _ _ slot action => [(slot, 256), (action, 256)]
  | .commandBusRecover _ _ n => [(n, 256)]
  | .commandHandover _ _ => []
  | .solveOutcome _ => []
  | .solveDeadline _ => []
  | .fallbackOn _ => []
  | .fallbackOff _ => []
  | .structureLoaded _ => []
  | .pwrHoldExpiry _ b => [(b, 8)]
  | .caRoundStart _ => []
  | .caCaseDone _ => []
  | .caRoundLate _ => []
  | .caCmdStart _ _ => []
  | .encoderEdge _ n _ _ => [(n, 16)]
  | .encoderIndex _ n => [(n, 16)]
  | .standstill _ n => [(n, 16)]
  | .ssiFrameStart _ n => [(n, 16)]
  | .ssiFrameDone _ n _ _ _ => [(n, 16)]
  | .encPresetValue _ _ _ => []
  | .encPresetChannel _ _ n => [(n, 16)]
  | .pdivStep _ p => [(p, 4)]
  | .feedbackLost _ x => [(x, 32)]
  | .azFollow _ x => [(x, 32)]
  | .pwmPeriodStart _ k => [(k, 16)]
  | .txDone _ n => [(n, 8)]
  | .arbitrationLost _ n => [(n, 8)]
  | .txError _ n _ _ => [(n, 8)]
  | .mbcTxCancel _ n _ _ => [(n, 8)]
  | .txExpired _ n => [(n, 8)]
  | .busRecovered _ n => [(n, 8)]
  | .mbcRecover _ n _ => [(n, 8)]
  | .failback _ n => [(n, 8)]
  | .integrationDone _ n => [(n, 8)]
  | .rxFrame _ n _ _ => [(n, 8)]
  | .rxBufferLock _ _ n b => [(n, 8), (b, 65)]
  | .rxBufferRelease _ _ n b => [(n, 8), (b, 65)]
  | .rxLockTimeout _ n b => [(n, 8), (b, 65)]
  | .wakeEdge _ n _ => [(n, 8)]
  | .wakeFrame _ n _ => [(n, 8)]
  | .phyLinkChange _ p _ _ => [(p, 4)]
  | .portFrameReceived _ p _ => [(p, 4)]
  | .frameAdmission _ => []
  | .frameTransmitted _ p => [(p, 4)]
  | .addressAgeing _ => []
  | .prpSupervisionSend _ => []
  | .prpLanLost _ l => [(l, 4)]
  | .arpRequest _ p _ => [(p, 4)]
  | .icmpEcho _ _ _ _ => []
  | .helloOpen _ _ _ _ _ => []
  | .helloStatus _ _ _ _ => []
  | .subscribeAdd _ _ _ first count => [(first, 2048), (count, 2049)]
  | .subscribeRemove _ _ first count => [(first, 2048), (count, 2049)]
  | .subscribeFull _ _ first count => [(first, 2048), (count, 2049)]
  | .pointUpdateReceived _ _ _ => []
  | .ioFrameInputs _ _ _ _ => []
  | .ioFrameBytes _ _ channel _ => [(channel, 16)]
  | .ioOutputsSend _ k => [(k, 64)]
  | .ioNodeLost _ k => [(k, 64)]
  | .regRead _ _ _ count => [(count, 65536)]
  | .regWrite _ _ _ _ => []
  | .eventFetch _ _ from_ count => [(from_, 4294967296), (count, 65536)]
  | .stationFrameDiscard _ _ need => [(need, 4)]
  | .sessionTimeout _ n => [(n, 65536)]
  | .pointStale _ p => [(p, 131072)]
  | .pointWindowFreeze _ _ k => [(k, 4096)]
  | .pointWindowRelease _ _ k => [(k, 4096)]
  | .pointFreezeTimeout _ _ pt => [(pt, 131072)]
  | .pimPageWrite _ _ _ => []
  | .carryFrameReceived _ link _ _ _ => [(link, 2)]
  | .carryDue _ => []
  | .carryLinkDown _ l => [(l, 2)]
  | .carryLinkUp _ l => [(l, 2)]
  | .heartbeatSend _ => []
  | .heartbeatReceived _ path _ _ _ => [(path, 3)]
  | .heartbeatWindowEnd _ => []
  | .duplicateClear _ => []
  | .activeEntry _ => []
  | .yield _ => []
  | .probationEnd _ => []
  | .joinSynced _ => []
  | .roleExchangeDue _ => []
  | .returnDue _ => []
  | .handoverAccept _ => []
  | .handoverEdge _ => []
  | .handoverAbort _ => []
  | .twnCmdHandover _ _ => []
  | .twnCmdHoldReturn _ _ => []
  | .twnCmdReleaseReturn _ _ => []
  | .layupFollow _ => []
  | .watchdogKick _ writer m _ => [(writer, 17), (m, 17)]
  | .watchdogExpiry _ m => [(m, 17)]
  | .firewallViolation _ m _ _ => [(m, 17)]
  | .safReqAck _ writer _ => [(writer, 17)]
  | .safReqSwFault _ writer code => [(writer, 17), (code, 65536)]
  | .safeLost _ _ => []
  | .supplyBandChange _ rail band _ => [(rail, 5), (band, 3)]
  | .tempBandChange _ band _ => [(band, 3)]
  | .outenMismatch _ _ => []
  | .pfailFall _ _ => []
  | .pfailRise _ => []
  | .flushPageStart _ => []
  | .pageCommit _ _ => []
  | .urgentFlushDone _ => []
  | .evrReadSeqWrite _ _ _ => []
  | .evrBooksFreeze _ _ => []
  | .evrBooksRelease _ _ => []
  | .calendarSecond _ => []
  | .trimAdjust _ => []
  | .calendarSync _ => []
  | .rtcCommit _ source _ => [(source, 2)]
  | .rtcCommitCheck _ => []
  | .rtcLocalOfsWrite _ _ => []
  | .dateErrClear _ _ => []
  | .calendarShadowFreeze _ _ reg => [(reg, 2)]
  | .calendarShadowRelease _ _ => []
  | .calendarShadowTimeout _ _ => []
  | .supplySwitchToVbu _ _ _ => []
  | .supplySwitchToMain _ _ _ => []
  | .backupReset _ _ => []
  | .wakeTimer _ => []
  | .hwRoundSample _ => []
  | .hwPowerHeld _ => []
  | .timeShadowFreeze _ _ a => [(a, 8388608)]
  | .timeShadowRelease _ _ a => [(a, 8388608)]
  | .readClear _ _ a => [(a, 8388608)]
  | .bootCmdClearRecord _ _ => []
  | .bootCmdRestart _ _ => []
  | .bootProgAddrWrite _ _ _ => []
  | .bootProgDataWrite _ _ _ => []
  | .progErase _ _ => []
  | .progProgram _ _ => []
  | .progSetPrefer _ _ arg => [(arg, 65536)]
  | .progRead _ _ => []
  | .progDone _ => []
  | .mspiFrame _ _ _ => []
  | .registerWrite _ _ _ _ => []
  | .rxError _ n _ _ => [(n, 8)]
  | .rtcmFrameError _ _ _ => []
  | .steppedClear _ => []
  | .pfailFaultClear _ => []
  | .tckEdge _ _ _ _ => []

/-- Every number lies below its bound. -/
def Instr.wellFormed (c : Instr) : Bool := c.bounds.all (fun b => decide (b.1 < b.2))

end Sys2Proof
end

