-- ==== Sys2Proof/Certificates/Slice0/Obligations.lean ====
section
/-! DEFINITION. The statements for the provers: what each command does, what it leaves unchanged, and what every step keeps. -/

open Sys2Proof Sys2Proof.Machine

/-- A step takes the command at the front of the queue and runs it on the state with the queue's rest; on an empty queue the block idles. First in, first out. -/
def Obligations.StepRunsFront : Prop :=
  ∀ (c : Instr) (s : State), Sys2Proof.Machine.step { s with pending := c :: s.pending } = Sys2Proof.Machine.exec c s ∧ (s.pending = [] → Sys2Proof.Machine.step s = .next s)

/-- The queue only ever loses its front: a step leaves it shorter by the command it took, whatever that command does, a reset of the device among them. -/
def Obligations.QueueLosesItsFront : Prop :=
  ∀ (s s' : State), Sys2Proof.Machine.step s = .next s' → s'.pending = s.pending.tail

/-- R583: while the computation of a tick runs as a shadow, the commands of fusion, control and allocation record nothing, send nothing and change no output of the service level. -/
def Obligations.ShadowIsSilent : Prop :=
  ∀ (c : Instr) (s : State), s.twn.shadow ≠ none → shadowRun c = true →
    Gives c s fun s' => s'.evr = s.evr ∧ s'.out = [] ∧ s'.sys.level = s.sys.level

/-- The state after reset: the values the register index gives, the configuration memory erased where nothing was placed, every gate closed, no command waiting. Values for which the spec gives no reset value are the model's choice (log entry of the reset values). -/
def Obligations.ResetHolds : Prop :=
  let s := State.reset
  s.pending = [] ∧ s.out = [] ∧ s.flash = [] ∧ flashWf s.flash = true ∧ s.sys.state = .off ∧ s.sys.level = 0
    ∧ s.saf.gate0 = 0 ∧ s.saf.gate1 = 0 ∧ s.saf.outenDrive = false ∧ s.mspi.result = 0xFF
    ∧ s.rtc.status = 0x00000C40 ∧ calTime s.rtc.cal = 0 ∧ calDate s.rtc.cal = 0x2000C101 ∧ s.rtc.stageTime = 0 ∧ s.rtc.stageDate = 0x20000101
    ∧ (∀ p x k, x ∈ resetWords → k < x.2.2.1 → s.readWord p (x.1 + x.2.1 * k) = some x.2.2.2)

/-- R33, R34, R40, R41, R47, R48, R56: an edge counts the tick, settles the books of the tick that ends and lets the level evaluated take effect; the first edge falls on a whole millisecond of system time. TICK_EDGE, but for the edge at which a joining unit takes the group's count. -/
def Obligations.TickEdgeAdvances : Prop :=
  ∀ (t : Nat) (drift : Int) (s : State), s.tickComes = true → s.twn.join ≠ .tick →
    (s.tks.running = true → Gives (.tickEdge t drift) s fun s' =>
        let missed := s.tks.tickMissed || (s.tks.phaseOpen && s.misses)
        s'.tks.tickExt = (s.tks.tickExt + 1) % 2 ^ 48 ∧ s'.sys.healthSeq = (s.sys.healthSeq + 1) % 256 ∧ s'.tks.missLast = missed ∧ s'.tks.tickMissed = false
          ∧ s'.tks.missRun = (if s.tks.tickMissed then s.tks.missRun else if missed then min 3 (s.tks.missRun + 1) else 0)
          ∧ s'.tks.sinceEdge = 0 ∧ s'.sys.level = s.sys.levelNext.getD s.sys.level ∧ s'.flash = s.flash)
    ∧ (s.tks.running = false → s.tks.phaseOpen = false → Gives (.tickEdge t drift) s fun s' =>
        s'.tks.running = true ∧ s'.tks.tickExt = s.tks.tickExt ∧ s'.tim.latSys % 1000000 = 0 ∧ s.tim.latSys + t ≤ s'.tim.latSys ∧ s'.tim.latSys < s.tim.latSys + t + 1000000)

/-- R36 to R39, R42, R47: a phase opens in its window; it closes when its participants have posted; it misses when its window ends without that, and the later phases of its row are abandoned. PHASE_OPEN, PHASE_CLOSE and DEADLINE_MISS. -/
def Obligations.PhasesRun : Prop :=
  ∀ (t p : Nat) (s : State),
    (∀ stalled onWire, s.tks.running = true → p = (s.tks.phase + 1) % 8 → phaseStart p ≤ t → (t < phaseEnd p ∨ p = 7) → s.tks.phaseOpen = false →
        (p = 6 → s.sys.state ≠ .harbourWatch) →
        Gives (.phaseOpen t p stalled onWire) s fun s' => s'.tks.phase = p ∧ s'.tks.opened = (s.tks.opened + 1) % 2 ^ 32 ∧ s'.tks.phaseOpen = !s.abandons p
          ∧ s'.tks.abandoned = (if s.abandons p then (s.tks.abandoned + 1) % 2 ^ 32 else s.tks.abandoned) ∧ s'.tks.tickExt = s.tks.tickExt ∧ s'.flash = s.flash)
    ∧ (s.tks.phase = p → s.tks.phaseOpen = true → s.misses = false → s.workAwaited = false → (t ≤ phaseEnd p ∨ p = 7) →
        Gives (.phaseClose t p) s fun s' => s'.tks.phaseOpen = false ∧ s'.tks.closed = (s.tks.closed + 1) % 2 ^ 32 ∧ s'.tks.missed = s.tks.missed
          ∧ s'.tks.opened = s.tks.opened ∧ s'.tks.phaseMax = upd s.tks.phaseMax p (fun v => max v (min 0xFFFE (t / 100))) ∧ s'.flash = s.flash)
    ∧ (s.tks.phase = p → s.tks.phaseOpen = true → s.misses = true → phaseEnd p ≤ t →
        Gives (.deadlineMiss t p) s fun s' => s'.tks.phaseOpen = false ∧ s'.tks.missed = (s.tks.missed + 1) % 2 ^ 32 ∧ s'.tks.tickMissed = true ∧ s'.tks.lastMiss = p
          ∧ s'.tks.missRun = (if s.tks.tickMissed then s.tks.missRun else min 3 (s.tks.missRun + 1))
          ∧ s'.tks.missCnt = upd s.tks.missCnt p (fun n => min (n + 1) 15) ∧ s'.tks.abandon = s.tks.abandon ||| missChain p ∧ s'.tks.closed = s.tks.closed)

/-- R47, R54, R56, R624: at the third consecutive tick with a miss the unit fails; the level is evaluated in the last cycle of P7 and stands by for the edge. TKS_FAILED and LEVEL_EVALUATION. -/
def Obligations.MissesAndLevel : Prop :=
  ∀ (t : Nat) (s : State),
    (s.tks.tickMissed = true → 3 ≤ s.tks.missRun → s.sys.state ≠ .failed → s.sys.state ≠ .off →
        Gives (.tksFailed t) s fun s' => s'.outputsClosed ∧ bitAt s'.saf.present 4 = true ∧ bitAt s'.saf.latch 4 = true)
    ∧ (s.tks.running = true → phaseStart 7 ≤ t → s.sys.state = .standby ∨ s.sys.state = .active ∨ s.sys.state = .harbourWatch →
        Gives (.levelEvaluation t) s fun s' => s'.sys.levelNext = (if s.levelNow = s.sys.level then none else some s.levelNow)
          ∧ s'.sys.level = s.sys.level ∧ s'.saf = s.saf ∧ s'.tks = { s.tks with sinceEdge := t } ∧ s'.flash = s.flash)

/-- R32, R620, R624: two gates in a row outside ±5 % lose a domain or reference input, ten within restore it; a PLL unlock raises fault 20. CLK_MONITOR_GATE and CLK_PLL_UNLOCK. -/
def Obligations.ClockMonitors : Prop :=
  ∀ (t d hz : Nat) (s : State), d < 14 → s.clkWatched d = true → s.clk.gateBad.length = 14 → s.clk.gateGood.length = 14 →
    (100 * hz < 95 * nominalHz d ∨ 105 * nominalHz d < 100 * hz →
        (nth s.clk.gateBad d 0 = 0 → Gives (.clkMonitorGate t d hz) s fun s' => s'.clk.lost = s.clk.lost ∧ s'.clk.running = s.clk.running ∧ nth s'.clk.gateBad d 0 = 1 ∧ s'.saf = s.saf)
        ∧ (nth s.clk.gateBad d 0 = 1 → s.domOk d = true → Gives (.clkMonitorGate t d hz) s fun s' => s'.clkLost d = true ∧ s'.domOk d = false
              ∧ bitAt s'.saf.latch (if [0, 1, 3, 9, 10, 12, 13].contains d then 18 else 19) = true))
    ∧ (95 * nominalHz d ≤ 100 * hz → 100 * hz ≤ 105 * nominalHz d → 9 ≤ nth s.clk.gateGood d 0 → s.domOk d = false →
        Gives (.clkMonitorGate t d hz) s fun s' => s'.clkLost d = false ∧ s'.domOk d = true ∧ s'.saf = s.saf)
    ∧ ([0, 1, 3, 8, 9, 10].contains d = true → s.domOk d = true →
        Gives (.clkPllUnlock t d) s fun s' => bitAt s'.saf.present 20 = true ∧ bitAt s'.saf.latch 20 = true ∧ s'.clk = s.clk)

/-- R83, R87, R94, R107: a domain that loses its source holds the mean of its correction in HOLDOVER, or is FREERUN with a correction of 0 when it has none to hold; a slew stops and a pending step is cancelled. ANNOUNCE_TIMEOUT, SYNC_TIMEOUT and GNSS_TIME_LOST. -/
def Obligations.SourcesLost : Prop :=
  ∀ (t d : Nat) (s : State), d < 2 →
    let up := s.tks.upEdge + t
    (∀ u, (s.dom d).gm = false → (s.dom d).state = .ptpLocked ∨ (s.dom d).state = .acquiring → (s.dom d).lastSyncUp = some u →
        u + 3 * logNs s.image.time.logSync ≤ s.tks.upEdge + t →
        Gives (.syncTimeout t d) s fun s' => (s.dom d).sourceLost (s'.dom d) up ∧ (s'.dom d).syncLost = true ∧ s'.dom (1 - d) = s.dom (1 - d) ∧ s'.tim.sel = s.tim.sel ∧ s'.tim.latSys = s.tim.latSys
          ∧ s' = { start t s with tim := s'.tim, evr := s'.evr })
    ∧ ((s.dom d).foreign ≠ [] → (start t s).liveMasters d = [] → (s.dom d).masterSrc.isSome = true → (s.dom d).gm = false → s.tim.gnssValid = false →
        (s.dom d).state = .ptpLocked ∨ (s.dom d).state = .acquiring →
        Gives (.announceTimeout t d) s fun s' => (s.dom d).sourceLost (s'.dom d) up ∧ (s'.dom d).foreign = [] ∧ (s'.dom d).masterSrc = none ∧ (s'.dom d).gm = (s.imgDom d).gmCand
          ∧ s'.dom (1 - d) = s.dom (1 - d) ∧ s'.tim.sel = s.tim.sel ∧ s' = { start t s with tim := s'.tim, evr := s'.evr })
    ∧ (s.tim.gnssValid = true → s.image.time.gnssLossEpochs ≤ s.tim.gnssMiss →
        Gives (.gnssTimeLost t) s fun s' => s'.tim.gnssValid = false
          ∧ (∀ k, k < 2 → if (s.dom k).gm = true ∧ (domLocked (s.dom k).state = true ∨ (s.dom k).state = .acquiring) then (s.dom k).sourceLost (s'.dom k) up else s'.dom k = s.dom k)
          ∧ s'.tim.sel = s.tim.sel ∧ s' = { start t s with tim := s'.tim, evr := s'.evr })

/-- R82, R93, R100 to R102, R104, R107: a source that returns puts its domain in ACQUIRING with its correction kept; 16 small offsets lock it; a pending step is applied at a whole second of the domain's counter, and system time steps with the tick source only; a slew ends when its offset is small. SOURCE_RETURN, DOMAIN_LOCK, TIME_STEP and SLEW_DONE. -/
def Obligations.SourcesReturn : Prop :=
  ∀ (t d : Nat) (s : State), d < 2 →
    ((s.dom d).state = .holdover ∨ (s.dom d).state = .freerun → (s.dom d).stepPending = none →
        (if (s.dom d).gm then s.tim.gnssValid = true else (s.dom d).masterSrc.isSome = true ∧ (s.dom d).syncLost = false) →
        Gives (.sourceReturn t d) s fun s' => (s'.dom d).state = .acquiring ∧ (s'.dom d).freq = (s.dom d).freq ∧ (s'.dom d).heldFreq = (s.dom d).freq ∧ (s'.dom d).med = []
          ∧ (s'.dom d).lockRun = 0 ∧ (s'.dom d).ctr = (s.dom d).ctr ∧ s'.dom (1 - d) = s.dom (1 - d) ∧ s'.tim.sel = s.tim.sel ∧ s' = { start t s with tim := s'.tim })
    ∧ ((s.dom d).state = .acquiring → 16 ≤ (s.dom d).lockRun →
        Gives (.domainLock t d) s fun s' => (s'.dom d).state = (if (s.dom d).gm then .gnssLocked else .ptpLocked) ∧ (s'.dom d).lockedEver = true ∧ (s'.dom d).lockedAt = s.tks.upEdge + t
          ∧ (s'.dom d).ctr = (s.dom d).ctr ∧ (s'.dom d).freq = (s.dom d).freq ∧ s'.dom (1 - d) = s.dom (1 - d) ∧ s'.tim.sel = s.tim.sel
          ∧ s' = { start t s with tim := s'.tim, evr := s'.evr })
    ∧ (∀ off, (s.dom d).stepPending = some off → ((s.dom d).ctr + t) % 1000000000 = 0 → (s.dom d).secondWaits = false →
        Gives (.timeStep t d) s fun s' => s'.dom d = { s.dom d with ctr := shift (s.dom d).ctr off, stepPending := none, lockRun := 0, steppedAt := some (s.tks.upEdge + t) }
          ∧ s'.dom (1 - d) = s.dom (1 - d) ∧ s'.tim.sel = s.tim.sel ∧ s'.tks.tickExt = s.tks.tickExt
          ∧ (s.tim.sel = d → s'.tim.latSys = shift s.tim.latSys (off - s.tim.residual) ∧ s'.tim.residual = 0 ∧ s'.tim.steppedAt = some (s.tks.upEdge + t)
              ∧ s'.tks.phaseErr = phaseOf s'.tim.latSys)
          ∧ (s.tim.sel ≠ d → s'.tim.latSys = s.tim.latSys ∧ s'.tim.residual = s.tim.residual ∧ s'.tim.steppedAt = s.tim.steppedAt ∧ s'.tks.phaseErr = s.tks.phaseErr)
          ∧ s' = { start t s with tim := s'.tim, tks := s'.tks, evr := s'.evr })
    ∧ (s.tim.residStep = true → (s.tim.latSys + t) % 1000000000 = 0 →
        Gives (.timeStep t 2) s fun s' => s'.tim = { s.tim with latSys := shift s.tim.latSys (-s.tim.residual), residual := 0, residSlew := none, residStep := false, steppedAt := some (s.tks.upEdge + t) }
          ∧ s'.tks = { s.tks with sinceEdge := t, phaseErr := phaseOf s'.tim.latSys } ∧ s' = { start t s with tim := s'.tim, tks := s'.tks, evr := s'.evr })
    ∧ (∀ r, (s.dom d).slew = some r → (s.dom d).offset.natAbs < s.image.time.lockThreshNs →
        Gives (.slewDone t d) s fun s' => s'.dom d = { s.dom d with slew := none } ∧ s'.dom (1 - d) = s.dom (1 - d) ∧ s'.tim.residual = s.tim.residual
          ∧ s' = { start t s with tim := s'.tim, evr := s'.evr })
    ∧ (∀ r, s.tim.residSlew = some r → s.tim.residual = 0 →
        Gives (.slewDone t 2) s fun s' => s'.tim = { s.tim with residSlew := none } ∧ s' = { start t s with tim := s'.tim, evr := s'.evr })

/-- R91, R92, R95, R98: HOLDOVER ends in FREERUN at HOLD_LIMIT; the tick source changes to the better domain after SEL_HOLD, or at once when it has fallen, and system time stays continuous; a locked domain's correction is saved every 60 s. HOLDOVER_LIMIT, TICK_SOURCE_CHANGE and TIME_SAVE. -/
def Obligations.HoldoverAndSelection : Prop :=
  ∀ (t d : Nat) (s : State), d < 2 →
    ((s.dom d).state = .holdover → s.image.time.holdLimitS * 1000000000 ≤ (s.dom d).holdNs (s.tks.upEdge + t) →
        Gives (.holdoverLimit t d) s fun s' => s'.dom d = { s.dom d with state := .freerun } ∧ s'.dom (1 - d) = s.dom (1 - d) ∧ s'.tim.sel = s.tim.sel ∧ s'.tim.latSys = s.tim.latSys
          ∧ s' = { start t s with tim := s'.tim, evr := s'.evr })
    ∧ ((start t s).otherBetter = true → (s.tim.selFell = true ∨ ∃ u, s.tim.betterSince = some u ∧ u + s.image.time.selHoldS * 1000000000 ≤ s.tks.upEdge + t) →
        Gives (.tickSourceChange t) s fun s' => s'.tim.sel = 1 - s.tim.sel ∧ s'.tim.latSys = s.tim.latSys ∧ (s'.srcCtr s'.tim.sel : Int) + s'.tim.residual = s.tim.latSys
          ∧ (s'.tim.residStep = true ↔ s.image.time.stepLimitNs ≤ s'.tim.residual.natAbs) ∧ s'.dom 0 = s.dom 0 ∧ s'.dom 1 = s.dom 1
          ∧ s' = { start t s with tim := s'.tim, evr := s'.evr })
    ∧ ((start t s).otherBetter = false → Gives (.tickSourceChange t) s fun s' => s'.tim.sel = s.tim.sel ∧ s'.tim.residual = s.tim.residual ∧ s'.tim.betterSince = none
          ∧ s' = { start t s with tim := s'.tim })
    ∧ (domLocked (s.dom d).state = true → (s.dom d).lastSaveUp + 60000000000 ≤ s.tks.upEdge + t →
        Gives (.timeSave t) s fun s' => (s'.dom d).lastSaveUp = s.tks.upEdge + t
          ∧ (∃ v, s'.rtc.save = some v ∧ (if d = 0 then v.freqA else v.freqB) = some (s.dom d).freq ∧ (if d = 0 then v.calA else v.calB) = (start t s).calNow ∧ v.taiUtc = s.tim.utc.taiUtc)
          ∧ s'.rtc = { s.rtc with save := s'.rtc.save } ∧ s' = { start t s with tim := s'.tim, rtc := s'.rtc })

/-- R97, R102, R103, R108 to R110: a time pulse is emitted at its instant, or omitted when it is too close to the one before, or held in free run; TAI − UTC changes at the leap instant; STEPPED clears after 1 s. TIME_PULSE, TP1_PULSE, UTC_LEAP_INSTANT and STEPPED_CLEAR. -/
def Obligations.TimePulses : Prop :=
  ∀ (t : Nat) (s : State), s.tim.tp.length = 2 →
    let up := s.tks.upEdge + t
    let o0 := nth s.tim.tp 0 {}
    let o1 := nth s.tim.tp 1 {}
    (o0.run = true → s.tpHeld = false → (s.tim.latSys + t) % 1000000000 = 0 →
        ((∀ u, o0.lastUp = some u → u + 500000000 ≤ up) → Gives (.timePulse t) s fun s' =>
            s'.out = [.timePulse 0 s.image.time.tp0WidthUs (!s.image.time.tp0Pol)] ∧ s'.tim = { s.tim with tp := s'.tim.tp } ∧ nth s'.tim.tp 0 {} = { o0 with lastUp := some up }
              ∧ nth s'.tim.tp 1 {} = o1 ∧ s' = { start t s with tim := s'.tim, out := s'.out })
        ∧ (∀ u, o0.lastUp = some u → up < u + 500000000 → Gives (.timePulse t) s fun s' =>
            s'.out = [] ∧ s'.tim = { s.tim with tp := s'.tim.tp } ∧ nth s'.tim.tp 0 {} = { o0 with omit_ := min 255 (o0.omit_ + 1) } ∧ nth s'.tim.tp 1 {} = o1
              ∧ s' = { start t s with tim := s'.tim, evr := s'.evr }))
    ∧ (s.tpHeld = true → Gives (.timePulse t) s (fun s' => s' = start t s) ∧ Gives (.tp1Pulse t) s (fun s' => s' = start t s))
    ∧ (∀ v, (start t s).tp1Now = some v → o1.run = true → s.tpHeld = false → v % 1000000 = 0 → v / 1000000 % s.image.time.tp1PeriodMs = s.image.time.tp1PhaseMs →
        (∀ u, o1.lastUp = some u → u + min 500000000 (s.image.time.tp1PeriodMs * 1000000 / 2) ≤ up) →
        Gives (.tp1Pulse t) s fun s' => s'.out = [.timePulse 1 s.image.time.tp1WidthUs (!s.image.time.tp1Pol)] ∧ nth s'.tim.tp 1 {} = { o1 with lastUp := some up }
          ∧ nth s'.tim.tp 0 {} = o0 ∧ s'.tim = { s.tim with tp := s'.tim.tp } ∧ s' = { start t s with tim := s'.tim, out := s'.out })
    ∧ (∀ p, s.tim.utc.leap = some p → p.at_ * 1000000000 ≤ s.tim.latSys + t →
        Gives (.utcLeapInstant t) s fun s' => s'.tim = { s.tim with utc := { s.tim.utc with taiUtc := s.tim.utc.taiUtc + (if p.positive then 1 else -1), leap := none } }
          ∧ s' = { start t s with tim := s'.tim, evr := s'.evr })
    ∧ (∀ u, s.tim.steppedAt = some u →
        (u + 1000000000 ≤ up → Gives (.steppedClear t) s fun s' => s' = { start t s with tim := { s.tim with steppedAt := none } })
        ∧ (up < u + 1000000000 → Gives (.steppedClear t) s fun s' => s' = start t s))

/-- R72, R77, R81, R82, R84, R99 to R102, R777: messages of PTP received. A Sync of the master measures the offset of the domain: the fifth of a return decides between slew and step, a later one of STEP_LIMIT or more begins a new return, and the correction never leaves ±200 ppm; best master selection makes the unit grandmaster or slave; delays are measured by either mechanism. R72, R73, R77 to R79: a grandmaster sends Sync, with a Follow_Up when two-step, and Announce with its own data set on every port of its mask; a slave sends Delay_Req to its master, and a port Pdelay_Req in peer-to-peer mode. PTP_SYNC_SEND, PTP_ANNOUNCE_SEND and PTP_DELAY_REQ_SEND. -/
def Obligations.PtpExchanged : Prop :=
  (∀ (t d port seq : Nat) (corr : Int) (s : State), d < 2 →
    let u := start t s
    let m := s.dom d
    (u.ptpPort d port = true → m.gm = false → m.port = port → ∀ (src : PortIdentity) (origin : Nat), m.masterSrc = some src →
      let rx := ((m.ctr + t) / 4 * 4 : Nat)
      let off := (origin : Int) + corr / 65536 + nth s.image.time.delayAsym port 0 + s.pathDelay d - rx
      let frame := fun (s' : State) => s'.dom (1 - d) = s.dom (1 - d) ∧ s'.tim.sel = s.tim.sel ∧ s'.tim.latSys = s.tim.latSys ∧ (s'.dom d).lastSyncUp = some (s.tks.upEdge + t)
        ∧ s' = { start t s with tim := s'.tim, draws := s'.draws }
      (s.boot.step = 9 → s.tim.loaded = false → m.state = .none →
        Gives (.ptpSyncReceived t d port src seq origin corr false) s fun s' => (s'.dom d).state = .acquiring ∧ (s'.dom d).ctr = shift m.ctr off ∧ frame s')
      ∧ (domLocked m.state = true → off.natAbs < s.image.time.stepLimitNs →
        Gives (.ptpSyncReceived t d port src seq origin corr false) s fun s' => (s'.dom d).state = m.state ∧ (s'.dom d).offset = sat31 off ∧ (s'.dom d).ctr = m.ctr
          ∧ -13107200 ≤ (s'.dom d).freq ∧ (s'.dom d).freq ≤ 13107200 ∧ frame s')
      ∧ (domLocked m.state = true → s.image.time.stepLimitNs ≤ off.natAbs →
        Gives (.ptpSyncReceived t d port src seq origin corr false) s fun s' => (s'.dom d).state = .acquiring ∧ (s'.dom d).freq = m.freq ∧ (s'.dom d).med = [] ∧ (s'.dom d).ctr = m.ctr
          ∧ frame s')
      ∧ (m.state = .acquiring → m.stepPending = none → ∀ a b c e, m.med = [a, b, c, e] →
          let r := median5 [a, b, c, e, off]
          Gives (.ptpSyncReceived t d port src seq origin corr false) s fun s' => (s'.dom d).state = .acquiring ∧ (s'.dom d).ctr = m.ctr
            ∧ (if r.natAbs < s.image.time.stepLimitNs then (s'.dom d).slew = some { amount := r, since := s.tks.upEdge + t } ∧ (s'.dom d).stepPending = none
               else (s'.dom d).stepPending = some r ∧ (s'.dom d).freq = m.freq) ∧ frame s')
      ∧ (Gives (.ptpSyncReceived t d port src seq origin corr true) s fun s' => s'.dom d = { m with lastSyncUp := some (s.tks.upEdge + t), syncLost := false, pendSync := some { src := src, seq := seq, rx := rx, corr := corr } } ∧ frame s'))
    ∧ (∀ (p : PendingSync) (origin : Nat), u.ptpPort d port = true → m.pendSync = some p → domLocked m.state = true → (s.boot.step ≠ 9 ∨ s.tim.loaded = true) →
        let off := (origin : Int) + (p.corr + corr) / 65536 + nth s.image.time.delayAsym m.port 0 + s.pathDelay d - p.rx
        off.natAbs < s.image.time.stepLimitNs →
        Gives (.ptpFollowUpReceived t d port p.src p.seq origin corr) s fun s' => (s'.dom d).offset = sat31 off ∧ (s'.dom d).pendSync = none ∧ (s'.dom d).state = m.state
          ∧ (s'.dom d).ctr = m.ctr ∧ s' = { start t s with tim := s'.tim, draws := s'.draws })
    ∧ (∀ a : Announce, u.ptpPort d port = true → a.src.clock ≠ s.ownId → m.state ≠ .none →
        let live := noteForeign port a (4 * logNs s.image.time.logAnnounce) (s.tks.upEdge + t) m.foreign
        Gives (.ptpAnnounceReceived t d port a) s fun s' => (s'.dom d).foreign = live ∧ s'.dom (1 - d) = s.dom (1 - d) ∧ s'.tim.sel = s.tim.sel
          ∧ (bestMaster live = none → (s.imgDom d).gmCand = true → (s'.dom d).gm = true ∧ (s'.dom d).gmId = s.ownId)
          ∧ (∀ f, bestMaster live = some f →
              if (s.imgDom d).gmCand = true ∧ betterSet (u.ownSet d) f.ann = true then (s'.dom d).gm = true ∧ (s'.dom d).gmId = s.ownId ∧ (m.gm = false → s.tim.gnssValid = true → m.stepPending = none → (s'.dom d).state = .acquiring)
              else (s'.dom d).gm = false ∧ (s'.dom d).masterSrc = some f.ann.src ∧ (s'.dom d).port = f.port ∧ (s'.dom d).gmId = f.ann.gmId ∧ (s'.dom d).gmClass = f.ann.cls
                ∧ (domLocked m.state = true → (m.masterSrc ≠ some f.ann.src ∧ m.masterSrc ≠ none) → (s'.dom d).state = .holdover))
          ∧ s' = { start t s with tim := s'.tim, evr := s'.evr })
    ∧ (u.ptpPort d port = true → m.gm = true → s.image.time.p2p = false →
        Gives (.ptpDelayReqReceived t d port seq corr) s fun s' => s'.out = [.ptp .delayResp d port seq ((m.ctr + t) / 4 * 4) corr] ∧ s' = { start t s with out := s'.out })
    ∧ (u.ptpPort d port = true → m.gm = false → m.delay.sent = true → m.delay.seq = seq → ∀ t4 : Nat,
        Gives (.ptpDelayRespReceived t d port { clock := s.ownId, port := 1 } seq t4 corr) s fun s' =>
          (s'.dom d).delay.delay = (m.lastMs + ((t4 : Int) - m.delay.t1 - corr / 65536 + nth s.image.time.delayAsym m.port 0)) / 2 ∧ s'.dom d = { m with delay := (s'.dom d).delay }
          ∧ s'.dom (1 - d) = s.dom (1 - d) ∧ s' = { start t s with tim := s'.tim })
    ∧ (s.image.time.p2p = true → port < 4 → ∀ turn : Nat,
        let t2 := (m.ctr + t) / 4 * 4
        Gives (.ptpPdelayReqReceived t d port seq turn corr) s fun s' => s' = { start t s with out := s'.out }
          ∧ s'.out = (if (s.imgDom d).oneStep then [.ptp .pdelayResp d port seq 0 (corr + turn * 65536)]
              else [.ptp .pdelayResp d port seq t2 0, .ptp .pdelayRespFollowUp d port seq (t2 + turn) corr]))
    ∧ (port < s.tim.peerDelay.length → (nth s.tim.peerDelay port {}).sent = true → (nth s.tim.peerDelay port {}).seq = seq → ∀ t2 t3 : Nat,
        let p := nth s.tim.peerDelay port {}
        let own : PortIdentity := { clock := s.ownId, port := port + 2 }
        (p.got = false → Gives (.ptpPdelayRespReceived t d port own seq t2 corr false) s fun s' =>
            (nth s'.tim.peerDelay port {}).delay = ((((m.ctr + t) / 4 * 4 : Nat) : Int) - p.t1 - corr / 65536) / 2 ∧ (nth s'.tim.peerDelay port {}).sent = false
            ∧ s'.tim = { s.tim with peerDelay := s'.tim.peerDelay } ∧ s' = { start t s with tim := s'.tim })
        ∧ (p.got = false → Gives (.ptpPdelayRespReceived t d port own seq t2 corr true) s fun s' =>
            (nth s'.tim.peerDelay port {}) = { p with got := true, t2 := t2, t4 := (m.ctr + t) / 4 * 4, corr := corr } ∧ s'.tim = { s.tim with peerDelay := s'.tim.peerDelay }
            ∧ s' = { start t s with tim := s'.tim })
        ∧ (p.got = true → Gives (.ptpPdelayRespFollowUpReceived t port own seq t3 corr) s fun s' =>
            (nth s'.tim.peerDelay port {}).delay = ((p.t4 : Int) - p.t1 - ((t3 : Int) - p.t2) - (p.corr + corr) / 65536) / 2 ∧ (nth s'.tim.peerDelay port {}).sent = false
            ∧ s'.tim = { s.tim with peerDelay := s'.tim.peerDelay } ∧ s' = { start t s with tim := s'.tim }))
    ∧ Gives (.ptpOtherMessage t) s (fun s' => s' = start t s))
  ∧ (∀ (t d port : Nat) (s : State), d < 2 → s.ptpOn d = true →
    let m := s.dom d
    let stamp := (m.ctr + t) / 4 * 4
    let up := s.tks.upEdge + t
    (m.gm = true → m.state ≠ .none →
      (dueSince m.lastSyncTx (logNs s.image.time.logSync) up = true → Gives (.ptpSyncSend t d) s fun s' =>
        s'.out = (bitsOf (s.imgDom d).ports).flatMap (fun p => if (s.imgDom d).oneStep then [.ptp .sync d p m.syncSeq stamp 0]
            else [.ptp .sync d p m.syncSeq 0 0, .ptp .followUp d p m.syncSeq stamp 0])
        ∧ s'.dom d = { m with syncSeq := (m.syncSeq + 1) % 65536, lastSyncTx := some up } ∧ s'.dom (1 - d) = s.dom (1 - d) ∧ s' = { start t s with tim := s'.tim, out := s'.out })
      ∧ (dueSince m.lastAnnTx (logNs s.image.time.logAnnounce) up = true → Gives (.ptpAnnounceSend t d) s fun s' =>
        s'.out = (bitsOf (s.imgDom d).ports).map (fun p => .announce d p ((start t s).ownSet d))
        ∧ s'.dom d = { m with annSeq := (m.annSeq + 1) % 65536, lastAnnTx := some up } ∧ s'.dom (1 - d) = s.dom (1 - d) ∧ s' = { start t s with tim := s'.tim, out := s'.out }))
    ∧ (s.image.time.p2p = false → s.ptpPort d port = true → m.gm = false → m.masterSrc.isSome = true → m.port = port → dueSince m.delay.lastTx (logNs s.image.time.logDelay) up = true →
        Gives (.ptpDelayReqSend t d port) s fun s' => s'.out = [.ptp .delayReq d port ((m.delay.seq + 1) % 65536) stamp 0]
          ∧ s'.dom d = { m with delay := { m.delay with seq := (m.delay.seq + 1) % 65536, sent := true, got := false, t1 := stamp, lastTx := some up } } ∧ s'.dom (1 - d) = s.dom (1 - d)
          ∧ s' = { start t s with tim := s'.tim, out := s'.out })
    ∧ (s.image.time.p2p = true → port < 4 → s.tim.peerDelay.length = 4 → 9 ≤ s.boot.step →
        let p := nth s.tim.peerDelay port {}
        dueSince p.lastTx (logNs s.image.time.logDelay) up = true →
        Gives (.ptpDelayReqSend t d port) s fun s' => s'.out = [.ptp .pdelayReq d port ((p.seq + 1) % 65536) stamp 0]
          ∧ nth s'.tim.peerDelay port {} = { p with seq := (p.seq + 1) % 65536, sent := true, got := false, t1 := stamp, lastTx := some up }
          ∧ s'.tim = { s.tim with peerDelay := s'.tim.peerDelay } ∧ s' = { start t s with tim := s'.tim, out := s'.out }))

/-- R122, R128, R129, R132 to R134, R147, R164: antennas and searches. A share of 0 % or 100 % marks an antenna STUCK and lost; a detected PRN is handed to a channel in PULL_IN; an aided search makes a cold one yield, and the cold one resumes after it; a channel that has not reached TRACK_1MS in 100 ms releases its satellite. ANTENNA_DUTY_PERIOD, ANTENNA_LOST, ACQ_SEARCH_DONE, ACQ_AIDED_REQUEST and PULL_IN_TIMEOUT. -/
def Obligations.AntennasAndSearch : Prop :=
  ∀ (t a c : Nat) (s : State), a < 4 → s.gnb.ants.length = 4 → s.gnb.chans.length = 64 →
    let up := s.tks.upEdge + t
    let x := nth s.gnb.ants a {}
    let others := fun (s' : State) => ∀ b, b ≠ a → nth s'.gnb.ants b {} = nth s.gnb.ants b {}
    (∀ n magI magQ sgnI sgnQ, 0 < n → bitAt s.gnssImg.antEn a = true →
      let stuck := ∃ k, k ∈ [magI, magQ, sgnI, sgnQ] ∧ (k = 0 ∨ n ≤ k)
      let interf := decide (magI * 100 < 15 * n ∨ 55 * n < magI * 100) || decide (magQ * 100 < 15 * n ∨ 55 * n < magQ * 100)
      (¬ stuck → Gives (.antennaDutyPeriod t a n magI magQ sgnI sgnQ) s fun s' =>
          nth s'.gnb.ants a {} = { x with magI := min 255 (magI * 200 / n), magQ := min 255 (magQ * 200 / n), stuck := false, interf := interf } ∧ others s'
          ∧ s'.gnb = { s.gnb with ants := s'.gnb.ants } ∧ s' = { start t s with gnb := s'.gnb })
      ∧ (stuck → Gives (.antennaDutyPeriod t a n magI magQ sgnI sgnQ) s fun s' =>
          (nth s'.gnb.ants a {}).stuck = true ∧ (nth s'.gnb.ants a {}).lost = true ∧ (nth s'.gnb.ants a {}).interf = interf ∧ others s'
          ∧ s'.gnb = { s.gnb with ants := s'.gnb.ants, recs := s'.gnb.recs } ∧ (s.gnb.hdr.tickNo ≠ s.tickNo → s'.gnb.recs = s.gnb.recs) ∧ s' = { start t s with gnb := s'.gnb, evr := s'.evr }))
    ∧ (∀ u, x.noCommonSince = some u → u + 1000000000 ≤ up → x.lost = false →
        Gives (.antennaLost t a) s fun s' => nth s'.gnb.ants a {} = { x with lost := true, baseFixed := false, noCommonSince := none } ∧ others s'
          ∧ s'.gnb = { s.gnb with ants := s'.gnb.ants, recs := s'.gnb.recs }
          ∧ (s.gnb.hdr.tickNo = s.tickNo → s.gnb.epochs ≠ [] → ∀ k, k < 64 → antOf k = a → 0 < (nth s.gnb.recs k []).length → bitAt (nth (nth s'.gnb.recs k []) 0 0) 7 = false)
          ∧ s' = { start t s with gnb := s'.gnb, evr := s'.evr })
    ∧ (∀ q dur (p : AcqPeak), s.gnb.acq = some q → q.ant = a → s.gnb.almanac = [] → 1 ≤ p.prn → p.prn ≤ 32 → bitAt q.prns (p.prn - 1) = true → s.holds a p.prn = false →
        s.channelFor a p.prn = some c → c < 64 →
        (s.gnssImg.acqThreshMilli ≤ p.ratioMilli → Gives (.acqSearchDone t dur [p]) s fun s' =>
            nth s'.gnb.chans c {} = { state := .pullIn, prn := p.prn, aided := q.aided, sinceUp := up, codeChip := p.halfChip / 2 % 1023, codeFrac := if p.halfChip % 2 = 1 then 0x80000000 else 0, doppler := p.doppler, half := true, slips := (s.chan c).slips, slipMark := (s.chan c).slipMark }
            ∧ (q.aided = false → (nth s'.gnb.ants a {}).searched = BitVec.allOnes 32 ∧ ∀ k, k ≠ c → nth s'.gnb.chans k {} = s.chan k) ∧ others s' ∧ s'.gnb.recs = s.gnb.recs
            ∧ s' = { start t s with gnb := s'.gnb, evr := s'.evr })
        ∧ (p.ratioMilli < s.gnssImg.acqThreshMilli → q.aided = false → Gives (.acqSearchDone t dur [p]) s fun s' =>
            s'.gnb.chans = s.gnb.chans ∧ (nth s'.gnb.ants a {}).searched = BitVec.allOnes 32 ∧ others s' ∧ s' = { start t s with gnb := s'.gnb, evr := s'.evr }))
    ∧ (∀ q h dur, s.gnb.acq = some q → q.aided = true → s.gnb.coldHeld = some h → s.gnb.aidedReq = [] →
        Gives (.acqSearchDone t dur []) s fun s' => s'.gnb.acq = some h ∧ s'.gnb.coldHeld = none ∧ s' = { start t s with gnb := s'.gnb, evr := s'.evr })
    ∧ (∀ q prn, s.gnb.acq = some q → q.aided = false → s.gnb.aidedReq = [] → s.antWorks a = true → 1 ≤ prn → prn ≤ 32 → (s.trackedElsewhere a).contains prn = true → s.holds a prn = false →
        Gives (.acqAidedRequest t a prn) s fun s' => s'.gnb.coldHeld = some q ∧ s'.gnb.acq = some { ant := a, aided := true, prns := 1#32 <<< (prn - 1) } ∧ s'.gnb.aidedReq = []
          ∧ s'.gnb = { s.gnb with acq := s'.gnb.acq, coldHeld := s'.gnb.coldHeld, aidedReq := s'.gnb.aidedReq } ∧ s' = { start t s with gnb := s'.gnb })
    ∧ (c < 64 → (s.chan c).state = .pullIn → (s.chan c).sinceUp + 100000000 ≤ up →
        Gives (.pullInTimeout t c) s fun s' => nth s'.gnb.chans c {} = { slips := (s.chan c).slips, slipMark := (s.chan c).slipMark } ∧ (∀ k, k ≠ c → nth s'.gnb.chans k {} = s.chan k)
          ∧ (1 ≤ (s.chan c).prn → (s.chan c).prn ≤ 32 → bitAt (nth s'.gnb.ants (antOf c) {}).searched ((s.chan c).prn - 1) = false) ∧ s'.gnb.recs = s.gnb.recs ∧ s'.gnb.hdr = s.gnb.hdr
          ∧ s' = { start t s with gnb := s'.gnb, evr := s'.evr })

/-- R126, R136 to R139, R146: a channel passes to TRACK_1MS after 100 good milliseconds, to TRACK when the bit edge is fixed, and to REACQ or IDLE after 200 bad ones; one loop pass advances its measurement, and a low phase lock indicator is a slip. CHANNEL_TRACK_1MS, BIT_SYNC, GNSS_LOOP_PASS and CHANNEL_LOSS_OF_LOCK. -/
def Obligations.ChannelsTrack : Prop :=
  ∀ (t c : Nat) (s : State), c < 64 → s.gnb.chans.length = 64 →
    let x := s.chan c
    let others := fun (s' : State) => ∀ k, k ≠ c → nth s'.gnb.chans k {} = s.chan k
    (x.state = .pullIn → 100 ≤ x.goodMs → Gives (.channelTrack1ms t c) s fun s' =>
        nth s'.gnb.chans c {} = { x with state := .track1ms, lockMs := 0, msCount := 0, flips := List.replicate 20 0, lowCn0Ms := 0, lowPliMs := 0 } ∧ others s'
        ∧ s'.gnb = { s.gnb with chans := s'.gnb.chans, ants := s'.gnb.ants } ∧ s' = { start t s with gnb := s'.gnb })
    ∧ (∀ e, x.state = .track1ms → s.bitEdgeOf c = some e → Gives (.bitSync t c) s fun s' =>
        nth s'.gnb.chans c {} = { x with state := .track, bitSync := true, bitEdge := e } ∧ others s' ∧ s'.gnb = { s.gnb with chans := s'.gnb.chans } ∧ s' = { start t s with gnb := s'.gnb })
    ∧ (s.bitEdgeOf c = none → Gives (.bitSync t c) s fun s' => s' = start t s)
    ∧ (∀ m : LoopMeas, m.ch = c → s.works (8 + c / 32) = true → x.state ≠ .idle → x.state ≠ .reacq →
        (600 ≤ m.pli ∨ x.tracks = false → Gives (.gnssLoopPass t [m]) s fun s' =>
            let y := nth s'.gnb.chans c {}
            y.state = x.state ∧ y.prn = x.prn ∧ y.cn0 = m.cn0 ∧ y.pli = m.pli ∧ y.doppler = m.doppler ∧ y.adr = x.adr + BitVec.ofInt 48 m.adrStep ∧ y.slip = x.slip
            ∧ y.goodMs = (if s.gnssImg.cn0Loss + 30 ≤ m.cn0 ∧ 850 ≤ m.pli then x.goodMs + 1 else 0)
            ∧ y.lowCn0Ms = (if m.cn0 < s.gnssImg.cn0Loss then x.lowCn0Ms + 1 else 0) ∧ y.lowPliMs = (if m.pli < 600 then x.lowPliMs + 1 else 0)
            ∧ y.lockMs = (if x.tracks then min (x.lockMs + 1) 16777215 else x.lockMs) ∧ others s' ∧ s'.gnb = { s.gnb with chans := s'.gnb.chans } ∧ s' = { start t s with gnb := s'.gnb })
        ∧ (x.tracks = true → m.pli < 600 → x.lowPliMs < 199 → Gives (.gnssLoopPass t [m]) s fun s' =>
            let y := nth s'.gnb.chans c {}
            y.lockMs = 0 ∧ y.slip = true ∧ y.slips = min (x.slips + 1) 255 ∧ y.state = x.state ∧ y.lowPliMs = x.lowPliMs + 1 ∧ others s' ∧ s'.gnb = { s.gnb with chans := s'.gnb.chans }
            ∧ s' = { start t s with gnb := s'.gnb, evr := s'.evr }))
    ∧ (x.tracks = true → 200 ≤ x.lowCn0Ms ∨ 200 ≤ x.lowPliMs →
        ((s.trackedElsewhere (antOf c)).contains x.prn = true → Gives (.channelLossOfLock t c) s fun s' =>
            nth s'.gnb.chans c {} = { x with state := .reacq, bitSync := false, data := false, lockMs := 0, goodMs := 0 } ∧ others s' ∧ s'.gnb.recs = s.gnb.recs
            ∧ s' = { start t s with gnb := s'.gnb, evr := s'.evr })
        ∧ ((s.trackedElsewhere (antOf c)).contains x.prn = false → Gives (.channelLossOfLock t c) s fun s' =>
            nth s'.gnb.chans c {} = { slips := x.slips, slipMark := x.slipMark } ∧ others s' ∧ s'.gnb.recs = s.gnb.recs ∧ s' = { start t s with gnb := s'.gnb, evr := s'.evr }))

/-- R85 to R87, R141, R143 to R145, R157, R162: at an epoch tick every channel is latched with domain A's stamp, or system time without A, and a record is valid exactly while its channel tracks on an antenna that works; the solution is delivered three ticks later, with the best type whose conditions hold, and GNSS time with it. MEASUREMENT_EPOCH and NAV_SOLUTION_DELIVERY. -/
def Obligations.EpochsAndSolutions : Prop :=
  ∀ (t : Nat) (s : State),
    (∀ fe ms, s.epochTick = true → s.gnb.epochs.any (fun e => e.tick == s.tks.tickExt) = false → s.gnb.recs.length = 64 → s.gnb.chans.length = 64 →
      Gives (.measurementEpoch t fe ms) s fun s' =>
        s'.gnb.hdr.tickNo = s.tickNo ∧ s'.gnb.hdr.latch = (if s.tim.a.state = .none then s.tim.latSys else s.tim.a.ctr) ∧ (s'.gnb.hdr.tmaLost = true ↔ s.tim.a.state = .none)
        ∧ s'.gnb.hdr.feFreq = fe ∧ s'.gnb.recs.length = 64
        ∧ (∀ c, c < 64 → bitAt (nth (nth s'.gnb.recs c []) 0 0) 7 = ((s.chan c).tracks && s.antWorks (antOf c)))
        ∧ (∀ c, c < 64 → (s.chan c).tracks = true → s.antWorks (antOf c) = true →
            fieldOf (nth (nth s'.gnb.recs c []) 0 0) 26 6 = c ∧ fieldOf (nth (nth s'.gnb.recs c []) 0 0) 18 6 = (s.chan c).prn % 64 ∧ nth (nth s'.gnb.recs c []) 7 0 = wordI (s.chan c).doppler)
        ∧ s'.gnb.ants = s.gnb.ants ∧ s'.gnb.sol = s.gnb.sol ∧ s'.tim = { s.tim with gnssMiss := s'.tim.gnssMiss } ∧ s' = { start t s with gnb := s'.gnb, tim := s'.tim, evr := s'.evr, draws := s'.draws })
    ∧ (∀ (r : NavResult) e, s.gnb.epochs.find? (fun e => e.tick + 3 == s.tks.tickExt) = some e → s.works 1 = true → r.baselines = [] →
      Gives (.navSolutionDelivery t r) s fun s' =>
        s'.gnb.sol.tickNo = e.tick % 2 ^ 32 ∧ s'.gnb.sol.lat = r.sol.lat ∧ s'.gnb.sol.lon = r.sol.lon ∧ s'.gnb.sol.attMode = attMode (popCount s'.gnb.sol.antUse)
        ∧ s'.gnb.sol.solType = min s.gnssImg.solMax (if r.usable < 4 then 0 else if (start t s).obsUsable = none ∨ r.withObs < 4 then 1 else if r.common < 5 then 2 else if r.ratioOk = false then 3 else 4)
        ∧ (∀ k, k ∈ s'.gnb.epochs → k.tick ≠ e.tick)
        ∧ (0 < s'.gnb.sol.solType → s'.tim.gnssValid = true ∧ s'.tim.gnssMiss = 0 ∧ (s.tim.a.gm = false → s'.tim.a = s.tim.a) ∧ (s.tim.b.gm = false → s'.tim.b = s.tim.b))
        ∧ (s'.gnb.sol.solType = 0 → s'.tim = { s.tim with gnssMiss := s.tim.gnssMiss + 1 })
        ∧ s'.gnb.chans = s.gnb.chans ∧ s'.gnb.recs = s.gnb.recs ∧ s' = { start t s with gnb := s'.gnb, tim := s'.tim, str := s'.str, evr := s'.evr, draws := s'.draws })

/-- R140, R149 to R151, R153 to R156: navigation data and corrections. A subframe on a channel in TRACK resolves its half cycle and fixes its transmit time; subframes 1 to 3 that agree give an ephemeris, page 18 gives TAI − UTC; an ephemeris ends after 4 hours. RTCM frames count from RTCM_SRC only: 1004 waits for its station's position, 1019 serves a PRN without LNAV ephemeris, others are counted. LNAV_SUBFRAME, EPHEMERIS_EXPIRY, RTCM_1004 to RTCM_1019, RTCM_OTHER_TYPE, RTCM_FRAME_ERROR and RTCM_HOLD_EXPIRY. -/
def Obligations.NavigationData : Prop :=
  ∀ (t : Nat) (s : State), s.gnb.chans.length = 64 →
    let up := s.tks.upEdge + t
    (∀ c inv tx body, c < 64 → (s.chan c).state ≠ .track → Gives (.lnavSubframe t c inv tx body) s fun s' => s' = start t s)
    ∧ (∀ c inv (tx : Option Nat), c < 64 → (s.chan c).state = .track → Gives (.lnavSubframe t c inv tx .other) s fun s' =>
        nth s'.gnb.chans c {} = { s.chan c with half := false, adr := if (s.chan c).half = true ∧ inv = true then (s.chan c).adr + 32768#48 else (s.chan c).adr, data := (s.chan c).data || tx.isSome, txMs := match tx with | some v => v % 604800000 | none => (s.chan c).txMs }
        ∧ (∀ k, k ≠ c → nth s'.gnb.chans k {} = s.chan k) ∧ s'.gnb = { s.gnb with chans := s'.gnb.chans } ∧ s' = { start t s with gnb := s'.gnb })
    ∧ (∀ c inv tx iodc b1 iode toe b2 b3 p, c < 64 → (s.chan c).state = .track → s.gnb.parts.find? (fun (y : EphParts) => y.prn == (s.chan c).prn) = some p → p.prn = (s.chan c).prn →
        p.sf1 = some (iodc, b1) → p.sf2 = some (iode, toe, b2) → iodc % 256 = iode → s.gnb.ephs.find? (fun y => y.prn == (s.chan c).prn) = none →
        Gives (.lnavSubframe t c inv tx (.sf3 iode b3)) s fun s' => s'.gnb.ephs.find? (fun y => y.prn == (s.chan c).prn) = some { prn := (s.chan c).prn, iode := iode, toe := toe, rtcm := false, body := b1 ++ b2 ++ b3 }
          ∧ s' = { start t s with gnb := s'.gnb, evr := s'.evr })
    ∧ (∀ c inv tx a0 a1 ls wn dn, c < 64 → (s.chan c).state = .track → Gives (.lnavSubframe t c inv tx (.utc a0 a1 ls ls wn dn)) s fun s' =>
        s'.tim.utc = { valid := true, leap := none, source := 0, taiUtc := ls + 19 } ∧ s'.gnb.utcA0 = a0 ∧ s'.gnb.utcA1 = a1 ∧ s'.tim = { s.tim with utc := s'.tim.utc }
        ∧ s' = { start t s with gnb := s'.gnb, tim := s'.tim, evr := s'.evr })
    ∧ (∀ prn, Gives (.ephemerisExpiry t prn) s fun s' =>
        (∀ e, e ∈ s'.gnb.ephs ↔ e ∈ s.gnb.ephs ∧ ¬ (e.prn = prn ∧ 14400 ≤ towDiff (((s.tim.latSys + t) / 1000000000 - 315964819) % 604800 : Nat) e.toe))
        ∧ s'.gnb = { s.gnb with ephs := s'.gnb.ephs } ∧ s' = { start t s with gnb := s'.gnb })
    ∧ (∀ src, s.rtcmFrom src = false → ∀ o st x y z h e b,
        Gives (.rtcm1004 t src o) s (fun s' => s' = start t s) ∧ Gives (.rtcm1005 t src st x y z) s (fun s' => s' = start t s) ∧ Gives (.rtcm1006 t src st x y z h) s (fun s' => s' = start t s)
        ∧ Gives (.rtcm1019 t src e) s (fun s' => s' = start t s) ∧ Gives (.rtcmOtherType t src) s (fun s' => s' = start t s) ∧ Gives (.rtcmFrameError t src b) s (fun s' => s' = start t s))
    ∧ (∀ src, s.rtcmFrom src = true →
        (∀ o : Obs1004, (s.gnssImg.rtcmStation = 0xFFFF ∨ s.gnssImg.rtcmStation = o.station) → ∀ pos, s.gnb.stationPos = some (o.station, pos) →
          Gives (.rtcm1004 t src o) s fun s' => s'.gnb = { s.gnb with station := o.station % 4096, obs := some { obs := o, up := up }, obsAged := false, last1004 := some up } ∧ s' = { start t s with gnb := s'.gnb })
        ∧ (∀ o : Obs1004, (s.gnssImg.rtcmStation = 0xFFFF ∨ s.gnssImg.rtcmStation = o.station) → s.gnb.stationPos = none →
          Gives (.rtcm1004 t src o) s fun s' => s'.gnb = { s.gnb with station := o.station % 4096, held := some { obs := o, up := up }, last1004 := some up } ∧ s' = { start t s with gnb := s'.gnb })
        ∧ (∀ o : Obs1004, s.gnssImg.rtcmStation ≠ 0xFFFF → s.gnssImg.rtcmStation ≠ o.station →
          Gives (.rtcm1004 t src o) s fun s' => s'.gnb = { s.gnb with ignCnt := min (s.gnb.ignCnt + 1) 15, errLog := s'.gnb.errLog } ∧ s' = { start t s with gnb := s'.gnb, evr := s'.evr })
        ∧ (∀ st x y z h o, (s.gnssImg.rtcmStation = 0xFFFF ∨ s.gnssImg.rtcmStation = st) → s.gnb.held = some o → o.obs.station = st → up ≤ o.up + s.gnssImg.rtcmMaxAgeS * 1000000000 →
          let s2 := { start t s with gnb := { s.gnb with station := st % 4096, stationPos := some (st, x, y, z), obs := some o, held := none, obsAged := false } }
          Gives (.rtcm1005 t src st x y z) s (fun s' => s' = s2) ∧ Gives (.rtcm1006 t src st x y z h) s (fun s' => s' = s2))
        ∧ (∀ st x y z h, (s.gnssImg.rtcmStation = 0xFFFF ∨ s.gnssImg.rtcmStation = st) → s.gnb.held = none →
          let s2 := { start t s with gnb := { s.gnb with station := st % 4096, stationPos := some (st, x, y, z) } }
          Gives (.rtcm1005 t src st x y z) s (fun s' => s' = s2) ∧ Gives (.rtcm1006 t src st x y z h) s (fun s' => s' = s2))
        ∧ (∀ e : Ephemeris, s.gnb.ephs.find? (fun y => y.prn == e.prn) = none →
          Gives (.rtcm1019 t src e) s fun s' => s'.gnb.ephs.find? (fun y => y.prn == e.prn) = some { e with rtcm := true } ∧ s'.gnb = { s.gnb with ephs := s'.gnb.ephs } ∧ s' = { start t s with gnb := s'.gnb, evr := s'.evr })
        ∧ Gives (.rtcmOtherType t src) s (fun s' => s' = { start t s with gnb := { s.gnb with ignCnt := min (s.gnb.ignCnt + 1) 15 } })
        ∧ (∀ b, Gives (.rtcmFrameError t src b) s fun s' => s'.gnb = { s.gnb with errCnt := min (s.gnb.errCnt + 1) 15, errLog := s'.gnb.errLog } ∧ s' = { start t s with gnb := s'.gnb, evr := s'.evr }))
    ∧ (∀ h, s.gnb.held = some h →
        (h.up + s.gnssImg.rtcmMaxAgeS * 1000000000 < up → Gives (.rtcmHoldExpiry t) s fun s' => s' = { start t s with gnb := { s.gnb with held := none } })
        ∧ (up ≤ h.up + s.gnssImg.rtcmMaxAgeS * 1000000000 → Gives (.rtcmHoldExpiry t) s fun s' => s' = start t s))

/-- R171, R173, R174, R176, R186: the sinc stage of a channel. A bit moves the three integrators; the 64th gives a Q1.23 sample with the combs, kept in the history, and marks a step beyond CH_STEP_LIM; after a synchronising reset the grid waits for its point. 4,096 equal bits make the channel STUCK. SINC_STEP and DFC_CHANNEL_STUCK. R173, R178, R180 to R182, R186 to R189, R191, R193, R194: the round gives every channel present its slot in fixed order, and its outputs reach the window as a whole at the round's end. A channel without a fade gives its bank's output; one in a fade the weighted output of old and new, until the new bank is in use; one with a pending reset starts its history anew. No round runs while the IO domain is lost. 16 clean ticks end STUCK with a reset pending. FIR_ROUND, FIR_ROUND_END and DFC_CHANNEL_RECOVER. -/
def Obligations.FilterChainRuns : Prop :=
  (∀ (t : Nat) (f : BitFeed) (s : State), f.ch < 32 → s.dfc.chs.length = 32 →
    let c := nth s.dfc.chs f.ch {}
    let others := fun (s' : State) => (∀ k, k ≠ f.ch → nth s'.dfc.chs k {} = nth s.dfc.chs k {}) ∧ s'.dfc = { s.dfc with chs := s'.dfc.chs }
    let lim := nth s.filters.chStepLim f.ch 0
    let runs := bitAt s.dfc.chEn f.ch = true ∧ s.clocked 10 = true
    (bitAt s.dfc.chEn f.ch = false ∨ f.bits = [] ∨ s.clocked 10 = false →
        Gives (.sincStep t f) s (fun s' => s' = start t s) ∧ Gives (.dfcChannelStuck t f) s (fun s' => s' = start t s))
    ∧ (∀ b, runs → f.bits = [b] → c.runInTick = false → (c.lastBit = b → c.bitRun < 4095) →
        let i1 := c.int1 + (if b then 1 else -1)
        let i2 := c.int2 + i1
        let i3 := c.int3 + i2
        let d := c.int3 + i2 - c.comb1
        let v := max (-8388608) (min 8388607 ((d - c.comb2 - c.comb3) * 32))
        let fed : DfcCh := { c with lastBit := b, bitRun := (if b = c.lastBit then c.bitRun + 1 else 1), int1 := i1, int2 := i2, int3 := i3 }
        let newest := (s.tks.upEdge : Int) + f.lastNs
        let far := lim ≠ 0 ∧ lim < (v - nth c.hist 0 0).natAbs
        (c.gridWait = false → c.phase ≠ 63 → Gives (.sincStep t f) s fun s' =>
            nth s'.dfc.chs f.ch {} = { fed with phase := c.phase + 1 } ∧ others s' ∧ s' = { start t s with dfc := s'.dfc })
        ∧ (c.gridWait = true → c.gridAt = none → Gives (.sincStep t f) s fun s' =>
            nth s'.dfc.chs f.ch {} = fed ∧ others s' ∧ s' = { start t s with dfc := s'.dfc })
        ∧ (c.gridWait = false → c.phase = 63 → ¬ far → Gives (.sincStep t f) s fun s' =>
            nth s'.dfc.chs f.ch {} = { fed with comb1 := i3, comb2 := d, comb3 := d - c.comb2, phase := 0, hist := (v :: c.hist).take 1536, newest := newest } ∧ others s' ∧ s' = { start t s with dfc := s'.dfc })
        ∧ (c.gridWait = false → c.phase = 63 → far → Gives (.sincStep t f) s fun s' =>
            (nth s'.dfc.chs f.ch {}).step = true ∧ (nth s'.dfc.chs f.ch {}).hist = (v :: c.hist).take 1536 ∧ (nth s'.dfc.chs f.ch {}).phase = 0 ∧ others s'
            ∧ (∀ m, c.stepMark = some m → s.tks.upEdge + t < m + 1000000000 → s'.evr = s.evr) ∧ s' = { start t s with dfc := s'.dfc, evr := s'.evr }))
    ∧ (∀ b n, runs → 0 < n → f.bits = List.replicate n b → c.lastBit = b → c.runInTick = false → c.stuck = false →
        (4096 ≤ c.bitRun + n → Gives (.dfcChannelStuck t f) s fun s' =>
            let x := nth s'.dfc.chs f.ch {}
            x.stuck = true ∧ x.stuckTicks = 0 ∧ x.cleanTicks = 0 ∧ x.bitRun = c.bitRun + n ∧ x.bank = c.bank ∧ x.fading = c.fading ∧ x.int1 = c.int1 + (if b then (n : Int) else -(n : Int)) ∧ others s'
            ∧ s' = { start t s with dfc := s'.dfc, evr := s'.evr })
        ∧ (c.bitRun + n < 4096 → Gives (.dfcChannelStuck t f) s fun s' =>
            (nth s'.dfc.chs f.ch {}).stuck = false ∧ (nth s'.dfc.chs f.ch {}).bitRun = c.bitRun + n ∧ others s' ∧ s' = { start t s with dfc := s'.dfc, evr := s'.evr })))
  ∧ (∀ (t : Nat) (s : State), s.dfc.chs.length = 32 →
    let ch := fun k => nth s.dfc.chs k {}
    (s.dfcRuns = true → Gives (.firRound t []) s fun s' => ∃ outs, s'.dfc.next = some (s.tickNo, outs) ∧ outs.length = 32
        ∧ (∀ k, k < 32 →
            let c := ch k
            let x := nth s'.dfc.chs k {}
            let o := nth outs k {}
            (bitAt s.dfc.chEn k = false → o = {} ∧ x = c)
            ∧ (bitAt s.dfc.chEn k = true → c.reqs = [] → c.resetPending = false → c.fading = false →
                let y := evaluate s.tks.upEdge k (s.bankOf c.bank) c
                let settle := if c.step then max (c.settle - 1) (settleOf (s.bankOf c.bank)) else c.settle - 1
                o = { value := y.1, valid := !c.stuck, unsettled := decide (0 < c.settle) || c.step, fading := false, stuck := c.stuck, sat := y.2, step := c.step, bank := c.bank, settleLeft := settle, delay := delayOf (s.bankOf c.bank) k }
                ∧ x.bank = c.bank ∧ x.fading = false ∧ x.settle = settle ∧ x.step = false ∧ x.hist = c.hist ∧ x.stuck = c.stuck)
            ∧ (bitAt s.dfc.chEn k = true → c.reqs = [] → c.resetPending = false → c.fading = true → c.fadeI + 1 < c.fadeLen →
                let w := (c.fadeI + 1) * 8388608 / c.fadeLen
                let old := evaluate s.tks.upEdge k (s.bankOf c.bank) c
                let new := evaluate s.tks.upEdge k (s.bankOf c.target) c
                o.value = (satOut (old.1 * 8388608 + (new.1 - old.1) * w) 8388608).1 ∧ o.unsettled = true ∧ o.fading = true ∧ o.step = c.step ∧ o.bank = c.target ∧ o.valid = !c.stuck
                ∧ o.settleLeft = c.fadeLen - (c.fadeI + 1) + settleOf (s.bankOf c.target)
                ∧ x.fadeI = c.fadeI + 1 ∧ x.fading = true ∧ x.bank = c.bank ∧ x.target = c.target ∧ x.queued = c.queued ∧ x.hist = c.hist)
            ∧ (bitAt s.dfc.chEn k = true → c.reqs = [] → c.resetPending = false → c.fading = true → c.fadeI + 1 = c.fadeLen → c.queued = none →
                o.value = (evaluate s.tks.upEdge k (s.bankOf c.target) c).1 ∧ o.fading = true ∧ o.unsettled = true ∧ o.bank = c.target
                ∧ x.bank = c.target ∧ x.fading = false ∧ x.settle = settleOf (s.bankOf c.target))
            ∧ (bitAt s.dfc.chEn k = true → c.reqs = [] → c.resetPending = true →
                let b := match c.queued with | some q => q.bank | none => if c.fading then c.target else c.bank
                x.hist = [] ∧ x.int1 = 0 ∧ x.int2 = 0 ∧ x.int3 = 0 ∧ x.gridWait = true ∧ x.gridAt = none ∧ x.resetPending = false ∧ x.fading = false ∧ x.queued = none ∧ x.bank = b ∧ o.unsettled = true ∧ o.bank = b))
        ∧ s'.dfc = { s.dfc with chs := s'.dfc.chs, next := s'.dfc.next } ∧ s' = { start t s with dfc := s'.dfc, evr := s'.evr })
    ∧ (∀ fs, s.dfcRuns = false → Gives (.firRound t fs) s (fun s' => s' = start t s) ∧ Gives (.firRoundEnd t) s (fun s' => s' = start t s))
    ∧ (∀ n outs, s.dfcRuns = true → s.dfc.next = some (n, outs) → Gives (.firRoundEnd t) s fun s' =>
        s'.dfc = { s.dfc with win := outs, roundTick := n, roundEnd := min 255 (t / 1000), next := none } ∧ s' = { start t s with dfc := s'.dfc })
    ∧ (∀ k, k < 32 → (ch k).stuck = true → 16 ≤ (ch k).cleanTicks → bitAt s.dfc.chEn k = true → Gives (.dfcChannelRecover t k) s fun s' =>
        nth s'.dfc.chs k {} = { ch k with stuck := false, resetPending := true } ∧ (∀ j, j < 32 → j ≠ k → nth s'.dfc.chs j {} = ch j)
        ∧ s'.dfc = { s.dfc with chs := s'.dfc.chs } ∧ s' = { start t s with dfc := s'.dfc, evr := s'.evr })
    ∧ (∀ k, (ch k).stuck = false ∨ (ch k).cleanTicks < 16 → Gives (.dfcChannelRecover t k) s fun s' => s' = start t s))

/-- R210, R211, R242: sentences. A sentence read by form and checksum begins with $, ends with carriage return and line feed, has at most 82 characters, and its two hexadecimal digits are the exclusive or of the characters between $ and *. One that a served UART takes gives each context of its type and talker one sample at its start character's stamp, less nothing yet; a rejected one is counted and recorded; one of a type not taken is counted under IGNORED. SENTENCE_HDT to SENTENCE_TTM and SENTENCE_OTHER. -/
def Obligations.SentencesFeed : Prop :=
  (∀ bytes x, readSentence bytes = .ok x →
    let cs := bytes.map (fun b => b.toNat)
    11 ≤ cs.length ∧ cs.length ≤ 82 ∧ ∃ text a b h l, hexDigit h = some a ∧ hexDigit l = some b ∧ 42 ∉ text ∧ cs = [36] ++ text ++ [42, h, l, 13, 10] ∧ text.foldl (fun p q => p ^^^ q) 0 = a * 16 + b)
  ∧ ∀ (t : Nat) (tg : Telegram) (s : State),
    let served := s.uartsServed = true ∧ nth s.image.streams.uartMode tg.uart .off = .sentence
    let sample := fun (ty : SentenceType) (fs : List (List Nat)) (c : Nat) => ({ ctx := c, arrival := tg.start, inst := none, vals := (sentenceData ty fs).vals, valid := (sentenceData ty fs).valid, utcMs := (sentenceData ty fs).utc } : RawSample)
    (∀ cmd ty, (cmd, ty) ∈ [(Instr.sentenceHdt t tg, SentenceType.hdt), (.sentenceThs t tg, .ths), (.sentenceRot t tg, .rot), (.sentenceHrm t tg, .hrm), (.sentenceMwv t tg, .mwv), (.sentenceGga t tg, .gga), (.sentenceGns t tg, .gns), (.sentenceVtg t tg, .vtg), (.sentenceTtm t tg, .ttm)] →
      let ctxs := s.sentenceCtxs tg.uart ty
      (¬ served → Gives cmd s fun s' => s' = start t s)
      ∧ (∀ cause, served → readSentence tg.bytes = .error cause → ctxs = [] → Gives cmd s fun s' =>
          s'.str = { s.str with uartRej := upd s.str.uartRej tg.uart (fun n => min (n + 1) 255) } ∧ s' = { start t s with str := s'.str, evr := s'.evr })
      ∧ (∀ cause c, served → readSentence tg.bytes = .error cause → ctxs = [c] → s.str.ctxs.length = 256 → Gives cmd s fun s' =>
          s'.str = { s.str with uartRej := upd s.str.uartRej tg.uart (fun n => min (n + 1) 255), ctxs := s'.str.ctxs }
          ∧ (s'.ctx c).invalidRun = (s.ctx c).invalidRun + 1 ∧ (s'.ctx c).buf = (s.ctx c).buf ∧ (2 ≤ (s.ctx c).invalidRun → bitAt (s'.ctx c).mask 2 = true) ∧ ((s.ctx c).invalidRun < 2 → (s'.ctx c).mask = (s.ctx c).mask)
          ∧ (∀ d, d ≠ c → s'.ctx d = s.ctx d) ∧ s' = { start t s with str := s'.str, evr := s'.evr })
      ∧ (∀ talker type fs, served → readSentence tg.bytes = .ok (talker, type, fs) → sentenceType type ≠ some ty → Gives cmd s fun s' => s' = start t s)
      ∧ (∀ talker type fs, served → readSentence tg.bytes = .ok (talker, type, fs) → sentenceType type = some ty →
          let right := ctxs.filter (fun c => match s.ctxCfg c with | some k => talkerOk k talker | none => false)
          right ≠ [] ∨ ctxs = [] → Gives cmd s fun s' =>
            s'.str = { s.str with uartAcc := upd s.str.uartAcc tg.uart (fun n => min (n + 1) 65535), inbox := s'.str.inbox }
            ∧ (ty ≠ .ttm → s'.str.inbox = s.str.inbox ++ right.map (sample ty fs))
            ∧ (ty = .ttm → s'.str.inbox = s.str.inbox ++ (right.filter (fun c => (s.ctxCfg c).map (fun k => k.field) == some (sentenceData ty fs).target)).map (sample ty fs))
            ∧ s' = { start t s with str := s'.str }))
    ∧ (¬ served → Gives (.sentenceOther t tg) s fun s' => s' = start t s)
    ∧ (∀ talker type fs, served → readSentence tg.bytes = .ok (talker, type, fs) → sentenceType type = none → Gives (.sentenceOther t tg) s fun s' =>
        s' = { start t s with str := { s.str with uartIgn := upd s.str.uartIgn tg.uart (fun n => min (n + 1) 255) } })
    ∧ (∀ cause, served → readSentence tg.bytes = .error cause → Gives (.sentenceOther t tg) s fun s' =>
        s'.str = { s.str with uartRej := upd s.str.uartRej tg.uart (fun n => min (n + 1) 255) } ∧ s' = { start t s with str := s'.str, evr := s'.evr })

/-- R200, R214: a telegram that meets its template (sync bytes, length, check) gives each context of the UART and template one sample, its fields from SRC_FIELD on in their byte order and signedness; one that fails is rejected and counted. TEMPLATE_TELEGRAM. -/
def Obligations.TemplatesFeed : Prop :=
  ∀ (t n : Nat) (tg : Telegram) (s : State),
    let ctxs := s.ctxsDefined.filter (fun c => match s.ctxCfg c with | some k => k.src == .template tg.uart n | none => false)
    let served := s.uartsServed = true ∧ nth s.image.streams.uartMode tg.uart .off = .template
    (nth s.image.streams.templates n none = none ∨ ¬ served → Gives (.templateTelegram t n tg) s fun s' => s' = start t s)
    ∧ ∀ tm, nth s.image.streams.templates n none = some tm → served →
      let k := match tm.check with | .none => 0 | .xor8 => 1 | .crc16 => 2
      let body := (tg.bytes.drop tm.sync.length).take (tm.length - tm.sync.length - k)
      let meets := tg.bytes.length = tm.length ∧ tg.bytes.take tm.sync.length = tm.sync
        ∧ (tm.check = .xor8 → beNat (tg.bytes.drop (tm.length - 1)) = (body.map (fun b => b.toNat)).foldl (fun p q => p ^^^ q) 0) ∧ (tm.check = .crc16 → beNat (tg.bytes.drop (tm.length - 2)) = crc16 body)
      (meets → Gives (.templateTelegram t n tg) s fun s' =>
          s'.str = { s.str with uartAcc := upd s.str.uartAcc tg.uart (fun n => min (n + 1) 65535), inbox := s.str.inbox ++ ctxs.map (fun c =>
            { ctx := c, arrival := tg.start, inst := none, valid := true, vals := match s.ctxCfg c with | some k => ((tm.fields.drop k.field).take (kindWidth k.kind)).map (templateField tg.bytes) | none => [] }) }
          ∧ s' = { start t s with str := s'.str })
      ∧ (¬ meets → ctxs = [] → Gives (.templateTelegram t n tg) s fun s' =>
          s'.str = { s.str with uartRej := upd s.str.uartRej tg.uart (fun n => min (n + 1) 255) } ∧ s' = { start t s with str := s'.str, evr := s'.evr })

/-- R215 to R217: a context without an accepted sample for STALE_MULT × PERIOD is masked STALE; a cause other than OPERATOR clears when its MASK_HOLD of good samples is complete, and at the unmasking the confidence takes the larger of its value and CONF_INIT. CONTEXT_STALE and CONTEXT_UNMASK. -/
def Obligations.ContextMasks : Prop :=
  ∀ (t c : Nat) (k : CtxCfg) (s : State), s.ctxCfg c = some k → c < s.str.ctxs.length → (s.ctx c).holdSince.length = 5 →
    let x := s.ctx c
    let up := s.tks.upEdge + t
    let others := fun (s' : State) => (∀ d, d ≠ c → s'.ctx d = s.ctx d) ∧ s'.str = { s.str with ctxs := s'.str.ctxs } ∧ s' = { start t s with str := s'.str, evr := s'.evr }
    let quiet := fun (i : Nat) => ∃ u, nth x.holdSince i none = some u ∧ u + k.maskHoldS * 1000000000 ≤ up
    (∀ u, x.lastUp = some u → u + k.staleMult * k.periodMs * 1000000 ≤ up → bitAt x.mask 1 = false → Gives (.contextStale t c) s fun s' =>
        (∀ i, i < 5 → bitAt (s'.ctx c).mask i = (bitAt x.mask i || i == 1)) ∧ nth (s'.ctx c).holdSince 1 none = none
        ∧ s'.ctx c = { x with mask := (s'.ctx c).mask, holdSince := (s'.ctx c).holdSince } ∧ others s')
    ∧ (∀ u, x.lastUp = some u → up < u + k.staleMult * k.periodMs * 1000000 → Gives (.contextStale t c) s fun s' => s' = start t s)
    ∧ ((∀ i, i < 4 → bitAt x.mask i = true → ¬ quiet i) → Gives (.contextUnmask t c) s fun s' => s' = start t s)
    ∧ (Gives (.contextUnmask t c) s fun s' =>
        (∀ i, i < 5 → (bitAt (s'.ctx c).mask i = true ↔ bitAt x.mask i = true ∧ (i = 4 ∨ ¬ quiet i)))
        ∧ ((s'.ctx c).mask ≠ 0 ∨ x.mask = 0 → (s'.ctx c).conf = x.conf) ∧ ((s'.ctx c).mask = 0 → x.mask ≠ 0 → (s'.ctx c).conf = max x.conf k.confInit)
        ∧ s'.ctx c = { x with mask := (s'.ctx c).mask, conf := (s'.ctx c).conf, confFrac := (s'.ctx c).confFrac } ∧ others s')

/-- R219, R221 to R225, R227, R230, R231: alignment groups. On its tick a group has an instant, at the edge or at the pulse, and a 65th pending instant overwrites the oldest; an AUTO group turns to triggered sampling at 5 miss ticks in 10 and back after FB_HOLD; the pulse leaves only the active unit, through an open gate; an instant WAIT_LIMIT behind is released in P1 with its late members ABSENT and marks a miss tick. GROUP_INSTANT, GROUP_TO_TRIGGERED, GROUP_TO_MAIN, SYNC_OUT_PULSE and GROUP_RELEASE_TIMEOUT. -/
def Obligations.AlignmentGroups : Prop :=
  ∀ (t g : Nat) (s : State), g < 32 → s.str.groups.length = 32 →
    let x := s.group g
    let cfg := s.groupCfg g
    let up := s.tks.upEdge + t
    let others := fun (s' : State) => (∀ h, h ≠ g → s'.group h = s.group h) ∧ s'.str = { s.str with groups := s'.str.groups }
    let tickNow := s.tks.running = true ∧ (s.members g) ≠ [] ∧ s.tks.tickExt % cfg.div = 0 ∧ ∀ i, i ∈ x.pending → i.tick ≠ s.tks.tickExt
    let new : GroupInstant := { inst := if x.triggered then (s.tks.upEdge : Int) + cfg.offsetUs * 1000 else s.tks.upEdge, tick := s.tks.tickExt, triggered := x.triggered }
    (¬ tickNow → Gives (.groupInstant t g) s fun s' => s' = start t s)
    ∧ (tickNow → x.pending.length < 64 → Gives (.groupInstant t g) s fun s' =>
        s'.group g = { x with pending := x.pending ++ [new], path := x.triggered } ∧ others s' ∧ s' = { start t s with str := s'.str })
    ∧ (tickNow → 64 ≤ x.pending.length → Gives (.groupInstant t g) s fun s' =>
        s'.group g = { x with pending := x.pending.drop 1 ++ [new], path := x.triggered, overflow := min (x.overflow + 1) 255 } ∧ others s' ∧ s' = { start t s with str := s'.str, evr := s'.evr })
    ∧ (cfg.mode = .auto → x.triggered = false → 5 ≤ x.missCount → Gives (.groupToTriggered t g) s fun s' =>
        s'.group g = { x with triggered := true, trigSince := up } ∧ others s' ∧ s' = { start t s with str := s'.str, evr := s'.evr })
    ∧ (cfg.mode ≠ .auto ∨ x.missCount < 5 → Gives (.groupToTriggered t g) s fun s' => s' = start t s)
    ∧ (cfg.mode = .auto → x.triggered = true → x.trigSince + cfg.fbHoldS * 1000000000 ≤ up → Gives (.groupToMain t g) s fun s' =>
        s'.group g = { x with triggered := false, misses := List.replicate 10 false, missNow := false } ∧ (s'.group g).missCount = 0 ∧ others s' ∧ s' = { start t s with str := s'.str, evr := s'.evr })
    ∧ (cfg.mode ≠ .auto ∨ up < x.trigSince + cfg.fbHoldS * 1000000000 → Gives (.groupToMain t g) s fun s' => s' = start t s)
    ∧ (∀ k i, cfg.syncOut = some k → i ∈ x.pending → i.triggered = true → i.tick = s.tks.tickExt →
        (bitAt s.saf.gateSync k = true → s.saf.keepAlive = true → s.sys.state = .active → Gives (.syncOutPulse t g) s fun s' => s' = { start t s with out := [.syncPulse k cfg.widthUs (!cfg.pol)] })
        ∧ (bitAt s.saf.gateSync k = false ∨ s.sys.state ≠ .active → Gives (.syncOutPulse t g) s fun s' => s' = start t s))
    ∧ ((∀ i, i ∈ x.pending → i.tick = s.tks.tickExt → i.triggered = false) → Gives (.syncOutPulse t g) s fun s' => s' = start t s)
    ∧ (∀ i, s.twn.shadow = none → s.tks.phase = 1 → s.tks.phaseOpen = true → x.pending = [i] → s.instantReady g i = false → s.releaseInst g i + (cfg.waitMs * 1000000 : Nat) ≤ s.tks.upEdge → s.str.wait = [] → s.fus.atts = [] →
        Gives (.groupReleaseTimeout t g) s fun s' =>
          (s'.group g).pending = [] ∧ (s'.group g).missNow = true ∧ (s'.group g).misses = x.misses ∧ (s'.group g).triggered = x.triggered ∧ (∀ h, h ≠ g → s'.group h = s.group h)
          ∧ s'.str.wait.map (fun m => m.ctx) = s.members g
          ∧ (∀ m, m ∈ s'.str.wait → s.memberReady m.ctx i = false → m.absent = true) ∧ (∀ m, m ∈ s'.str.wait → (m.masked = true ↔ (s.ctx m.ctx).mask ≠ 0))
          ∧ s'.str = { s.str with groups := s'.str.groups, wait := s'.str.wait } ∧ s' = { start t s with str := s'.str, evr := s'.evr })
    ∧ (s.twn.shadow = none → s.tks.phase ≠ 1 ∨ s.tks.phaseOpen = false → Gives (.groupReleaseTimeout t g) s fun s' => s' = start t s)

/-- R254, R258, R262: after P2 of every eighth tick the snapshot prepared joins the history, of which the 128 most recent are kept. A context of which 5 of the last 10 samples were discarded has its confidence halved, and a sentence, template or CAN source that is not triggered has LAT_EST raised by PERIOD up to 2,000,000 µs; the record of the 10 is cleared. REPLAY_SNAPSHOT and FUS_STREAM_LATE. -/
def Obligations.SnapshotsAndLateStreams : Prop :=
  ∀ (t c : Nat) (s : State), s.twn.shadow = none →
    (∀ sn, s.fus.cand = some sn → Gives (.replaySnapshot t) s fun s' =>
        s'.fus.snaps = (sn :: s.fus.snaps).take 128 ∧ s'.fus.cand = none ∧ s'.fus.est = s.fus.est ∧ s'.fus.state = s.fus.state
        ∧ s'.fus = { s.fus with snaps := s'.fus.snaps, cand := none } ∧ s' = { start t s with fus := s'.fus })
    ∧ (s.fus.cand = none → Gives (.replaySnapshot t) s fun s' => s' = start t s)
    ∧ (∀ k, s.ctxCfg c = some k → c < s.str.ctxs.length →
        let x := s.ctx c
        let drops := (x.fates.filter (fun b => b)).length
        let own := match k.src with | .sentence _ _ => false | .template _ _ => false | .can _ => false | _ => true
        let triggered := ∃ g, k.group = some g ∧ (s.group g).path = true
        (drops < 5 → Gives (.fusStreamLate t c) s fun s' => s' = start t s)
        ∧ (5 ≤ drops → Gives (.fusStreamLate t c) s fun s' =>
            (s'.ctx c).fates = [] ∧ (s'.ctx c).conf = x.conf / 2 ∧ (own = true ∨ triggered → (s'.ctx c).latNs = x.latNs)
            ∧ (own = false → ¬ triggered → (s'.ctx c).latNs = min (x.latNs + k.periodMs * 1000000) 2000000000)
            ∧ s'.ctx c = { x with fates := [], conf := (s'.ctx c).conf, confFrac := 0, latNs := (s'.ctx c).latNs, latAlarm := (s'.ctx c).latAlarm }
            ∧ (∀ d, d ≠ c → s'.ctx d = s.ctx d) ∧ s'.str = { s.str with ctxs := s'.str.ctxs } ∧ s' = { start t s with str := s'.str, evr := s'.evr }))

/-- R268, R270 to R272, R275: two references in PAIR whose contradiction has outlasted CONTRA_TIME are both suspended in a DISPUTE; it ends with both reinstated when they agree again or a third reference becomes available; in VOTE the worst outlier is masked JUDGED, at most one per quantity in a P2. FLAT_CONTRADICTION, DISPUTE_END and OUTLIER_MASK. -/
def Obligations.ReferencesArbitrated : Prop :=
  ∀ (t q : Nat) (s : State), s.twn.shadow = none → q < 2 → s.fus.arb.length = 2 → s.fus.refs.length = 16 →
    let m := s.arb q
    let up := s.tks.upEdge + t
    let quiet := fun (s' : State) => (∀ p, p ≠ q → s'.arb p = s.arb p) ∧ s'.fus = { s.fus with refs := s'.fus.refs, arb := s'.fus.arb, state := s'.fus.state }
    (m.state = 3 → s.fusImg.contraTimeMs < m.contra → m.refA < 16 → m.refB < 16 → Gives (.flatContradiction t q) s fun s' =>
        s'.arb q = { m with state := 5, drSince := some up, contra := 0, agree := 0, conf := 96 }
        ∧ (∀ r, r < 16 → s'.ref r = { s.ref r with suspended := (s.ref r).suspended || r == m.refA || r == m.refB })
        ∧ (q = 0 → s'.fus.state.posArb = 5 ∧ s'.fus.state.posConf = 96) ∧ (q = 1 → s'.fus.state.hdgArb = 5 ∧ s'.fus.state.hdgConf = 96)
        ∧ quiet s' ∧ s' = { start t s with fus := s'.fus, evr := s'.evr })
    ∧ (m.state ≠ 3 ∨ m.contra ≤ s.fusImg.contraTimeMs → Gives (.flatContradiction t q) s fun s' => s'.arb q = m ∧ s'.fus.refs = s.fus.refs ∧ quiet s' ∧ s' = { start t s with fus := s'.fus })
    ∧ (let avail := (s.refsOf q).filter (fun r => s.refAvail r && (!(s.ref r).suspended || r == m.refA || r == m.refB))
       m.state = 5 → m.refA < 16 → m.refB < 16 → s.fusImg.contraTimeMs < m.agree ∨ (∃ r, r ∈ s.refsOf q ∧ s.refAvail r = true ∧ r ≠ m.refA ∧ r ≠ m.refB) → Gives (.disputeEnd t q) s fun s' =>
        (s'.ref m.refA).suspended = false ∧ (s'.ref m.refB).suspended = false
        ∧ (2 < avail.length → (s'.arb q).state = 4 ∧ (s'.arb q).conf = 255) ∧ (∀ a b, avail = [a, b] → (s'.arb q).state = 3 ∧ (s'.arb q).refA = a ∧ (s'.arb q).refB = b ∧ (s'.arb q).conf = 192)
        ∧ quiet s' ∧ s' = { start t s with fus := s'.fus, evr := s'.evr })
    ∧ (m.state ≠ 5 → Gives (.disputeEnd t q) s fun s' => s'.arb q = m ∧ s'.fus.refs = s.fus.refs ∧ quiet s' ∧ s' = { start t s with fus := s'.fus })
    ∧ (∀ r k, m.state = 4 → m.outTick ≠ some s.tks.tickExt → s.refCfg r = some k → r ∈ s.refsOf q → s.refAvail r = true → s.fusImg.contraTimeMs < (s.ref r).outCnt → s.str.ctxs.length = 256 → (∀ c, c ∈ k.ctxs → c < 256) →
        (∀ p, p ∈ s.refsOf q → p ≠ r → s.refAvail p = true → s.fusImg.contraTimeMs < (s.ref p).outCnt → (s.ref p).d < (s.ref r).d) → Gives (.outlierMask t q) s fun s' =>
          s'.ref r = { s.ref r with outlier := true, outCnt := 0 } ∧ (∀ p, p ≠ r → s'.ref p = s.ref p) ∧ s'.arb q = { m with outTick := some s.tks.tickExt }
          ∧ (∀ c, c ∈ k.ctxs → bitAt (s'.ctx c).mask 0 = true ∧ ∀ i, 0 < i → i < 5 → bitAt (s'.ctx c).mask i = bitAt (s.ctx c).mask i) ∧ (∀ c, c ∉ k.ctxs → s'.ctx c = s.ctx c)
          ∧ quiet s' ∧ s'.str = { s.str with ctxs := s'.str.ctxs } ∧ s' = { start t s with fus := s'.fus, str := s'.str, evr := s'.evr })
    ∧ (m.state ≠ 4 ∨ m.outTick = some s.tks.tickExt ∨ (∀ r, r ∈ s.refsOf q → s.refAvail r = true → (s.ref r).outCnt ≤ s.fusImg.contraTimeMs) → Gives (.outlierMask t q) s fun s' => s' = start t s)

/-- R277 to R279, R282: the close of a scan. Without detections every track of the reference has a miss: its confidence falls, its position is predicted, and it is deleted after 5 misses, below TRK_DROP, or unconfirmed at its 5th scan. A detection with no track of the reference takes the lowest free slot as a tentative track of confidence 64. A confirmed slow track is fixed, and its anchor is set when it first becomes so. SCAN_CLOSE. -/
def Obligations.ScansClose : Prop :=
  ∀ (t r start_ : Nat) (ds : List Detection) (s : State), s.twn.shadow = none → r < 16 → s.fus.scans.length = 16 → s.fus.trks.length = 64 → nth s.fus.scans r none = some (start_, ds) →
    let ms := nth s.fusImg.scanPeriodMs r 1000
    let end_ := start_ + ms * 1000000
    let mine := fun (k : Nat) => (s.trk k).state ≠ 0 ∧ (s.trk k).refNo = r
    let quiet := fun (s' : State) => (∀ j, j ≠ r → nth s'.fus.scans j none = nth s.fus.scans j none) ∧ s'.fus = { s.fus with trks := s'.fus.trks, scans := s'.fus.scans } ∧ s' = { start t s with fus := s'.fus, evr := s'.evr }
    (s.tks.upEdge < end_ → Gives (.scanClose t r) s fun s' => s' = start t s)
    ∧ (end_ ≤ s.tks.upEdge → ds = [] → Gives (.scanClose t r) s fun s' =>
        nth s'.fus.scans r none = some (end_, []) ∧ (∀ k, k < 64 → ¬ mine k → s'.trk k = s.trk k)
        ∧ (∀ k, k < 64 → mine k →
            let x := s.trk k
            let y := missTrack s.fusImg.trkMiss ms x
            let hits := (y.hits.filter (fun b => b)).length
            let gone := 5 ≤ y.missRun ∨ y.conf < s.fusImg.trkDrop ∨ (x.state = 1 ∧ 5 ≤ y.lived ∧ hits < 3)
            let confirmed := 2 ≤ x.state ∨ 3 ≤ hits
            let slow := (x.vn * x.vn + x.ve * x.ve).toNat < s.fusImg.trkFixedSpeed * s.fusImg.trkFixedSpeed
            y.conf = x.conf - s.fusImg.trkMiss ∧ y.missRun = min 5 (x.missRun + 1)
            ∧ (gone → s'.trk k = {})
            ∧ (¬ gone → (s'.trk k).conf = y.conf ∧ (s'.trk k).n = y.n ∧ (s'.trk k).e = y.e ∧ (s'.trk k).missRun = y.missRun ∧ (s'.trk k).vn = x.vn
                ∧ (confirmed → slow → (s'.trk k).state = 3 ∧ (s'.trk k).anchored = true ∧ (x.anchored = true → (s'.trk k).anchorN = x.anchorN ∧ (s'.trk k).anchorE = x.anchorE) ∧ (x.anchored = false → (s'.trk k).anchorN = y.n ∧ (s'.trk k).anchorE = y.e))
                ∧ (confirmed → ¬ slow → (s'.trk k).state = 2 ∧ (s'.trk k).anchored = false) ∧ (¬ confirmed → (s'.trk k).state = x.state ∧ (s'.trk k).anchored = false)))
        ∧ quiet s')
    ∧ (∀ d free, end_ ≤ s.tks.upEdge → ds = [d] → d.inst < (end_ : Int) → (∀ k, k < 64 → ¬ mine k) → free < 64 → (s.trk free).state = 0 → (∀ k, k < free → (s.trk k).state ≠ 0) → s.fusImg.trkDrop ≤ 64 →
        Gives (.scanClose t r) s fun s' =>
          s'.trk free = { state := 1, refNo := r, conf := 64, hits := [true], target := d.target, n := d.posN, e := d.posE, relN := d.relN, relE := d.relE, lived := 1 }
          ∧ (∀ k, k < 64 → k ≠ free → s'.trk k = s.trk k) ∧ nth s'.fus.scans r none = some (end_, []) ∧ quiet s')

/-- R312, R319, R325 to R327, R332, R334, R336: what position control does on its own. A blend of b = 1 is over, and a stop ramp clears the integrals with it; a complete fade of the wind term ends; a dwell that is over moves the target to the next waypoint, or raises TRACK_END on the last; the first moment the joystick is no longer valid leaves a joystick mode for AUTO POSITION when its conditions hold and for STANDBY otherwise. BLEND_END, WIND_FADE_END, WAYPOINT_REACHED, JOYSTICK_INVALID. R272, R273, R336: DR_LIMIT passes. A quantity in DR becomes NONE, and position control leaves a mode that needs it; of a DISPUTE the higher-ranking available reference is reinstated and the other is masked JUDGED, the only available one is reinstated, and with none available the quantity becomes NONE. DR_LIMIT_EXPIRY. -/
def Obligations.ControlAndLimits : Prop :=
  (∀ (t : Nat) (s : State), s.twn.shadow = none →
    let up := s.tks.upEdge + t
    (∀ b, s.pcl.blend = some b → b.len ≤ b.k → Gives (.blendEnd t) s fun s' =>
        s' = { start t s with pcl := { s.pcl with blend := none, integ := if b.stop = true then [0, 0, 0] else s.pcl.integ } })
    ∧ (s.pcl.blend = none ∨ (∃ b, s.pcl.blend = some b ∧ b.k < b.len) → Gives (.blendEnd t) s fun s' => s' = start t s)
    ∧ (∀ f, s.pcl.windFade = some f → f.since + s.ctl.windFadeS * 1000000000 ≤ up → Gives (.windFadeEnd t) s fun s' =>
        s'.pcl.windFade = none ∧ s'.pcl = { s.pcl with windFade := none, w := s'.pcl.w }
        ∧ s'.pcl.w = (if s.pcl.windOn = true then s.windTarget.map sat31 else [0, 0, 0]) ∧ s' = { start t s with pcl := s'.pcl })
    ∧ (s.pcl.windFade = none ∨ (∃ f, s.pcl.windFade = some f ∧ up < f.since + s.ctl.windFadeS * 1000000000) → Gives (.windFadeEnd t) s fun s' => s' = start t s)
    ∧ (∀ w u, s.waypoint = some w → s.pcl.atWp = some u → s.pcl.mode = 4 → s.pcl.trackEnd = false →
        (u + w.dwellS * 1000000000 ≤ up → s.pcl.wp + 1 < s.pcl.track.length → Gives (.waypointReached t) s fun s' =>
            s'.pcl = { s.pcl with wp := s.pcl.wp + 1, prevWp := (w.n, w.e), atWp := none } ∧ s' = { start t s with pcl := s'.pcl, evr := s'.evr })
        ∧ (u + w.dwellS * 1000000000 ≤ up → s.pcl.track.length ≤ s.pcl.wp + 1 → Gives (.waypointReached t) s fun s' =>
            s'.pcl = { s.pcl with trackEnd := true, atWp := none } ∧ s' = { start t s with pcl := s'.pcl, evr := s'.evr })
        ∧ (up < u + w.dwellS * 1000000000 → Gives (.waypointReached t) s fun s' => s' = start t s))
    ∧ (s.pcl.atWp = none ∨ s.pcl.mode ≠ 4 ∨ s.pcl.trackEnd = true → Gives (.waypointReached t) s fun s' => s' = start t s)
    ∧ (s.pcl.joyValid = true → (start t s).joyMissing ≠ 0 → Gives (.joystickInvalid t) s fun s' =>
        s'.pcl.joyValid = false ∧ s'.pcl.joyLost = (start t s).joyMissing
        ∧ (s.pcl.mode ≠ 1 → s.pcl.mode ≠ 2 → s'.pcl = { s.pcl with joyValid := false, joyLost := s'.pcl.joyLost } ∧ s'.dfc = s.dfc)
        ∧ (s.pcl.mode = 1 ∨ s.pcl.mode = 2 → s.autoPositionOk = true → s'.pcl.mode = 3)
        ∧ (s.pcl.mode = 1 ∨ s.pcl.mode = 2 → s.autoPositionOk = false → s'.pcl.mode = 0 ∧ s'.pcl.rm = s.pcl.rm ∧ s'.pcl.preset = [1, 1, 1]
            ∧ s'.pcl.blend = some { from_ := s.pcl.dem.f, axes := 7, stop := true, len := s.ctl.stopRampS * 1000 })
        ∧ s'.pcl = { s.pcl with joyValid := false, joyLost := s'.pcl.joyLost, mode := s'.pcl.mode, entered := s'.pcl.entered, trackEnd := s'.pcl.trackEnd, atWp := s'.pcl.atWp, rm := s'.pcl.rm, preset := s'.pcl.preset, blend := s'.pcl.blend }
        ∧ s' = { start t s with pcl := s'.pcl, dfc := s'.dfc, evr := s'.evr })
    ∧ (s.pcl.joyValid = false ∨ (start t s).joyMissing = 0 → Gives (.joystickInvalid t) s fun s' => s' = start t s))
  ∧ (∀ (t q u : Nat) (s : State), s.twn.shadow = none → q < 2 → s.fus.arb.length = 2 → s.fus.refs.length = 16 → s.str.ctxs.length = 256 → (s.arb q).drSince = some u →
    let m := s.arb q
    let up := s.tks.upEdge + t
    let limit := u + s.fusImg.drLimitS * 1000000000
    let others := fun (s' : State) => (∀ p, p ≠ q → s'.arb p = s.arb p) ∧ s'.fus = { s.fus with refs := s'.fus.refs, arb := s'.fus.arb, state := s'.fus.state }
        ∧ s' = { start t s with fus := s'.fus, str := s'.str, pcl := s'.pcl, dfc := s'.dfc, evr := s'.evr }
    (m.state = 1 → limit ≤ up → Gives (.drLimitExpiry t q) s fun s' =>
        s'.arb q = { m with state := 0, conf := 0 } ∧ s'.fus.refs = s.fus.refs ∧ s'.str = s.str
        ∧ (q = 0 → s'.fus.state.posArb = 0 ∧ s'.fus.state.posConf = 0) ∧ (q = 1 → s'.fus.state.hdgArb = 0 ∧ s'.fus.state.hdgConf = 0)
        ∧ (s.sys.state ≠ .active → s'.pcl = s.pcl ∧ s'.dfc = s.dfc)
        ∧ (s.sys.state = .active → 3 ≤ s.sys.level → q = 0 → 3 ≤ s.pcl.mode → s.pcl.mode ≤ 5 → s'.pcl.entered = true ∧ s'.pcl.mode = if (s.arb 1).state = 0 then 1 else 2)
        ∧ (s.sys.state = .active → 2 ≤ s.sys.level → q = 1 → 2 ≤ s.pcl.mode → s.pcl.mode ≤ 5 → s'.pcl.entered = true ∧ s'.pcl.mode = 1)
        ∧ others s')
    ∧ (m.state = 5 → limit ≤ up → m.refA < 16 → m.refB < 16 → m.refA ≠ m.refB →
        (∀ (x y : Nat), (x = m.refA ∧ y = m.refB) ∨ (x = m.refB ∧ y = m.refA) → s.refAvail x = true →
          (s.refAvail y = true → s.refRank y < s.refRank x → (∀ k, s.refCfg y = some k → ∀ c, c ∈ k.ctxs → c < 256) → Gives (.drLimitExpiry t q) s fun s' =>
              (s'.arb q).state = 2 ∧ (s'.arb q).drSince = none ∧ (s'.ref x).suspended = false ∧ (s'.ref y).suspended = false
              ∧ (∀ k, s.refCfg y = some k → ∀ c, c ∈ k.ctxs → bitAt (s'.ctx c).mask 0 = true) ∧ (∀ r, r ≠ x → r ≠ y → s'.ref r = s.ref r) ∧ others s')
          ∧ (s.refAvail y = false → Gives (.drLimitExpiry t q) s fun s' =>
              (s'.arb q).state = 2 ∧ (s'.arb q).drSince = none ∧ (s'.ref x).suspended = false ∧ (s'.ref y).suspended = false ∧ s'.str = s.str
              ∧ (∀ r, r ≠ x → r ≠ y → s'.ref r = s.ref r) ∧ others s'))
        ∧ (s.refAvail m.refA = false → s.refAvail m.refB = false → Gives (.drLimitExpiry t q) s fun s' =>
              (s'.arb q).state = 0 ∧ (s'.arb q).conf = 0 ∧ (s'.ref m.refA).suspended = false ∧ (s'.ref m.refB).suspended = false ∧ s'.str = s.str ∧ others s'))
    ∧ (up < limit ∨ (m.state ≠ 1 ∧ m.state ≠ 5) → s.sys.state ≠ .active → Gives (.drLimitExpiry t q) s fun s' => s'.arb q = m ∧ s'.fus.refs = s.fus.refs ∧ s'.str = s.str ∧ s'.pcl = s.pcl ∧ s'.dfc = s.dfc ∧ others s'))

/-- R300, R305, R306, R308, R309, R333, R343: the outer loop of a P3 that waits for it. On an axis that runs a loop the integral is updated by KI × e × OUTER_DIV × 1 ms and limited to INT_MAX, or held under R306; in the P3 of a mode entry the preset takes its place. On an axis without a loop the integral stays and the feedback is 0. The demand written is limited to DEM_MAX, and the allocation's delta list is formed from it. OUTER_LOOP. -/
def Obligations.OuterLoopRuns : Prop :=
  ∀ (t : Nat) (s : State), s.twn.shadow = none →
    (s.tks.phase = 3 → s.tks.phaseOpen = true → s.pcl.outerWait = true → Gives (.outerLoop t) s fun s' =>
        (∀ a, a < 3 →
          let i0 := nth s.pcl.integ a 0
          let lim : Int := ((nth s.ctl.intMax a 0 : Nat) : Int)
          let e := nth s.axisErrors a 0
          let ki : Int := ((nth s.ctl.ki a 0 : Nat) : Int)
          let step := if a < 2 then roundAway (ki * e * s.ctl.outerDiv) 1000000 else radProd (ki * s.ctl.outerDiv) e 1000
          (loopAxis s.pcl.mode a = false → nth s'.pcl.integ a 0 = i0 ∧ nth s'.pcl.dLast a 0 = 0)
          ∧ (loopAxis s.pcl.mode a = true → s.pcl.entered = false → s.integralHeld a = true → nth s'.pcl.integ a 0 = sat31 i0 ∧ bitAt s'.pcl.freeze a = true)
          ∧ (loopAxis s.pcl.mode a = true → s.pcl.entered = false → s.integralHeld a = false → nth s'.pcl.integ a 0 = sat31 (clampI (-lim) lim (i0 + step)) ∧ bitAt s'.pcl.freeze a = false)
          ∧ (loopAxis s.pcl.mode a = true → s.pcl.entered = true → nth s.pcl.preset a 0 = 1 → nth s'.pcl.integ a 0 = sat31 i0)
          ∧ (loopAxis s.pcl.mode a = true → s.pcl.entered = true → nth s.pcl.preset a 0 = 3 → nth s'.pcl.integ a 0 = sat31 (clampI (-lim) lim (-(s.biasVessel a) - nth s.pcl.w a 0)))
          ∧ (nth s'.pcl.dem.f a 0).natAbs ≤ nth s.ctl.demMax a 0)
        ∧ s'.pcl.dPrev = (if s.pcl.entered = true then s'.pcl.dLast else s.pcl.dLast) ∧ s'.pcl.lastOuter = s.tks.tickExt
        ∧ s'.pcl.outerWait = false ∧ s'.pcl.outerDue = false ∧ s'.pcl.entered = false ∧ s'.pcl.preset = [0, 0, 0] ∧ s'.pcl.slackSeen = 0
        ∧ s'.pcl.dem.outer = true ∧ s'.pcl.dem.mode = s.pcl.mode ∧ s'.pcl.mode = s.pcl.mode ∧ s'.pcl.rm = s.pcl.rm
        ∧ s'.als = (alsForm (outerRun (start t s))).als ∧ s'.als.record = s.als.record ∧ s'.als.carried = s.als.carried
        ∧ s' = { start t s with pcl := s'.pcl, als := s'.als, evr := s'.evr })
    ∧ (s.tks.phase ≠ 3 ∨ s.tks.phaseOpen = false ∨ s.pcl.outerWait = false → Gives (.outerLoop t) s fun s' => s' = start t s)

/-- R377, R378, R380, R381, R388, R390: the end of the main solve. A solve that is no miss sets the carried set to the rows then active, ends the run of misses, and its record, with the slack as the demand minus the achieved force and every tunnel and fixed thrust within its bounds, is written, or held while the fallback is in use. A solve that reaches ITER_MAX or 618 µs is a miss: the record of the tick before is used again with the new TICK_NO, and the miss is counted. SOLVE_OUTCOME, SOLVE_DEADLINE. -/
def Obligations.SolveEnds : Prop :=
  ∀ (t : Nat) (s : State), s.twn.shadow = none →
    let quiet := fun (s' : State) => s'.als = { s.als with solving := s'.als.solving, reckonerHeld := s'.als.reckonerHeld, endNs := s'.als.endNs, endMax := s'.als.endMax, coldCnt := s'.als.coldCnt, coldMark := s'.als.coldMark, coldNs := s'.als.coldNs, depCnt := s'.als.depCnt, depLog := s'.als.depLog, depMark := s'.als.depMark, ovfCnt := s'.als.ovfCnt, ovfMark := s'.als.ovfMark, clampMark := s'.als.clampMark, missRun := s'.als.missRun, goodRun := s'.als.goodRun, missIter := s'.als.missIter, missDead := s'.als.missDead, carried := s'.als.carried, needCold := s'.als.needCold, record := s'.als.record, held := s'.als.held, caForm := s'.als.caForm, caOld := s'.als.caOld, caSnap := s'.als.caSnap }
        ∧ s'.pcl = { s.pcl with slackSeen := s'.pcl.slackSeen, fbSeen := s'.pcl.fbSeen } ∧ s' = { start t s with als := s'.als, pcl := s'.pcl, evr := s'.evr, draws := s'.draws }
    let missed := fun (outcome : Nat) (s' : State) => s'.als.missRun = s.als.missRun + 1 ∧ s'.als.goodRun = 0 ∧ s'.als.carried = s.als.carried ∧ s'.als.solving = false ∧ s'.als.reckonerHeld = false
        ∧ s'.als.held = s.als.held ∧ s'.als.fallback = s.als.fallback ∧ s'.als.needCold = s.als.needCold ∧ s'.als.record.thrust = s.als.record.thrust ∧ s'.als.record.az = s.als.record.az
        ∧ s'.als.record.ach = s.als.record.ach ∧ s'.als.record.slack = s.als.record.slack ∧ s'.als.record.outcome = outcome
        ∧ (s.als.fallback = false → s'.als.record.tickNo = s.tickNo ∧ (s.als.record.source ≠ 3 → s'.als.record.source = 1))
        ∧ quiet s'
    (s.als.solving = true → t < 618000 → s.tickSolve.cap = false → Gives (.solveOutcome t) s fun s' =>
        s'.als.missRun = 0 ∧ s'.als.goodRun = s.als.goodRun + 1 ∧ s'.als.carried = s.tickSolve.act.map (fun r => r.tag) ∧ s'.als.needCold = false
        ∧ s'.als.solving = false ∧ s'.als.reckonerHeld = false ∧ s'.als.fallback = s.als.fallback ∧ s'.als.endNs = t
        ∧ (∀ r : AlsRec, (s.als.fallback = false ∧ r = s'.als.record) ∨ (s.als.fallback = true ∧ s'.als.held = some r) →
            r.tickNo = s.tickNo ∧ r.source = 0 ∧ r.outcome = (if r.slackBits = 0 then 0 else 1) ∧ r.slackBits = s.slackBits r.slack
            ∧ r.slack = sub3 s.pcl.dem.f r.ach ∧ r.ach = s.achievedOf r.thrust r.az ∧ r.struct_ = s.als.prob.num
            ∧ (∀ i, i < 16 → (s.slot i).kind = .tunnel ∨ (s.slot i).kind = .fixed → nth s.als.prob.lower i 0 ≤ nth s.als.prob.upper i 0 → bitAt (s.structCfg s.als.prob.num).avail i = true →
                ∃ m, nth s.als.prob.lower i 0 ≤ m ∧ m ≤ nth s.als.prob.upper i 0 ∧ nth r.thrust i 0 = roundAway m 1000)
            ∧ (∀ i, i < 16 → (s.slot i).kind = .tunnel → nth r.az i 0 = 0x40000000)
            ∧ (∀ i, i < 16 → bitAt (s.structCfg s.als.prob.num).avail i = false → nth r.thrust i 0 = 0))
        ∧ (s.als.fallback = false → s'.als.held = none)
        ∧ (s.als.fallback = true → s'.als.record = { s.als.record with outcome := s'.als.record.outcome } ∧ s'.als.held.isSome = true)
        ∧ (s.als.caRun = true → s.als.caForm = true → s'.als.caForm = false ∧ s'.als.caSnap.edgeNs = s.tim.latSys) ∧ quiet s')
    ∧ (s.als.solving = true → t < 618000 → s.tickSolve.cap = true → Gives (.solveOutcome t) s (missed 2))
    ∧ (s.als.solving = false ∨ 618000 ≤ t → Gives (.solveOutcome t) s fun s' => s' = start t s)
    ∧ (s.als.solving = true → 618000 ≤ t → Gives (.solveDeadline t) s (missed 3))
    ∧ (s.als.solving = false ∨ t < 618000 → Gives (.solveDeadline t) s fun s' => s' = start t s)

/-- R359, R365, R386, R388, R389: the fallback comes into use after the third consecutive miss or at service level 2, and ends when FALLBACK_EXIT solves in a row have not missed, with the result of the last of them. A load makes its slot READY, and a request not yet begun takes a FREE slot. A power point not good for PWR_HOLD gives way to PWR_DEFAULT. FALLBACK_ON, FALLBACK_OFF, STRUCTURE_LOADED, PWR_HOLD_EXPIRY. -/
def Obligations.FallbackLoadsAndPower : Prop :=
  ∀ (t b : Nat) (s : State),
    let up := s.tks.upEdge + t
    (s.twn.shadow = none → s.als.fallback = false → 3 ≤ s.als.missRun ∨ (s.sys.level = 2 ∧ s.tks.running = true) → Gives (.fallbackOn t) s fun s' =>
        s'.als = { s.als with fallback := true, fbSince := s.tks.tickExt, goodRun := 0, held := none } ∧ s' = { start t s with als := s'.als, evr := s'.evr })
    ∧ (s.twn.shadow = none → s.als.fallback = true ∨ (s.als.missRun < 3 ∧ ¬ (s.sys.level = 2 ∧ s.tks.running = true)) → Gives (.fallbackOn t) s fun s' => s' = start t s)
    ∧ (∀ r, s.twn.shadow = none → s.als.held = some r → s.als.fallback = true → s.alc.fallbackExit ≤ s.als.goodRun → 3 ≤ s.sys.level → Gives (.fallbackOff t) s fun s' =>
        s'.als = { s.als with fallback := false, record := r, held := none } ∧ s' = { start t s with als := s'.als, evr := s'.evr })
    ∧ (s.twn.shadow = none → s.als.held = none ∨ s.als.fallback = false ∨ s.als.goodRun < s.alc.fallbackExit ∨ s.sys.level < 3 → Gives (.fallbackOff t) s fun s' => s' = start t s)
    ∧ (∀ l, s.als.loading = some l → l.slot < s.als.slots.length →
        let done := put s.als.slots l.slot { state := 2, num := l.num, used := s.tks.tickExt }
        (s.als.loadReq = none → Gives (.structureLoaded t) s fun s' => s'.als = { s.als with loading := none, slots := done } ∧ s' = { start t s with als := s'.als, evr := s'.evr })
        ∧ (∀ n j, s.als.loadReq = some n → j < 8 → (nth done j {}).state = 0 → (∀ i, i < j → (nth done i {}).state ≠ 0) → Gives (.structureLoaded t) s fun s' =>
            s'.als = { s.als with loading := some { slot := j, num := n, since := up }, loadReq := none, slots := put done j { state := 1, num := n, used := 0 } } ∧ s' = { start t s with als := s'.als, evr := s'.evr }))
    ∧ (s.als.loading = none → Gives (.structureLoaded t) s fun s' => s' = start t s)
    ∧ (∀ v u, nth s.als.pwrGood b none = some (v, u) → (s.powerGood b).isNone = true → b < 8 →
        (u + s.alc.pwrHoldS * 1000000000 ≤ up → Gives (.pwrHoldExpiry t b) s fun s' =>
            s'.power b = nth s.alc.pwrDefault b 0 ∧ (∀ c, c < 8 → c ≠ b → s'.power c = s.power c) ∧ s'.als = { s.als with pwrOut := s'.als.pwrOut } ∧ s' = { start t s with als := s'.als })
        ∧ (up < u + s.alc.pwrHoldS * 1000000000 → Gives (.pwrHoldExpiry t b) s fun s' => s' = start t s))
    ∧ (nth s.als.pwrGood b none = none ∨ (s.powerGood b).isSome = true → Gives (.pwrHoldExpiry t b) s fun s' => s' = start t s)

/-- R49, R391, R396, R397, R400, R401: consequence analysis. A round begins at an edge of its cadence, or after a late round, in STANDBY and ACTIVE; the next one due while it runs sets LATE. A case that ends gives its group's result, alarm and warning, and the next group follows; the last one ends the round; a case on a structure no longer ACTIVE is written STALE and a new round begins from a snapshot of the tick. The Reckoner is requested for the main solve at 418 µs. CA_ROUND_START, CA_ROUND_LATE, CA_CASE_DONE, RECKONER_REQUEST. -/
def Obligations.ConsequenceRounds : Prop :=
  ∀ (t : Nat) (s : State),
    let due := s.tks.tickExt % s.alc.caPeriodMs = 0 ∨ s.als.caDue = true
    (s.sys.state = .standby ∨ s.sys.state = .active → s.tks.running = true → due → s.als.caRun = false → s.alc.groups ≠ [] → Gives (.caRoundStart t) s fun s' =>
        s'.als = { s.als with caRound := (s.als.caRound + 1) % 65536, caRun := true, caCase := 0, caForm := true, caOld := false, caAgain := 0, caDue := false, caLate := s.als.caDue, caStale := false }
        ∧ s' = { start t s with als := s'.als })
    ∧ ((s.sys.state ≠ .standby ∧ s.sys.state ≠ .active) ∨ s.tks.running = false ∨ ¬ due ∨ s.als.caRun = true ∨ s.alc.groups = [] → Gives (.caRoundStart t) s fun s' => s' = start t s)
    ∧ (s.als.caRun = true → s.tks.tickExt % s.alc.caPeriodMs = 0 → s.als.caDue = false → Gives (.caRoundLate t) s fun s' =>
        s'.als = { s.als with caDue := true, caLate := true } ∧ s' = { start t s with als := s'.als, evr := s'.evr })
    ∧ (s.als.caRun = false ∨ s.tks.tickExt % s.alc.caPeriodMs ≠ 0 ∨ s.als.caDue = true → Gives (.caRoundLate t) s fun s' => s' = start t s)
    ∧ (s.als.caRun = true → s.als.caForm = false → s.als.solving = false → s.als.reckonerHeld = false → s.works 12 = true → s.als.caCase < 32 → s.als.caRes.length = 32 → Gives (.caCaseDone t) s fun s' =>
        let g := s.als.caCase
        let r := nth s'.als.caRes g {}
        r = s.caseResult s.als.caSnap g s.als.caOld ∧ (∀ h, h ≠ g → nth s'.als.caRes h {} = nth s.als.caRes h {})
        ∧ r.alarm = (r.slack != 0 || r.state == 1) ∧ r.warn = decide (s.alc.caUtilWarn < r.util) ∧ (r.state = 2 → s.als.caOld = true) ∧ (r.state = 1 → r.m = [0, 0, 0])
        ∧ (s.als.caOld = false → s.als.caAgain = 0 → g + 1 < s.alc.groups.length → s'.als = { s.als with caRes := s'.als.caRes, caCase := g + 1 })
        ∧ (s.als.caOld = false → s.als.caAgain = 0 → s.alc.groups.length ≤ g + 1 → s'.als = { s.als with caRes := s'.als.caRes, caRun := false, caCase := 0 })
        ∧ (s.als.caOld = true ∨ s.als.caAgain ≠ 0 → s'.als.caRun = true ∧ s'.als.caCase = 0 ∧ s'.als.caRound = (s.als.caRound + 1) % 65536 ∧ s'.als.caOld = false ∧ s'.als.caAgain = 0 ∧ s'.als.caStale = (s.als.caStale || s.als.caOld)
            ∧ s'.als.caSnap.edgeNs = s.tim.latSys ∧ s'.als.record = s.als.record)
        ∧ s'.str = { s.str with inbox := s'.str.inbox } ∧ s' = { start t s with als := s'.als, pim := s'.pim, str := s'.str, evr := s'.evr })
    ∧ (s.als.caRun = false ∨ s.als.caForm = true ∨ s.als.solving = true ∨ s.als.reckonerHeld = true ∨ s.works 12 = false → Gives (.caCaseDone t) s fun s' => s' = start t s)
    ∧ (s.tks.running = true → s.works 12 = true → 418000 ≤ t → t < 620000 → s.als.reckonerHeld = false → Gives (.reckonerRequest t) s fun s' =>
        s'.als = { s.als with reckonerHeld := true } ∧ s'.tks = { s.tks with sinceEdge := t, reckoner := true } ∧ s' = { start t s with als := s'.als, tks := s'.tks })
    ∧ (s.tks.running = false ∨ s.works 12 = false ∨ t < 418000 ∨ 620000 ≤ t ∨ s.als.reckonerHeld = true → Gives (.reckonerRequest t) s fun s' => s' = start t s)

/-- R409, R412, R413, R415, R416, R418, R430: an accepted edge of a working channel. One edge of A or B in QUAD, or a rising A in PULSE_DIR, is one count in the direction d; it is STARTING after STANDSTILL, TURN when its direction differs from the edge before, HOLD after a TURN in the same direction, RUN otherwise; DIR changes only at the second consecutive edge of a direction; every pulse-division pair of the channel adds or subtracts N. Edges of A and B together count nothing but QERR. A qualified index edge latches COUNT, or sets it to INDEX_VAL. STILL_TIME without an edge is STANDSTILL. ENCODER_EDGE, ENCODER_INDEX, STANDSTILL. R420 to R423: an SSI frame begins SSI_OFFSET after the edge of a tick of its cadence. A frame in error leaves COUNT and SPEED and is counted; the third in a row puts the channel in FAULT. A good frame advances COUNT by the signed difference of the words, the first one sets it, a second change against DIR in succession changes DIR, and the sixteenth in a row ends FAULT. SSI_FRAME_START, SSI_FRAME_DONE. -/
def Obligations.EncodersAndSsi : Prop :=
  (∀ (t n : Nat) (a b : Bool) (s : State), s.srv.encs.length = 16 → s.srv.pdivs.length = 4 →
    let up := s.tks.upEdge + t
    let k := s.encCfg n
    let c := s.enc n
    let only := fun (s' : State) => (∀ m, m ≠ n → s'.enc m = s.enc m) ∧ s'.srv = { s.srv with encs := s'.srv.encs, pdivs := s'.srv.pdivs } ∧ s' = { start t s with srv := s'.srv, evr := s'.evr }
    (s.encOn n = true →
      (∀ d, (k.mode = .quad ∧ ((a ≠ c.a ∧ b = c.b ∧ d = ((a != b) != k.invert)) ∨ (a = c.a ∧ b ≠ c.b ∧ d = ((b == a) != k.invert)))) ∨ (k.mode = .pulseDir ∧ a = true ∧ c.a = false ∧ d = (b != k.invert)) →
        Gives (.encoderEdge t n a b) s fun s' =>
          let e := s'.enc n
          let first := c.standstill = true ∨ c.lastUp = none
          e.count = c.count + (if d = true then 1 else -1) ∧ e.a = a ∧ e.b = b ∧ e.lastDir = d ∧ e.lastUp = some (up / 10 * 10) ∧ e.standstill = false
          ∧ (first → e.lastClass = 1 ∧ e.starting = true) ∧ (¬ first → d ≠ c.lastDir → e.lastClass = 2 ∧ e.starting = false)
          ∧ (¬ first → d = c.lastDir → c.lastClass = 2 → e.lastClass = 3 ∧ e.starting = c.starting) ∧ (¬ first → d = c.lastDir → c.lastClass ≠ 2 → e.lastClass = 0 ∧ e.starting = false ∧ e.runV = c.runV + 1)
          ∧ e.dir = (if c.lastUp.isSome = true ∧ d = c.lastDir then d else c.dir)
          ∧ e = { c with a := e.a, b := e.b, count := e.count, dir := e.dir, standstill := e.standstill, starting := e.starting, lastClass := e.lastClass, lastDir := e.lastDir, lastUp := e.lastUp, runV := e.runV, openUp := e.openUp, edgeSeen := e.edgeSeen }
          ∧ (∀ p, p < 4 →
              let x := nth s.srv.pdivs p {}
              let x' := nth s'.srv.pdivs p {}
              let sum := x.acc + (if d = true then 1 else -1) * ((s.pdivCfg p).n : Int)
              (s.claimed (.pdiv p) = true → (s.pdivCfg p).src = some n → x'.acc = sum.tmod (s.pdivCfg p).m ∧ x'.owed = clampI (-65535) 65535 (x.owed + sum.tdiv (s.pdivCfg p).m) ∧ x'.phase = x.phase)
              ∧ (s.claimed (.pdiv p) = false ∨ (s.pdivCfg p).src ≠ some n → x' = x))
          ∧ only s')
      ∧ (k.mode = .quad → a ≠ c.a → b ≠ c.b → Gives (.encoderEdge t n a b) s fun s' =>
          let e := s'.enc n
          e = { c with a := a, b := b, qerr := satAdd c.qerr 1 65535, qerrLog := e.qerrLog, qerrMark := e.qerrMark } ∧ s'.srv.pdivs = s.srv.pdivs ∧ only s')
      ∧ ((k.mode = .quad ∧ a = c.a ∧ b = c.b) ∨ (k.mode = .pulseDir ∧ (a = false ∨ c.a = true)) → Gives (.encoderEdge t n a b) s fun s' =>
          s'.enc n = { c with a := a, b := b } ∧ s'.srv.pdivs = s.srv.pdivs ∧ only s')
      ∧ (k.mode ≠ .ssi → k.indexMode ≠ .none → (k.zGate = true → c.a = true ∧ c.b = true) → Gives (.encoderIndex t n) s fun s' =>
          let reset := k.indexMode = .resetEvery ∨ (k.indexMode = .resetFirst ∧ c.indexed = false)
          s'.enc n = { c with indexPos := c.count, indexed := true, count := if reset then k.indexVal else c.count } ∧ s'.srv.pdivs = s.srv.pdivs ∧ only s')
      ∧ (c.standstill = false → (if k.mode = .ssi then c.openUp else c.lastUp.getD c.openUp) + k.stillMs * 1000000 ≤ up → Gives (.standstill t n) s fun s' => s'.enc n = { c with standstill := true } ∧ s'.srv.pdivs = s.srv.pdivs ∧ only s')
      ∧ (c.standstill = true ∨ up < (if k.mode = .ssi then c.openUp else c.lastUp.getD c.openUp) + k.stillMs * 1000000 → Gives (.standstill t n) s fun s' => s' = start t s)
      ∧ (k.indexMode = .none ∨ (k.zGate = true ∧ (c.a = false ∨ c.b = false)) → Gives (.encoderIndex t n) s fun s' => s' = start t s))
    ∧ (s.encOn n = false ∨ k.mode = .ssi → Gives (.encoderEdge t n a b) s (fun s' => s' = start t s) ∧ Gives (.encoderIndex t n) s fun s' => s' = start t s)
    ∧ (s.encOn n = false → Gives (.standstill t n) s fun s' => s' = start t s))
  ∧ (∀ (t n : Nat) (raw : Word) (idleHigh finalLow : Bool) (s : State), s.srv.encs.length = 16 →
    let up := s.tks.upEdge + t
    let k := s.encCfg n
    let c := s.enc n
    let only := fun (s' : State) => (∀ m, m ≠ n → s'.enc m = s.enc m) ∧ s'.srv = { s.srv with encs := s'.srv.encs, pdivs := s'.srv.pdivs }
    let bad := k.ssiCheck = true ∧ (idleHigh = false ∨ finalLow = false)
    s.encOn n = true → k.mode = .ssi →
    (s.tks.running = true → s.tickNo % k.ssiDiv = 0 → k.ssiOffsetUs * 1000 ≤ t → c.ssiBusy = none → Gives (.ssiFrameStart t n) s fun s' =>
        s'.enc n = { c with ssiBusy := some (up / 10 * 10) } ∧ s'.out = [.ssiFrame n] ∧ s'.srv.pdivs = s.srv.pdivs ∧ only s' ∧ s' = { start t s with srv := s'.srv, out := s'.out })
    ∧ (s.tks.running = false ∨ s.tickNo % k.ssiDiv ≠ 0 ∨ t < k.ssiOffsetUs * 1000 ∨ c.ssiBusy ≠ none → Gives (.ssiFrameStart t n) s fun s' => s' = start t s)
    ∧ (∀ u, c.ssiBusy = some u →
        (up < u + (k.ssiBits + 1) * 1000000 / k.ssiRateKHz → Gives (.ssiFrameDone t n raw idleHigh finalLow) s fun s' => s' = start t s)
        ∧ (u + (k.ssiBits + 1) * 1000000 / k.ssiRateKHz ≤ up → bad → Gives (.ssiFrameDone t n raw idleHigh finalLow) s fun s' =>
            let e := s'.enc n
            e.count = c.count ∧ e.speed = c.speed ∧ e.dir = c.dir ∧ e.ssiBusy = none ∧ e.qerr = satAdd c.qerr 1 65535 ∧ e.ssiErrRun = c.ssiErrRun + 1 ∧ e.ssiGoodRun = 0 ∧ e.fault = (c.fault || decide (3 ≤ c.ssiErrRun + 1))
            ∧ s'.srv.pdivs = s.srv.pdivs ∧ only s' ∧ s' = { start t s with srv := s'.srv, evr := s'.evr })
        ∧ (u + (k.ssiBits + 1) * 1000000 / k.ssiRateKHz ≤ up → ¬ bad → Gives (.ssiFrameDone t n raw idleHigh finalLow) s fun s' =>
            let e := s'.enc n
            let w := ssiWord k raw.toNat
            let d : Int := match c.ssiWord with | some o => wordDiff (k.ssiBits - k.ssiShift) w o | none => 0
            let against := d ≠ 0 ∧ decide (0 < d) ≠ c.dir
            e.ssiBusy = none ∧ e.ssiErrRun = 0 ∧ e.ssiGoodRun = c.ssiGoodRun + 1 ∧ e.ssiWord = some w ∧ e.lastUp = some (u + k.ssiDelayUs * 1000) ∧ e.qerr = c.qerr
            ∧ (c.ssiWord = none → e.count = wordN w) ∧ (c.ssiWord ≠ none → e.count = c.count + wordI d)
            ∧ e.dir = (if against ∧ 1 ≤ c.ssiOpp then decide (0 < d) else c.dir) ∧ e.ssiOpp = (if against ∧ c.ssiOpp = 0 then 1 else 0)
            ∧ (against → e.speed = 0) ∧ (∀ o, ¬ against → c.lastUp = some o → o < u + k.ssiDelayUs * 1000 → e.speed = sat31 (roundAway (d * 256000000000) (u + k.ssiDelayUs * 1000 - o)))
            ∧ (d = 0 → e.standstill = c.standstill) ∧ (d ≠ 0 → e.standstill = false) ∧ e.fault = (c.fault && decide (c.ssiGoodRun + 1 < 16))
            ∧ (d = 0 → s'.srv.pdivs = s.srv.pdivs) ∧ only s' ∧ s' = { start t s with srv := s'.srv, evr := s'.evr }))
    ∧ (c.ssiBusy = none → Gives (.ssiFrameDone t n raw idleHigh finalLow) s fun s' => s' = start t s))

/-- R113, R115, R427, R431, R437, R439, R445, R446: the happenings of the servo side. An axis whose feedback is lost gives output 0 with its integral cleared; an azimuth error above AZ_FOLLOW for AZ_FOLLOW_TIME sets FOLLOW; a PWM period takes the newest duty and leaves the part only through an open gate; an owed step is emitted no sooner than PDIV_RATE allows; a selected edge of EVT_IN is captured, or lost when 16 are held, and a linked channel copies its state. FEEDBACK_LOST, AZ_FOLLOW, PWM_PERIOD_START, PDIV_STEP, EVT_IN_CAPTURE. -/
def Obligations.ServoHappenings : Prop :=
  ∀ (t x : Nat) (fall : Bool) (s : State), s.srv.axes.length = 32 → s.srv.pwms.length = 16 → s.srv.pdivs.length = 4 → s.srv.encs.length = 16 → s.tim.evt.length = 8 →
    let up := s.tks.upEdge + t
    let ax := s.axis x
    let p := nth s.srv.pdivs x {}
    let pk := s.pdivCfg x
    (x < 32 → s.axisUsed x = true → s.tks.running = true → ((start t s).feedbackOf x).2 ≠ none → ax.fbLost = false → Gives (.feedbackLost t x) s fun s' =>
        s'.axis x = { ax with fbLost := true, integ := 0, out := 0 } ∧ (∀ y, y ≠ x → s'.axis y = s.axis y) ∧ s'.srv = { s.srv with axes := s'.srv.axes } ∧ s' = { start t s with srv := s'.srv, evr := s'.evr })
    ∧ (s.axisUsed x = false ∨ s.tks.running = false ∨ ((start t s).feedbackOf x).2 = none ∨ ax.fbLost = true → Gives (.feedbackLost t x) s fun s' => s' = start t s)
    ∧ (∀ u, x < 32 → s.axisUsed x = true → x % 2 = 0 → ax.follow = false → ax.aboveSince = some u →
        (u + (s.axisCfg x).azFollowMs * 1000000 ≤ up → Gives (.azFollow t x) s fun s' =>
          s'.axis x = { ax with follow := true } ∧ (∀ y, y ≠ x → s'.axis y = s.axis y) ∧ s'.srv = { s.srv with axes := s'.srv.axes } ∧ s' = { start t s with srv := s'.srv, evr := s'.evr })
        ∧ (up < u + (s.axisCfg x).azFollowMs * 1000000 → Gives (.azFollow t x) s fun s' => s' = start t s))
    ∧ (ax.aboveSince = none ∨ ax.follow = true → Gives (.azFollow t x) s fun s' => s' = start t s)
    ∧ (x < 16 → s.claimed (.pwm x) = true → (nth s.image.servo.pwms x {}).axis.isSome = true → s.domOk 10 = true → Gives (.pwmPeriodStart t x) s fun s' =>
        let q := nth s.srv.pwms x {}
        nth s'.srv.pwms x {} = { q with cur := q.next } ∧ (∀ y, y ≠ x → nth s'.srv.pwms y {} = nth s.srv.pwms y {}) ∧ s'.srv = { s.srv with pwms := s'.srv.pwms }
        ∧ s'.out = (if bitAt s.saf.gatePwm x = true then [.pwmPeriod x q.next (pwmPeriodNs (nth s.image.servo.pwms x {}))] else []) ∧ s' = { start t s with srv := s'.srv, out := s'.out })
    ∧ (s.claimed (.pwm x) = false ∨ (nth s.image.servo.pwms x {}).axis = none ∨ s.domOk 10 = false → Gives (.pwmPeriodStart t x) s fun s' => s' = start t s)
    ∧ (x < 4 → p.owed ≠ 0 → (∀ u, p.lastUp = some u → u + 1000000000 / pk.rate ≤ up) → s.claimed (.pdiv x) = true → s.domOk 10 = true → bitAt s.saf.gatePdiv x = true → Gives (.pdivStep t x) s fun s' =>
        let p' := nth s'.srv.pdivs x {}
        p' = { p with owed := (if 0 < p.owed then p.owed - 1 else p.owed + 1), phase := ((if 0 < p.owed then p.phase + 1 else p.phase + 3) % 4), lastUp := some up }
        ∧ s'.out = [.pdivStep x p'.phase] ∧ (∀ y, y ≠ x → nth s'.srv.pdivs y {} = nth s.srv.pdivs y {}) ∧ s'.srv = { s.srv with pdivs := s'.srv.pdivs } ∧ s' = { start t s with srv := s'.srv, out := s'.out })
    ∧ (p.owed = 0 ∨ (∃ u, p.lastUp = some u ∧ up < u + 1000000000 / pk.rate) ∨ s.claimed (.pdiv x) = false ∨ s.domOk 10 = false → Gives (.pdivStep t x) s fun s' => s' = start t s)
    ∧ (let e := nth s.tim.evt x {}
       let wanted := nth s.image.time.evtEdge x .rise = .both ∨ (nth s.image.time.evtEdge x .rise = .rise ∧ fall = false) ∨ (nth s.image.time.evtEdge x .rise = .fall ∧ fall = true)
       let frame := fun (s' : State) => (∀ y, y ≠ x → nth s'.tim.evt y {} = nth s.tim.evt y {}) ∧ s'.tim = { s.tim with evt := s'.tim.evt } ∧ s'.srv = { s.srv with encs := s'.srv.encs } ∧ s' = { start t s with tim := s'.tim, srv := s'.srv, evr := s'.evr }
       (x < 8 → s.claimed .evtIn = true → wanted → 10 ≤ s.boot.step →
          (e.held.length < 16 → Gives (.evtInCapture t x fall) s fun s' =>
            let e' := nth s'.tim.evt x {}
            e' = { e with count := (e.count + 1) % 65536, lastSs := e'.lastSs, lastSec := e'.lastSec, lastFall := fall, lastStepped := e'.lastStepped, held := e'.held } ∧ e'.lastSs = shortStamp ((s.tim.latSys + t) / 4 * 4) ∧ e'.held.length = e.held.length + 1 ∧ frame s')
          ∧ (16 ≤ e.held.length → Gives (.evtInCapture t x fall) s fun s' =>
            let e' := nth s'.tim.evt x {}
            e' = { e with lost := satAdd e.lost 1 65535, lostLog := e'.lostLog, ovfMark := e'.ovfMark } ∧ frame s')
          ∧ Gives (.evtInCapture t x fall) s fun s' => ∀ n, n < 16 →
            (s.encOn n = true → (s.encCfg n).evtSel = some x → (s.enc n).caps.length < 4 → ∃ k, (s'.enc n).caps = (s.enc n).caps ++ [k] ∧ k.count = (s.enc n).count ∧ k.speed = (s.enc n).speed ∧ k.stamp = shortStamp ((s.tim.latSys + t) / 4 * 4))
            ∧ (s.encOn n = true → (s.encCfg n).evtSel = some x → 4 ≤ (s.enc n).caps.length → (s'.enc n).caps = (s.enc n).caps ∧ (s'.enc n).capLost = satAdd (s.enc n).capLost 1 255)
            ∧ (s.encOn n = false ∨ (s.encCfg n).evtSel ≠ some x → s'.enc n = s.enc n))
       ∧ (8 ≤ x ∨ s.claimed .evtIn = false ∨ ¬ wanted ∨ s.boot.step < 10 → Gives (.evtInCapture t x fall) s fun s' => s' = start t s))

/-- R466 to R472, R478, R479: the end of a transmission, a lost arbitration, and an error. A sent frame leaves the queue with TX_DONE, or CANCEL_LATE, the transmit error counter falls by 1, and the frame in its staging enters the buffer with its counts at 0. A frame that loses arbitration is offered again up to ARB_RETRY times. An error raises the transmit error counter by 8 and counts its kind; a frame cancelled before is not attempted again, a frame whose retries are spent is cancelled with cause RETRY unless it is to be re-queued, and a frame with another in its staging is superseded. TX_DONE, ARBITRATION_LOST, TX_ERROR. R469 to R471, R474, R475, R477: a cancellation before the frame has won arbitration takes the frame out, a later one lets it complete; a frame whose TTL has run out is discarded at the tick edge and counted; the traffic of a failed controller moves to its partner with its counts at 0, and returns after FAILBACK_TICKS complete ticks. The re-queue is stated of the operation with which other commands end. MBC_TX_CANCEL, TX_EXPIRED, FAILBACK. -/
def Obligations.FramesQueuedAndSent : Prop :=
  (∀ (t n : Nat) (k : CanError) (exempt : Bool) (s : State), s.mbcs.length = 8 → n < 8 →
    let m := s.mbc n
    let others := fun (f : CanTx) => m.txq.filter (fun g => !(g.entry == f.entry && g.home == f.home))
    let mark := fun (f : CanTx) (u : State) => nth (u.mbc f.home).bufs f.buf {}
    let closing := bitAt s.saf.mbcClosing n
    let only := fun (f : CanTx) (u : State) => (∀ c, c ≠ n → u.mbc c = { s.mbc c with bufs := (u.mbc c).bufs })
      ∧ (∀ c b, c ≠ f.home ∨ b ≠ f.buf → nth (u.mbc c).bufs b {} = nth (s.mbc c).bufs b {})
      ∧ u.saf = (if closing = true then { s.saf with gateMbc := setBit s.saf.gateMbc n false, mbcClosing := setBit s.saf.mbcClosing n false } else s.saf)
    (∀ f, m.current = some f → s.mbcSends n = true → f.home < 8 → f.buf < (s.mbc f.home).bufs.length →
      (Gives (.txDone t n) s fun s' => ∃ u, s' = failovers u ∧
        let e := u.mbc n
        e.sent = (m.sent + 1) % 65536 ∧ e.tec = m.tec - 1 ∧ e.wire = none ∧ e.txq = others f ++ f.nextUp ∧ e.errState = errStateOf (m.tec - 1) m.rec_
        ∧ (m.errState < 2 → e.errState < 2 → e.goodSince = m.goodSince) ∧ (2 ≤ m.errState → e.errState < 2 → e.goodSince = some s.tks.tickExt)
        ∧ e = { m with sent := e.sent, tec := e.tec, wire := e.wire, txq := e.txq, errState := e.errState, goodSince := e.goodSince, busOffUp := e.busOffUp, recovering := e.recovering, bufs := e.bufs }
        ∧ (mark f u).outcome = (if f.cancel = true then 2 else 1) ∧ (f.staged = none → (mark f u).arbLost = f.arbLost ∧ (mark f u).errs = f.errs)
        ∧ (f.staged ≠ none → (mark f u).arbLost = 0 ∧ (mark f u).errs = 0)
        ∧ u.out = [.canFrame n f.frame] ∧ only f u ∧ u = { start t s with mbcs := u.mbcs, saf := u.saf, evr := u.evr, out := u.out })
      ∧ (Gives (.txError t n k exempt) s fun s' => ∃ u, s' = failovers u ∧
        let e := u.mbc n
        let spent := (s.entry f.entry).errRetry < f.errs + 1 ∧ ¬ ((s.entry f.entry).failover = true ∧ 2 ≤ e.errState ∧ e.errState ≠ m.errState)
        e.tec = (if exempt = true ∨ m.mode ≠ 2 then m.tec else min 256 (m.tec + 8)) ∧ e.errState = errStateOf e.tec m.rec_ ∧ e.wire = none
        ∧ e.errBit = (if k = .bit then satAdd m.errBit 1 255 else m.errBit) ∧ e.errStuff = (if k = .stuff then satAdd m.errStuff 1 255 else m.errStuff)
        ∧ e.errCrc = (if k = .crc then satAdd m.errCrc 1 255 else m.errCrc) ∧ e.errForm = (if k = .formAck then satAdd m.errForm 1 255 else m.errForm)
        ∧ (e.errState = 3 → e.busOffUp = s.tks.upEdge + t ∧ ((s.mbcCfg n).auto = true → e.recovering = some (s.tks.upEdge + t)) ∧ ((s.mbcCfg n).auto = false → e.recovering = m.recovering))
        ∧ e = { m with tec := e.tec, wire := e.wire, txq := e.txq, errState := e.errState, goodSince := e.goodSince, busOffUp := e.busOffUp, recovering := e.recovering, cancelled := e.cancelled, errBit := e.errBit, errStuff := e.errStuff, errCrc := e.errCrc, errForm := e.errForm, bufs := e.bufs }
        ∧ (f.cancel = true ∨ spent ∨ f.staged ≠ none → e.txq = others f ++ f.nextUp ∧ e.cancelled = (m.cancelled + 1) % 65536 ∧ (mark f u).outcome = (if f.cancel = true then 3 else if spent then 6 else 7))
        ∧ (f.cancel = false → ¬ spent → f.staged = none →
            e.txq = m.txq.map (fun g => if g.entry == f.entry && g.home == f.home then { g with errs := g.errs + 1 } else g) ∧ e.cancelled = m.cancelled
            ∧ mark f u = { mark f s with arbLost := f.arbLost, errs := f.errs + 1 })
        ∧ only f u ∧ u.twn = { s.twn with sighting := u.twn.sighting } ∧ u = { start t s with mbcs := u.mbcs, saf := u.saf, evr := u.evr, twn := u.twn }))
    ∧ (∀ f, headTx m.txq = some f → s.mbcSends n = true → m.mode = 2 → f.home < 8 → f.buf < (s.mbc f.home).bufs.length → Gives (.arbitrationLost t n) s fun s' =>
        let e := s'.mbc n
        let retry := (s.entry f.entry).arbRetry
        (255 ≤ retry ∨ f.arbLost + 1 ≤ retry → e = { m with wire := none, txq := m.txq.map (fun g => if g.entry == f.entry && g.home == f.home then { g with arbLost := g.arbLost + 1 } else g), bufs := e.bufs }
            ∧ mark f s' = { mark f s with arbLost := f.arbLost + 1, errs := f.errs })
        ∧ (retry < 255 → retry < f.arbLost + 1 → e = { m with wire := none, txq := others f, cancelled := (m.cancelled + 1) % 65536, bufs := e.bufs } ∧ (mark f s').outcome = 6)
        ∧ only f s' ∧ s' = { start t s with mbcs := s'.mbcs, saf := s'.saf, evr := s'.evr })
    ∧ (m.current = none ∨ s.mbcSends n = false → Gives (.txDone t n) s (fun s' => s' = start t s) ∧ Gives (.txError t n k exempt) s fun s' => s' = start t s)
    ∧ (m.txq = [] ∨ s.mbcSends n = false ∨ m.mode ≠ 2 → Gives (.arbitrationLost t n) s fun s' => s' = start t s))
  ∧ (∀ (t n : Nat) (v : Word) (won : Bool) (s : State), s.mbcs.length = 8 → n < 8 →
    let m := s.mbc n
    let only := fun (s' : State) => s' = { start t s with mbcs := s'.mbcs, evr := s'.evr }
    let held := fun (c : Nat) => (s.mbc c).txq.find? (fun f => f.home == n && f.buf == fieldOf v 0 6)
    let isKey := fun (f g : CanTx) => g.entry == f.entry && g.home == f.home
    (∀ c f, (c = n ∧ held n = some f) ∨ (held n = none ∧ s.partner n = some c ∧ held c = some f) →
      let q := s.mbc c
      let late := q.wire = some f.entry ∨ (won = true ∧ ∃ g, q.current = some g ∧ g.entry = f.entry)
      (late → Gives (.mbcTxCancel t n v won) s fun s' =>
        s'.mbc c = { q with wire := some f.entry, txq := q.txq.map (fun g => if isKey f g then { g with cancel := true } else g) } ∧ (∀ d, d ≠ c → s'.mbc d = s.mbc d) ∧ only s')
      ∧ (¬ late → Gives (.mbcTxCancel t n v won) s fun s' =>
        s'.mbc c = { q with cancelled := (q.cancelled + 1) % 65536, txq := q.txq.filter (fun g => !isKey f g), bufs := (s'.mbc c).bufs }
        ∧ (f.buf < (s.mbc n).bufs.length → (nth (s'.mbc n).bufs f.buf {}).outcome = 3) ∧ (∀ d b, d ≠ n ∨ b ≠ f.buf → nth (s'.mbc d).bufs b {} = nth (s.mbc d).bufs b {})
        ∧ (∀ d, d ≠ c → s'.mbc d = { s.mbc d with bufs := (s'.mbc d).bufs }) ∧ only s'))
    ∧ (held n = none → (∀ c, s.partner n = some c → held c = none) → Gives (.mbcTxCancel t n v won) s fun s' => s' = start t s)
    ∧ (let gone := m.txq.filter (fun f => decide (f.expire ≤ s.tks.tickExt) && m.wire != some f.entry)
       (gone = [] → Gives (.txExpired t n) s fun s' => s' = start t s)
       ∧ (gone ≠ [] → Gives (.txExpired t n) s fun s' =>
           let e := s'.mbc n
           e = { m with expired := (m.expired + gone.length) % 65536, txq := m.txq.filter (fun g => !gone.any (fun f => isKey f g)), expMark := e.expMark, bufs := e.bufs }
           ∧ (∀ f, f ∈ gone → f.home < 8 → f.buf < (s.mbc f.home).bufs.length → (nth (s'.mbc f.home).bufs f.buf {}).outcome = 4)
           ∧ (∀ d, d ≠ n → s'.mbc d = { s.mbc d with bufs := (s'.mbc d).bufs }) ∧ only s'))
    ∧ (∀ t0 g, m.failedOver = some t0 → m.goodSince = some g →
        (m.errState < 2 → g + 1 + (s.mbcCfg n).failbackTicks ≤ s.tks.tickExt → phaseStart 5 ≤ t → Gives (.failback t n) s fun s' => s'.mbc n = { m with failedOver := none } ∧ (∀ d, d ≠ n → s'.mbc d = s.mbc d) ∧ only s')
        ∧ (2 ≤ m.errState ∨ s.tks.tickExt < g + 1 + (s.mbcCfg n).failbackTicks ∨ t < phaseStart 5 → Gives (.failback t n) s fun s' => s' = start t s))
    ∧ (m.failedOver = none ∨ m.goodSince = none → Gives (.failback t n) s fun s' => s' = start t s)
    ∧ (let moves := fun (c p : Nat) => s.partner c = some p ∧ c < 8 ∧ bitAt s.image.bus.mbcEn c = true ∧ s.sys.state = .active ∧ 2 ≤ (s.mbc c).errState ∧ (s.mbc p).errState < 2
         ∧ s.txEntries.any (fun e => (s.entry e).mbc == c && (s.entry e).failover) = true
       let goes := fun (c : Nat) (f : CanTx) => f.home == c && (s.entry f.entry).failover && !((s.mbc c).wire == some f.entry)
       let s' := failovers s
       (∀ c p, moves c p →
          let l := (s.mbc c).txq.filter (goes c)
          s'.mbc c = { s.mbc c with txq := (s.mbc c).txq.filter (fun f => !goes c f), moved := ((s.mbc c).moved + l.length) % 65536, failedOver := some ((s.mbc c).failedOver.getD s.tks.tickExt), bufs := (s'.mbc c).bufs }
          ∧ (∀ f, f ∈ l → f.buf < (s.mbc c).bufs.length → (nth (s'.mbc c).bufs f.buf {}).outcome = 5)
          ∧ s'.mbc p = { s.mbc p with txq := (s.mbc p).txq ++ l.map (fun f => { f with arbLost := 0, errs := 0 }), freshIn := (s.mbc p).freshIn + l.length })
       ∧ (∀ c, (∀ p, ¬ moves c p ∧ ¬ moves p c) → s'.mbc c = s.mbc c) ∧ s' = { s with mbcs := s'.mbcs, evr := s'.evr }))

/-- R454, R472, R473, R492 to R494: recovery from bus-off, receive errors, the end of integration, and waking. A bus-off controller that has counted 128 times 11 recessive bits is error active with both counters at 0; with RECOVERY MANUAL the count begins at the request. An error while receiving raises the receive error counter. After integration the controller takes the mode of the device state. A dominant level of WAKE_FILT, or a classical frame that matches, wakes a sleeping controller. BUS_RECOVERED, MBC_RECOVER, RX_ERROR, INTEGRATION_DONE, WAKE_EDGE, WAKE_FRAME. -/
def Obligations.ControllersRecoverAndWake : Prop :=
  ∀ (t n ns : Nat) (v : Word) (k : CanError) (by8 : Bool) (f : CanFrame) (s : State), s.mbcs.length = 8 → n < 8 →
    let up := s.tks.upEdge + t
    let m := s.mbc n
    let cfg := s.mbcCfg n
    let others := fun (s' : State) => ∀ d, d ≠ n → s'.mbc d = s.mbc d
    let only := fun (s' : State) => s' = { start t s with mbcs := s'.mbcs, evr := s'.evr }
    (∀ u, m.recovering = some u →
        (m.errState = 3 → s.domOk 9 = true → 1408 * (cfg.nomBrp * (1 + cfg.nomTseg1 + cfg.nomTseg2)) * 1000 ≤ (up - u) * 80 → Gives (.busRecovered t n) s fun s' => ∃ w, s' = failovers w ∧
          w.mbc n = { m with tec := 0, rec_ := 0, errState := 0, recovering := none, goodSince := some s.tks.tickExt } ∧ others w ∧ only w)
        ∧ (m.errState ≠ 3 ∨ s.domOk 9 = false ∨ (up - u) * 80 < 1408 * (cfg.nomBrp * (1 + cfg.nomTseg1 + cfg.nomTseg2)) * 1000 → Gives (.busRecovered t n) s fun s' => s' = start t s))
    ∧ (m.recovering = none → Gives (.busRecovered t n) s fun s' => s' = start t s)
    ∧ (bitAt v 0 = true → m.errState = 3 → m.recovering = none → Gives (.mbcRecover t n v) s fun s' => s'.mbc n = { m with recovering := some up } ∧ others s' ∧ s' = { start t s with mbcs := s'.mbcs })
    ∧ (bitAt v 0 = false ∨ m.errState ≠ 3 ∨ m.recovering ≠ none → Gives (.mbcRecover t n v) s fun s' => s' = start t s)
    ∧ (s.mbcHears n = true → m.errState ≠ 3 → Gives (.rxError t n k by8) s fun s' => ∃ w, s' = failovers w ∧
        let e := w.mbc n
        e.rec_ = min 255 (m.rec_ + (if by8 = true then 8 else 1)) ∧ e.errState = errStateOf m.tec e.rec_
        ∧ e.errBit = (if k = .bit then satAdd m.errBit 1 255 else m.errBit) ∧ e.errStuff = (if k = .stuff then satAdd m.errStuff 1 255 else m.errStuff)
        ∧ e.errCrc = (if k = .crc then satAdd m.errCrc 1 255 else m.errCrc) ∧ e.errForm = (if k = .formAck then satAdd m.errForm 1 255 else m.errForm)
        ∧ e = { m with rec_ := e.rec_, errState := e.errState, goodSince := e.goodSince, busOffUp := e.busOffUp, recovering := e.recovering, wire := e.wire, errBit := e.errBit, errStuff := e.errStuff, errCrc := e.errCrc, errForm := e.errForm } ∧ others w ∧ only w)
    ∧ (s.mbcHears n = false → Gives (.rxError t n k by8) s fun s' => s' = start t s)
    ∧ (m.mode = 1 → s.domOk 9 = true → Gives (.integrationDone t n) s fun s' =>
        (s.sys.state = .active → (s'.mbc n).mode = 2) ∧ (s.sys.state = .start → (s'.mbc n).mode = 3)
        ∧ (bitAt s.image.bus.mbcEn n = true → s.sys.state = .standby ∨ s.sys.state = .failed → (s'.mbc n).mode = 3)
        ∧ (bitAt s.image.bus.mbcEn n = true → s.sys.state = .harbourWatch → (s'.mbc n).mode = (if cfg.sleepHw = true then 4 else 3))
        ∧ s'.mbc n = { m with mode := (s'.mbc n).mode } ∧ others s' ∧ s' = { start t s with mbcs := s'.mbcs })
    ∧ (m.mode ≠ 1 ∨ s.domOk 9 = false → Gives (.integrationDone t n) s fun s' => s' = start t s)
    ∧ (let woken := fun (source : Nat) (s' : State) => s'.mbc n = { m with mode := 3, wake := source } ∧ others s'
         ∧ (s.powered = false → s'.rtc = s.rtc) ∧ (s.powered = true → s.sys.state = .harbourWatch → s.rtc.hwRunning = false → s'.rtc.hwRunning = true)
         ∧ (s.powered = true → s.sys.state ≠ .harbourWatch ∨ s.rtc.hwRunning = true → s'.rtc = { s.rtc with merged := satAdd s.rtc.merged 1 255 })
         ∧ s' = { start t s with mbcs := s'.mbcs, rtc := s'.rtc, evr := s'.evr }
       let wakes := m.mode = 4 ∧ cfg.wakeMode = .frame ∧ s.domOk 9 = true ∧ f.fdf = false ∧ f.remote = false ∧ f.ide = cfg.wakeIde ∧ ((f.id ^^^ cfg.wakeId) &&& cfg.wakeIdMask) = 0
         ∧ f.data.length = cfg.wakeDlc ∧ ∀ i, i < cfg.wakeDlc → ((nth f.data i 0 ^^^ nth cfg.wakeData i 0) &&& nth cfg.wakeMask i 0) = 0
       (m.mode = 4 → cfg.wakeMode = .edge → cfg.wakeFiltNs ≤ ns → Gives (.wakeEdge t n ns) s (woken 1))
       ∧ (m.mode ≠ 4 ∨ cfg.wakeMode ≠ .edge ∨ ns < cfg.wakeFiltNs → Gives (.wakeEdge t n ns) s fun s' => s' = start t s)
       ∧ (wakes → Gives (.wakeFrame t n f) s (woken 2)) ∧ (¬ wakes → Gives (.wakeFrame t n f) s fun s' => s' = start t s))

/-- R452, R472, R481, R483 to R488: a good frame lowers the receive error counter, to 127 from above; a data frame goes into the lowest receive buffer that matches, failing that into the FIFO unless full, and counts as ignored otherwise. A locked buffer takes it into its shadow, and a lost frame counts as overwritten. A frame whose SEQ repeats gives no sample. A lock held for 100 µs is released, and a frame in the shadow moves in. RX_FRAME, RX_LOCK_TIMEOUT. -/
def Obligations.FramesReceived : Prop :=
  ∀ (t n ago b : Nat) (f : CanFrame) (p : Path) (since : Nat) (s : State), s.mbcs.length = 8 → n < 8 →
    let up := s.tks.upEdge + t
    let st := wordN ((start t s).frameCounter (up - ago))
    (s.mbcHears n = true → Gives (.rxFrame t n f ago) s fun s' => ∃ w, 
        let u := failovers w
        let m := u.mbc n
        let r' := if 127 < (s.mbc n).rec_ then 127 else (s.mbc n).rec_ - 1
        let own := fun (e : Mbc) => s'.mbc n = { e with foreignMark := (s'.mbc n).foreignMark, seqSkips := (s'.mbc n).seqSkips }
        w.mbc n = { s.mbc n with rec_ := r', errState := (w.mbc n).errState, goodSince := (w.mbc n).goodSince, busOffUp := (w.mbc n).busOffUp, recovering := (w.mbc n).recovering, wire := (w.mbc n).wire }
        ∧ ((s.mbc n).errState ≠ 3 → (w.mbc n).errState = errStateOf (s.mbc n).tec r') ∧ (∀ d, d ≠ n → w.mbc d = s.mbc d) ∧ w = { start t s with mbcs := w.mbcs, evr := w.evr }
        ∧ (f.remote = true → s' = updMbc n (fun m => { m with ignored := satAdd m.ignored 1 65535 }) u)
        ∧ (f.remote = false → s.rxEntry n f = none → s.fifoEntry n f = none → own { m with ignored := satAdd m.ignored 1 65535 } ∧ s'.str = s.str)
        ∧ (∀ e, f.remote = false → s.rxEntry n f = some e →
            let x := nth m.bufs (s.bufOf e) {}
            let lost := (x.lock ≠ none ∧ x.shadow ≠ none) ∨ (x.lock = none ∧ x.unread = true)
            let x' := if x.lock = none then { x with frame := some (f, st), unread := true, overrun := x.overrun || decide lost } else { x with shadow := some (f, st), overrun := x.overrun || decide lost }
            own { m with accepted := (m.accepted + 1) % 65536, bufs := put m.bufs (s.bufOf e) x', overwritten := (if lost then (m.overwritten + 1) % 65536 else m.overwritten), ovrMark := (s'.mbc n).ovrMark })
        ∧ (∀ e, f.remote = false → s.rxEntry n f = none → s.fifoEntry n f = some e →
            (m.fifo.length < 128 → own { m with fifo := m.fifo ++ [(f, st)] })
            ∧ (128 ≤ m.fifo.length → own { m with fifoDropped := satAdd m.fifoDropped 1 65535, fifoMark := (s'.mbc n).fifoMark } ∧ s'.str = s.str))
        ∧ (∀ e x, (s.rxEntry n f = some e ∨ (s.rxEntry n f = none ∧ s.fifoEntry n f = some e)) → (s.entry e).fields.find? (fun y => y.src == .seq) = some x →
            assoc s.bus.seqIn (s.seqKey e) = some (readField x f.data % 2 ^ x.width).toNat → s'.str = s.str ∧ s'.bus = s.bus)
        ∧ (∀ d, d ≠ n → s'.mbc d = u.mbc d) ∧ (s.sys.state = .active → (s'.twn.busSeen = s.twn.busSeen)) ∧ (s.sys.state ≠ .active → s'.twn.sighting = s.twn.sighting)
        ∧ s'.twn = { s.twn with sighting := s'.twn.sighting, busSeen := s'.twn.busSeen } ∧ s' = { u with mbcs := s'.mbcs, bus := s'.bus, str := s'.str, twn := s'.twn, evr := s'.evr })
    ∧ (s.mbcHears n = false → Gives (.rxFrame t n f ago) s fun s' => s' = start t s)
    ∧ (s.rxLockOf n b = some (p, since) → since + 100000 ≤ up →
        (b ≠ 64 → b < (s.mbc n).bufs.length → Gives (.rxLockTimeout t n b) s fun s' =>
          let m := s.mbc n
          let x := nth m.bufs b {}
          s'.mbc n = { m with read := (if x.unread = true then (m.read + 1) % 65536 else m.read), bufs := put m.bufs b { x with lock := none, overrun := false, shadow := none, unread := x.shadow.isSome, frame := x.shadow.or x.frame } }
          ∧ (∀ d, d ≠ n → s'.mbc d = s.mbc d) ∧ s' = { start t s with mbcs := s'.mbcs, evr := s'.evr })
        ∧ (b = 64 → Gives (.rxLockTimeout t n b) s fun s' =>
          s'.mbc n = { s.mbc n with fifoLock := none, fifo := (s.mbc n).fifo.drop 1 } ∧ (∀ d, d ≠ n → s'.mbc d = s.mbc d) ∧ s' = { start t s with mbcs := s'.mbcs, evr := s'.evr }))
    ∧ (s.rxLockOf n b = none ∨ (∃ q u, s.rxLockOf n b = some (q, u) ∧ up < u + 100000) → Gives (.rxLockTimeout t n b) s fun s' => s' = start t s)

/-- R502 to R509, R511 to R513, R515, R516: the switch and the pairs. A port is up at 1 Gbit/s full duplex alone; a frame is checked whole in its FIFO, and a bad one is discarded and counted; frames are admitted in rotation and take their credits, or are refused and counted; free and held credits make 4,096; a queue sends its highest class first, and the last port of a frame returns its credits; the second copy of a pair's frame within 400 ms does not reach the controller; supervision frames go out every 2 s; a LAN silent for 6 s is lost; ARP and echo are answered for the addresses the unit holds. PHY_LINK_CHANGE, PORT_FRAME_RECEIVED, FRAME_ADMISSION, FRAME_TRANSMITTED, ADDRESS_AGEING, PRP_SUPERVISION_SEND, PRP_LAN_LOST, ARP_REQUEST, ICMP_ECHO. -/
def Obligations.SwitchMovesFrames : Prop :=
  ∀ (t p mbps id seq : Nat) (full : Bool) (f : NetFrame) (ip : Word) (s : State), s.net.heard.length = 4 → s.net.ingress.length = 4 → s.net.drops.length = 5 → (∀ l, l ∈ s.net.drops → l.length = 4) →
    let up := s.tks.upEdge + t
    let isUp := decide (mbps = 1000) && full
    let only := fun (s' : State) => s' = { start t s with net := s'.net, evr := s'.evr }
    let dropped := fun (p k : Nat) (n n' : Net) => nth (nth n'.drops p []) k 0 = satAdd (nth (nth n.drops p []) k 0) 1 255
      ∧ (∀ q j, q ≠ p ∨ j ≠ k → nth (nth n'.drops q []) j 0 = nth (nth n.drops q []) j 0) ∧ n' = { n with drops := n'.drops, dropMarks := n'.dropMarks }
    let linked := fun (p : Nat) (cls : FrameClass) (bytes : Nat) (ports : BitVec 5) (n : Net) (s' : State) =>
      (ports = 0 → s'.net = n) ∧ (ports ≠ 0 → n.mayTake cls < creditsOf bytes → dropped p 0 n s'.net)
      ∧ (ports ≠ 0 → creditsOf bytes ≤ n.mayTake cls →
          (cls = .bulk → (∃ q, q < 5 ∧ bitAt ports q = true ∧ s.image.net.portQmax < n.bulkOn q + creditsOf bytes) → dropped p 3 n s'.net)
          ∧ ((cls = .bulk → ∀ q, q < 5 → bitAt ports q = true → n.bulkOn q + creditsOf bytes ≤ s.image.net.portQmax) → s'.net = { n with held := n.held ++ [{ from_ := p, cls := cls, bytes := bytes, ports := ports }] }))
      ∧ (n.heldAll ≤ 4096 → s'.net.heldAll ≤ 4096 ∧ s'.net.free + s'.net.heldAll = 4096) ∧ (n.heldBy .bulk ≤ 3008 → s'.net.heldBy .bulk ≤ 3008)
    (p < 4 → bitAt s.net.link p ≠ isUp → Gives (.phyLinkChange t p mbps full) s fun s' =>
        s'.net = { s.net with link := setBit s.net.link p isUp, held := if isUp = true then s.net.held else (s.net.held.map (fun g => { g with ports := setBit g.ports p false })).filter (fun g => g.ports != 0) } ∧ only s')
    ∧ (4 ≤ p ∨ bitAt s.net.link p = isUp → Gives (.phyLinkChange t p mbps full) s fun s' => s' = start t s)
    ∧ (p < 4 → s.netRuns = true → bitAt s.net.link p = true →
        (f.bytes < 64 ∨ 1522 < f.bytes → Gives (.portFrameReceived t p f) s fun s' => dropped p 2 s.net s'.net ∧ only s')
        ∧ (64 ≤ f.bytes → f.bytes ≤ 1522 → f.fcsOk = false → Gives (.portFrameReceived t p f) s fun s' => dropped p 1 s.net s'.net ∧ only s')
        ∧ (64 ≤ f.bytes → f.bytes ≤ 1522 → f.fcsOk = true →
            let heard := if s.paired p = true then { s.net with heard := put s.net.heard p (some up), lanOk := setBit s.net.lanOk p true } else s.net
            let used : Nat := (nth s.net.ingress p []).foldl (fun n g => n + g.bytes) 0
            (used + f.bytes ≤ 2048 → Gives (.portFrameReceived t p f) s fun s' => s'.net = { heard with ingress := put s.net.ingress p (nth s.net.ingress p [] ++ [f]) } ∧ only s')
            ∧ (2048 < used + f.bytes → Gives (.portFrameReceived t p f) s fun s' => dropped p 0 heard s'.net ∧ only s')))
    ∧ (4 ≤ p ∨ s.netRuns = false ∨ bitAt s.net.link p = false → Gives (.portFrameReceived t p f) s fun s' => s' = start t s)
    ∧ (s.netRuns = false ∨ s.net.nextTurn = none → Gives (.frameAdmission t) s fun s' => s' = start t s)
    ∧ (∀ g gs, s.netRuns = true → p < 4 → s.net.nextTurn = some p → nth s.net.ingress p [] = g :: gs → Gives (.frameAdmission t) s fun s' => ∃ n : Net,
        let ports := s.route p g.dst
        let seen := ∃ q lanB e u, g.prp = some (q, lanB) ∧ s.paired p = true ∧ s.net.prpTab.find? (fun e => e.mac == g.src) = some e ∧ (q, u) ∈ e.seqs ∧ up < u + 400000000
        ((bitAt ports 4 = true ∧ seen → linked p g.cls g.bytes (setBit ports 4 false) n s') ∧ (¬ (bitAt ports 4 = true ∧ seen) → linked p g.cls g.bytes ports n s'))
        ∧ (s.net.addrs.length < 1024 → ∀ d, assoc n.addrs d = if d = g.src then some (p, up) else assoc s.net.addrs d)
        ∧ n = { s.net with turn := (p + 1) % 5, ingress := put s.net.ingress p gs, addrs := n.addrs, prpTab := n.prpTab, lans := n.lans } ∧ only s')
    ∧ (∀ d ds, s.netRuns = true → s.net.nextTurn = some 4 → s.net.dp = d :: ds → Gives (.frameAdmission t) s fun s' => ∃ n : Net,
        let m := s.pairPorts d.cls d.ports
        let trailer := d.cls ≠ .ptp ∧ (bitAt m 0 = true ∨ (s.image.net.prp2 = true ∧ bitAt m 2 = true))
        (trailer → linked 4 d.cls (d.bytes + 6) (s.upPorts m) n s') ∧ (¬ trailer → linked 4 d.cls d.bytes (s.upPorts m) n s')
        ∧ (s.net.prpSeq.length = 2 → nth n.prpSeq 0 0 = (if d.cls ≠ .ptp ∧ bitAt m 0 = true then (nth s.net.prpSeq 0 0 + 1) % 65536 else nth s.net.prpSeq 0 0))
        ∧ n = { s.net with turn := 0, dp := ds, prpSeq := n.prpSeq } ∧ only s')
    ∧ (∀ i g, p < 5 → s.netRuns = true → (p = 4 ∨ bitAt s.net.link p = true) → s.net.headOf p = some i → s.net.held[i]? = some g → Gives (.frameTransmitted t p) s fun s' =>
        s'.net = { s.net with held := (upd s.net.held i (fun x => { x with ports := setBit x.ports p false })).filter (fun x => x.ports != 0) }
        ∧ bitAt g.ports p = true ∧ (∀ (j : Nat) (x : HeldFrame), s.net.held[j]? = some x → bitAt x.ports p = true → classRank g.cls ≤ classRank x.cls)
        ∧ s'.out = (if p < 4 then [.portFrame p g.bytes (shortStamp (s.tim.latSys + t - 8 * g.bytes))] else []) ∧ s' = { start t s with net := s'.net, out := s'.out })
    ∧ (5 ≤ p ∨ s.netRuns = false ∨ (p < 4 ∧ bitAt s.net.link p = false) ∨ s.net.headOf p = none → Gives (.frameTransmitted t p) s fun s' => s' = start t s)
    ∧ (Gives (.addressAgeing t) s fun s' => s' = { start t s with net := { s.net with addrs := s.net.addrs.filter (fun a => decide (up < a.2.2 + 300000000000)) } })
    ∧ (s.controllerOn = true → s.net.supUp + 2000000000 ≤ up → Gives (.prpSupervisionSend t) s fun s' =>
        s'.out = (if s.image.net.prp2 = true then [.prpSupervision 0, .prpSupervision 1, .prpSupervision 2, .prpSupervision 3] else [.prpSupervision 0, .prpSupervision 1])
        ∧ s'.net = { s.net with supUp := up, dp := s.net.dp ++ [{ cls := .ctrl, bytes := 64, ports := 3 }] ++ (if s.image.net.prp2 = true then [{ cls := .ctrl, bytes := 64, ports := 12 }] else []) } ∧ s' = { start t s with net := s'.net, out := s'.out })
    ∧ (s.controllerOn = false ∨ up < s.net.supUp + 2000000000 → Gives (.prpSupervisionSend t) s fun s' => s' = start t s)
    ∧ (let last := (nth s.net.heard p none).getD 0
       let silent := p < 4 ∧ s.paired p = true ∧ s.netRuns = true ∧ (nth s.net.heard p none = none ∨ bitAt s.net.lanOk p = true) ∧ last + 6000000000 ≤ up
       (silent → Gives (.prpLanLost t p) s fun s' => s'.net = { s.net with lanOk := setBit s.net.lanOk p false, heard := put s.net.heard p (some last) } ∧ only s')
       ∧ (¬ silent → Gives (.prpLanLost t p) s fun s' => s' = start t s))
    ∧ (let mine := s.controllerOn = true ∧ (ip = s.unitAddr.ip ∨ (ip = s.image.net.activeIp ∧ s.takesWrites = true))
       let mac := if ip = s.unitAddr.ip then s.unitAddr.mac else s.image.net.activeMac
       (mine → p < 4 → bitAt s.image.net.dpPorts p = true → Gives (.arpRequest t p ip) s fun s' =>
          s'.out = [.arp false ip mac (setBit (0 : BitVec 4) p true)] ∧ s'.net = { s.net with dp := s.net.dp ++ [{ cls := .bulk, bytes := 64, ports := setBit (0 : BitVec 4) p true }] } ∧ s' = { start t s with net := s'.net, out := s'.out })
       ∧ (¬ mine ∨ 4 ≤ p ∨ bitAt s.image.net.dpPorts p = false → Gives (.arpRequest t p ip) s fun s' => s' = start t s)
       ∧ (mine → s.image.net.icmp = true → Gives (.icmpEcho t ip id seq) s fun s' =>
          s'.out = [.icmpEcho id seq] ∧ s'.net = { s.net with dp := s.net.dp ++ [{ cls := .bulk, bytes := 64, ports := s.image.net.dpPorts }] } ∧ s' = { start t s with net := s'.net, out := s'.out })
       ∧ (¬ mine ∨ s.image.net.icmp = false → Gives (.icmpEcho t ip id seq) s fun s' => s' = start t s))

/-- R519 to R523, R526, R529, R543: a frame that does not reach the unit has no effect, and one that fails a test is counted under the first test it fails and has no reply. An accepted COMMAND is collected by an ACTIVE unit, or answered NOT_ACTIVE; a HELLO with SESSION 0 opens a session with the rights asked that the entry allows, in place of the source's earlier one; a HELLO in an open session changes neither its rights, its subscriptions nor its windows; SUBSCRIBE changes the rods named or is answered BAD_ARGUMENT; EVENT FETCH is answered from the Tally. No session at its SEQ limit stays open. Every command of a station; STATION_FRAME_DISCARD, SESSION_TIMEOUT. -/
def Obligations.StationFramesAccepted : Prop :=
  ∀ (c : Instr) (t : Nat) (h : StnHdr) (need : Nat) (s : State), s.net.auth.length = 7 →
    let s0 := start t s
    let counted := fun (k : Nat) (s' : State) => nth s'.net.auth k 0 = satAdd (nth s.net.auth k 0) 1 (nth [15, 15, 255, 15, 255, 3, 3] k 0) ∧ (∀ j, j ≠ k → nth s'.net.auth j 0 = nth s.net.auth j 0)
      ∧ (k ≠ 6 → s'.net.rates = s.net.rates) ∧ s'.net = { s.net with auth := s'.net.auth, authMarks := s'.net.authMarks, rates := s'.net.rates } ∧ s' = { s0 with net := s'.net, evr := s'.evr }
    let replied := fun (r : Reply) (s' : State) => s'.out = [.reply h.session (s.nextTx h.session) r]
      ∧ s'.net.dp = s.net.dp ++ [{ cls := .ctrl, bytes := stationBytes (replyBytes r), ports := s.image.net.dpPorts }]
    let sent := (s0.sessionsAfter h).map (fun x => if x.number = h.session then { x with txSeq := x.txSeq + 1 } else x)
    (stationFrame c = some (t, h, need) → s.hears h = false → Gives c s fun s' => s' = s0)
    ∧ (∀ k, stationFrame c = some (t, h, need) → s.hears h = true → s0.refusalOf h need = some k → Gives c s (counted k))
    ∧ (stationFrame c = some (t, h, need) → s.hears h = true → s0.refusalOf h need = none → Gives c s fun s' => ∀ x, x ∈ s'.net.sessions → x.h < 0xFFFF0000 ∧ x.txSeq < 0xFFFF0000)
    ∧ (∀ k, s.hears h = true → s0.refusalOf h need = some k → Gives (.stationFrameDiscard t h need) s (counted k))
    ∧ (s.hears h = false ∨ s0.refusalOf h need = none → Gives (.stationFrameDiscard t h need) s fun s' => s' = s0)
    ∧ (∀ a, stationAsk c = some (t, h, a) → s.hears h = true → s0.refusalOf h rightCommand = none → s.calm h →
        (s.takesCommand a = true → Gives c s fun s' => s'.net = { s.net with rates := s'.net.rates, sessions := s0.sessionsAfter h, cmdsIn := s.net.cmdsIn ++ [{ cmd := a, session := some h.session }] } ∧ s' = { s0 with net := s'.net })
        ∧ (s.takesCommand a = false → Gives c s fun s' => replied (.command (cmdCode a) 2 0 s.tickNo) s' ∧ s'.net = { s.net with rates := s'.net.rates, sessions := sent, dp := s'.net.dp } ∧ s' = { s0 with net := s'.net, out := s'.out }))
    ∧ (∀ action first count, stationSub c = some (t, h, action, first, count) → s.hears h = true → s0.refusalOf h rightView = none → s.calm h →
        let rods := BitVec.ofNat 2048 ((2 ^ count - 1) * 2 ^ first)
        (2 < action ∨ count = 0 ∨ 2048 < first + count → Gives c s fun s' => (∃ n, replied (.subscribe 4 n) s') ∧ s'.net = { s.net with rates := s'.net.rates, sessions := sent, dp := s'.net.dp } ∧ s' = { s0 with net := s'.net, out := s'.out })
        ∧ (action ≤ 2 → 1 ≤ count → first + count ≤ 2048 → Gives c s fun s' => (∃ n, replied (.subscribe 0 n) s')
            ∧ s'.net = { s.net with rates := s'.net.rates, dp := s'.net.dp, sessions := sent.map (fun x => if x.number = h.session then (if action = 1 then { x with subs := x.subs &&& ~~~rods, full := x.full &&& ~~~rods } else { x with subs := x.subs ||| rods, full := x.full ||| (if action = 2 then rods else rods &&& ~~~x.subs) }) else x) }
            ∧ s' = { s0 with net := s'.net, out := s'.out }))
    ∧ (∀ rights hi lo, s.hears { h with session := 0 } = true → s0.refusalOf { h with session := 0 } rightHello = none → s.calm h → Gives (.helloOpen t h rights hi lo) s fun s' => ∃ x, x ∈ s'.net.sessions
        ∧ x.source = h.source ∧ x.node = h.ioPort ∧ x.rights = s.grant h rights ∧ x.number ≠ 0 ∧ x.h = h.seq ∧ x.subs = 0 ∧ x.full = 0 ∧ x.lastUp = s.tks.upEdge + t ∧ x.onActive = h.toActive
        ∧ (∀ y, y ∈ s'.net.sessions → y.source = h.source → y = x) ∧ (∃ q, s'.out = [.reply x.number q (s0.helloReply x hi lo)])
        ∧ (∀ k, bitAt (s.grant h rights) k = true → bitAt rights k = true) ∧ (h.ioPort = true → s.grant h rights = rights &&& 8) ∧ (h.ioPort = false → bitAt (s.grant h rights) rightIo = false))
    ∧ (∀ hi lo x, h.session ≠ 0 → s.sessionOf h.session h.source = some x → h.ioPort = false → s.hears h = true → s0.refusalOf h rightHello = none → s.calm h → Gives (.helloStatus t h hi lo) s fun s' =>
        (∃ y, y.rights = x.rights ∧ y.number = x.number ∧ replied (s0.helloReply y hi lo) s')
        ∧ s'.net = { s.net with rates := s'.net.rates, dp := s'.net.dp, sessions := s.net.sessions.map (fun y => if y.number = h.session then { y with lastUp := s.tks.upEdge + t, txSeq := y.txSeq + 1 } else y) } ∧ s' = { s0 with net := s'.net, out := s'.out })
    ∧ (∀ from_ count, s.hears h = true → s0.refusalOf h rightView = none → s.calm h → Gives (.eventFetch t h from_ count) s fun s' =>
        replied (.events (s.fetch from_ (min 40 count)).1 (s.fetch from_ (min 40 count)).2.1 (s.fetch from_ (min 40 count)).2.2) s'
        ∧ s'.net = { s.net with rates := s'.net.rates, sessions := sent, dp := s'.net.dp } ∧ s' = { s0 with net := s'.net, out := s'.out })
    ∧ (∀ n x, s.net.sessions.find? (fun x => x.number == n) = some x →
        (s.serves x = true → x.lastUp + s.image.net.sessionTimeoutS * 1000000000 ≤ s.tks.upEdge + t → Gives (.sessionTimeout t n) s fun s' => s'.net = { s.net with sessions := s.net.sessions.filter (fun y => y.number != n) } ∧ s'.pim = { s.pim with page := s'.pim.page, frozen := s'.pim.frozen } ∧ assoc s'.srv.presetVal (.session n) = none)
        ∧ (s.serves x = false ∨ s.tks.upEdge + t < x.lastUp + s.image.net.sessionTimeoutS * 1000000000 → Gives (.sessionTimeout t n) s fun s' => s' = s0))
    ∧ (∀ n, s.net.sessions.find? (fun x => x.number == n) = none → Gives (.sessionTimeout t n) s fun s' => s' = s0)
    ∧ (h.formatOk = false → s0.refusalOf h need = some 0) ∧ (h.formatOk = true → s.entryAllows h = false → s0.refusalOf h need = some 1)
    ∧ (h.formatOk = true → s.entryAllows h = true → h.tagOk = false → s0.refusalOf h need = some 2)
    ∧ (h.formatOk = true → s.entryAllows h = true → h.tagOk = true → ¬ (need = rightHello ∧ h.session = 0) → s.sessionOf h.session h.source = none → s0.refusalOf h need = some 3)
    ∧ (∀ x, h.formatOk = true → s.entryAllows h = true → h.tagOk = true → s.sessionOf h.session h.source = some x → need ≠ rightHello →
        (h.seq = 0 ∨ (h.seq ≤ x.h ∧ (x.h ≥ h.seq + 64 ∨ bitAt x.map (x.h - h.seq) = true)) → s0.refusalOf h need = some 4)
        ∧ (0 < h.seq → h.seq < 4294967296 → x.h < h.seq ∨ (x.h < h.seq + 64 ∧ bitAt x.map (x.h - h.seq) = false) → bitAt x.rights need = false → s0.refusalOf h need = some 5))

/-- R530 to R537, R539, R544: what points take. A write from another than the point's writer, or of another type, is rejected and counted; one within DEADBAND with the held quality and flags is absorbed and restarts the freshness timer only; any other is accepted, raises CHANGE_SEQ and marks the point. A standby takes no external write. A point, or the points of a node, not written for their time go STALE. The active unit sends each node its outputs every PERIOD. The rule of one write is stated of the operation through which the frames write. POINT_UPDATE_RECEIVED, IO_FRAME_INPUTS, IO_FRAME_BYTES, IO_OUTPUTS_SEND, IO_NODE_LOST, POINT_STALE. -/
def Obligations.PointsTakeWrites : Prop :=
  ∀ (t p i : Nat) (h : StnHdr) (recs : List (Nat × PointRec)) (sample : Word) (entries : List (Nat × Word × Nat)) (ch : Nat) (bytes : List Byte) (w : ExtWrite) (s : State),
    let s0 := start t s
    let kept := fun (s' : State) (p : Nat) => ∀ q, q ≠ p → s'.point q = s.point q
    let node : StnHdr := { h with ioPort := true }
    (s.hears h = true → s0.refusalOf h rightView = none → Gives (.pointUpdateReceived t h recs) s fun s' =>
        s' = closeWorn (recs.foldl (stationWrite h.source (s.stationTimed h)) (noteAccepted h rightView s0)))
    ∧ (s.hears node = true → s0.refusalOf node rightIo = none → Gives (.ioFrameInputs t h sample entries) s fun s' =>
        s' = closeWorn (entries.foldl (nodeWrite h.source (if s.nodeTimed h = true then some sample else none)) (noteAccepted node rightIo s0)))
    ∧ (s.hears node = true → s0.refusalOf node rightIo = none → Gives (.ioFrameBytes t h ch bytes) s fun s' => s' = closeWorn (noteAccepted node rightIo s0))
    ∧ (s.sys.state = .standby → offerWrite s w = { s with pim := { s.pim with rejStandby := satAdd s.pim.rejStandby 1 65535 } })
    ∧ (s.sys.state ≠ .standby → s.takesWrites = false → offerWrite s w = s)
    ∧ (s.takesWrites = true → s.sys.state ≠ .standby → s.windowOver = true ∨ s.pim.wait ≠ [] → offerWrite s w = { s with pim := { s.pim with wait := s.pim.wait ++ [w] } })
    ∧ (s.takesWrites = true → s.sys.state ≠ .standby → s.windowOver = false → s.pim.wait = [] → s.pim.accepted.length < 4900 →
        let s' := offerWrite s w
        let k := s.pointCfg w.point
        let r := s.point w.point
        let r' := s'.point w.point
        let same := r.quality ≠ 4 ∧ r.quality = w.quality ∧ r.flags = w.flags ∧ withinDeadband k w.value r.value = true
        (131072 ≤ w.point ∨ k.writer ≠ w.writer ∨ w.flags % 4 ≠ k.type → (∀ q, s'.point q = s.point q) ∧ s'.pim = { s.pim with rejWriter := satAdd s.pim.rejWriter 1 65535, writerMark := s'.pim.writerMark } ∧ s' = { s with pim := s'.pim, evr := s'.evr })
        ∧ (w.point < 131072 → k.writer = w.writer → w.flags % 4 = k.type → same → r' = r ∧ kept s' w.point ∧ s'.pointFresh w.point = s.tks.tickExt ∧ s'.pim.marks = s.pim.marks ∧ s' = { s with pim := s'.pim, str := s'.str })
        ∧ (w.point < 131072 → k.writer = w.writer → w.flags % 4 = k.type → ¬ same → r'.value = w.value ∧ r'.quality = w.quality ∧ r'.flags = w.flags ∧ r'.seq = (r.seq + 1) % 65536
            ∧ (∀ st, w.stamp = some st → r'.stampNs = st.1 ∧ r'.secLo = st.2) ∧ kept s' w.point ∧ s'.pointFresh w.point = s.tks.tickExt
            ∧ s'.pim.marks = updKey s.pim.marks (w.point / 64) 0 (fun m => setBit m (w.point % 64) true) ∧ s' = { s with pim := s'.pim, str := s'.str }))
    ∧ (let k := s.pointCfg p
       let due := p < 131072 ∧ k.staleMs ≠ 0 ∧ s.boot.ready = true ∧ s.sys.state ≠ .failed ∧ (0xFF00 ≤ k.writer ∨ s.takesWrites = true) ∧ (s.point p).quality ≠ 3 ∧ s.pointFresh p + k.staleMs ≤ s.tks.tickExt
       (due → Gives (.pointStale t p) s fun s' => s'.point p = { s.point p with quality := 3, seq := ((s.point p).seq + 1) % 65536 } ∧ kept s' p ∧ s' = { s0 with pim := s'.pim, evr := s'.evr })
       ∧ (¬ due → Gives (.pointStale t p) s fun s' => s' = s0))
    ∧ (∀ k, s.pim.nodes.length = 64 → s.image.net.nodes[i]? = some k → i < 64 →
        let x := nth s.pim.nodes i {}
        let lost := s.takesWrites = true ∧ x.lost = false ∧ x.last.getD 0 + s.image.net.ioLoss * k.periodMs * 1000000 ≤ s.tks.upEdge + t
        (lost → Gives (.ioNodeLost t i) s fun s' => nth s'.pim.nodes i {} = { x with lost := true } ∧ (∀ q c, (q, c) ∈ s.image.net.points → c.writer = k.id → (s'.point q).quality = 3 ∧ (s'.point q).value = (s.point q).value)
          ∧ (∀ q, (∀ c, (q, c) ∈ s.image.net.points → c.writer ≠ k.id) → s'.point q = s.point q) ∧ s' = { s0 with pim := s'.pim, evr := s'.evr })
        ∧ (¬ lost → Gives (.ioNodeLost t i) s fun s' => s' = s0)
        ∧ (∀ y, s.net.sessions.find? (fun y => y.node && y.source == k.id) = some y → s.sys.state = .active → s.controllerOn = true → x.sentUp + k.periodMs * 1000000 ≤ s.tks.upEdge + t → (∀ z, z ∈ s.net.sessions → z.h < seqLimit ∧ z.txSeq + 1 < seqLimit) → Gives (.ioOutputsSend t i) s fun s' =>
            s'.out = [.ioOutputs k.id x.cycle ((k.outputs.take 117).map (fun q => (q, (s.point q).value, (s.point q).quality)))]
            ∧ nth s'.pim.nodes i {} = { x with cycle := (x.cycle + 1) % 4294967296, sentUp := s.tks.upEdge + t }
            ∧ s'.net.sessions = s.net.sessions.map (fun z => if z.number = y.number then { z with txSeq := z.txSeq + 1 } else z) ∧ s' = { s0 with pim := s'.pim, net := s'.net, out := s'.out })
        ∧ (s.net.sessions.find? (fun y => y.node && y.source == k.id) = none ∨ s.sys.state ≠ .active ∨ s.controllerOn = false ∨ s.tks.upEdge + t < x.sentUp + k.periodMs * 1000000 → Gives (.ioOutputsSend t i) s fun s' => s' = s0))

/-- R554, R561 to R563, R565 to R567: a Carry link goes down and comes up; a section with a bad CRC is counted and discarded with the later ones of its link; one for another unit than a standby, of a FORMAT not supported or of an older epoch is not taken; a good one is placed, and forwarded to the other standby of a TRIAD that reports its direct link down; a frame not complete at CARRY_DUE counts as lost, an INCOMPLETE one is not compared, and what was received of it is applied all the same. CARRY_FRAME_RECEIVED, CARRY_DUE, CARRY_LINK_DOWN, CARRY_LINK_UP. -/
def Obligations.CarryFramesTaken : Prop :=
  ∀ (t l : Nat) (h : CarryHdr) (sec : CarrySection) (ok : Bool) (s : State), s.twn.links.length = 2 →
    let s0 := start t s
    let link := nth s.twn.links l {}
    let twnOnly := fun (s' : State) => s' = { s0 with twn := s'.twn, evr := s'.evr }
    let carried := fun (s' : State) => s' = { s0 with twn := s'.twn, evr := s'.evr, pim := s'.pim, net := { s.net with sessions := s'.net.sessions } }
    let x := s0.rxFor h
    let running := s.tks.running = true ∧ s.twn.dueDone = false ∧ 150000 ≤ t
    let expected := s.sys.state = .standby ∧ (s.twn.synced = true ∨ s.twn.join = .match_) ∧ s.twn.shadowed ≠ some (s.tks.tickExt - 1)
    (l < 2 → link.up = true → Gives (.carryLinkDown t l) s fun s' => nth s'.twn.links l {} = { link with up := false } ∧ (∀ k, k ≠ l → nth s'.twn.links k {} = nth s.twn.links k {}) ∧ s'.twn = { s.twn with links := s'.twn.links } ∧ twnOnly s')
    ∧ (2 ≤ l ∨ link.up = false → Gives (.carryLinkDown t l) s fun s' => s' = s0)
    ∧ (l < 2 → bitAt s.image.twin.linkUse l = true → link.up = false → s.domOk 4 = true → Gives (.carryLinkUp t l) s fun s' =>
        nth s'.twn.links l {} = { link with up := true } ∧ (∀ k, k ≠ l → nth s'.twn.links k {} = nth s.twn.links k {}) ∧ s'.twn = { s.twn with links := s'.twn.links } ∧ twnOnly s')
    ∧ (2 ≤ l ∨ bitAt s.image.twin.linkUse l = false ∨ link.up = true ∨ s.domOk 4 = false → Gives (.carryLinkUp t l) s fun s' => s' = s0)
    ∧ (2 ≤ l ∨ s.linkUp l = false → Gives (.carryFrameReceived t l h sec ok) s fun s' => s' = s0)
    ∧ (l < 2 → s.linkUp l = true →
        (Gives (.carryFrameReceived t l h sec false) s fun s' => nth s'.twn.links l {} = { link with crcErr := satAdd link.crcErr 1 65535 }
            ∧ (s.sys.state ≠ .standby → s'.twn.rx = s.twn.rx) ∧ (s.sys.state = .standby → s.twn.rx = [] → s'.twn.rx = [{ x with broken := setBit x.broken l true }]) ∧ s' = { s0 with twn := { s.twn with links := s'.twn.links, rx := s'.twn.rx } })
        ∧ (s.sys.state ≠ .standby → Gives (.carryFrameReceived t l h sec true) s fun s' => s' = s0)
        ∧ (s.sys.state = .standby → Config.formatOk h.format = false → Gives (.carryFrameReceived t l h sec true) s fun s' => s'.twn = { s.twn with refusedAt := s'.twn.refusedAt } ∧ twnOnly s')
        ∧ (s.sys.state = .standby → Config.formatOk h.format = true → sdiff32 h.epoch s.twn.epoch < 0 ∨ bitAt x.broken l = true → Gives (.carryFrameReceived t l h sec true) s fun s' => s' = s0)
        ∧ (s.sys.state = .standby → Config.formatOk h.format = true → 0 ≤ sdiff32 h.epoch s.twn.epoch → bitAt x.broken l = false → Gives (.carryFrameReceived t l h sec true) s fun s' =>
            (s'.twn.carryRx = if (x.put sec).complete = true then h.seq else s.twn.carryRx)
            ∧ (s.twn.rx = [] → ∃ b, s'.twn.rx = [{ x.put sec with taken := b }])
            ∧ s'.out = (match s.relayLink l h with | some k => [.carryRelay k { h with relayed := true } sec] | none => [])
            ∧ s' = { s0 with twn := s'.twn, out := s'.out, pim := s'.pim, net := s'.net, fus := s'.fus, str := s'.str, als := s'.als, srv := s'.srv, evr := s'.evr }))
    ∧ (s.tks.running = false ∨ s.twn.dueDone = true ∨ t < 150000 → Gives (.carryDue t) s fun s' => s' = s0)
    ∧ (running →
        (¬ expected → Gives (.carryDue t) s fun s' => s'.twn = { s.twn with dueDone := true, rx := s'.twn.rx } ∧ carried s')
        ∧ (expected → s.lastFrame = none → Gives (.carryDue t) s fun s' => s'.twn = { s.twn with dueDone := true, rx := s'.twn.rx, needAdopt := true, lostCnt := satAdd s.twn.lostCnt 1 65535 } ∧ carried s')
        ∧ (∀ y, expected → s.lastFrame = some y →
            (y.hdr.incomplete = true → Gives (.carryDue t) s fun s' => s'.twn = { s.twn with dueDone := true, rx := s'.twn.rx, needAdopt := true } ∧ carried s')
            ∧ (y.hdr.incomplete = false → y.complete = true → Gives (.carryDue t) s fun s' => s'.twn = { s.twn with dueDone := true, rx := s'.twn.rx } ∧ carried s')
            ∧ (y.hdr.incomplete = false → y.complete = false → Gives (.carryDue t) s fun s' => s'.twn = { s.twn with dueDone := true, rx := s'.twn.rx, needAdopt := true, lostCnt := satAdd s.twn.lostCnt 1 65535 } ∧ carried s'))
        ∧ (∀ y p r, s.twn.rx = [y] → y.ownTick + 1 = s.tks.tickExt → y.taken = false → y.points = some [(p, r)] → Gives (.carryDue t) s fun s' => s'.point p = r ∧ (∀ q, q ≠ p → s'.point q = s.point q)
            ∧ s'.net.sessions = (match y.sessions with | some l => s.net.sessions.filter (fun q => !q.onActive) ++ l | none => s.net.sessions)))

/-- R555 to R557, R568 to R571, R577, R581, R599 to R601: a unit that sends heartbeats sends one 2 µs after its edge, with its own state; one received by a path in use is taken as the peer's last; a bad check counts, another class is ignored, the own ROLE sets DUPLICATE until 1 s after the last. An ACTIVE unit that hears TAKEOVER with a newer epoch enters STANDBY with its gates closed; a unit in HARBOUR WATCH that hears the group without LAYUP restarts. At the end of HB_WINDOW each peer has been heard or missed. HEARTBEAT_SEND, HEARTBEAT_RECEIVED, HEARTBEAT_WINDOW_END, DUPLICATE_CLEAR. -/
def Obligations.HeartbeatsHeard : Prop :=
  ∀ (t path : Nat) (hb : Heartbeat) (ofs : Int) (s : State), s.twn.peers.length = 3 → s.twn.links.length = 2 →
    let s0 := start t s
    let up := s.tks.upEdge + t
    let r := hb.role
    let twnOnly := fun (s' : State) => s' = { s0 with twn := s'.twn, evr := s'.evr }
    let reaches := s.sendsHeartbeat = true ∧ path < 3 ∧ (path < 2 → s.linkUp path = true) ∧ (path = 2 → s.netRuns = true)
    let peers := reaches ∧ hb.triad = s.image.twin.triad ∧ r ≠ s.pin.strapRole ∧ r < (if s.image.twin.triad = true then 3 else 2)
    let heard := fun (p : Peer) => p.known = true ∧ p.state = hb.state ∧ p.level = hb.level ∧ p.synced = hb.synced ∧ p.shadowFault = hb.shadowFault ∧ p.epoch = hb.epoch ∧ p.seen = hb.seen ∧ p.imageId = hb.imageId
      ∧ p.health = hb.health ∧ p.handoverReq = hb.handoverReq ∧ p.layup = hb.layup ∧ p.duplicate = hb.duplicate ∧ p.tickNo = hb.tickNo
      ∧ (s.tks.running = false ∨ t ≤ s.image.twin.hbWindowUs * 1000 → bitAt p.pathsNow path = true) ∧ (path < 2 → p.edgeOfs = clampI (-8388607) 8388607 ofs)
    (s.sendsHeartbeat = true → s.tks.running = true → 2000 ≤ t → Gives (.heartbeatSend t) s fun s' => ∃ b : Heartbeat, s'.out = [.heartbeat b] ∧ s' = { s0 with out := s'.out } ∧ b.role = s.pin.strapRole ∧ b.state = s.sys.state
        ∧ b.level = s.sys.level ∧ b.epoch = s.twn.epoch ∧ b.tickNo = wordN s.tickNo ∧ b.synced = s.twn.synced ∧ b.shadowFault = s.twn.shadowFault ∧ b.duplicate = s.twn.duplicate ∧ b.handoverReq = s.handoverReq ∧ b.mismatch = s.twn.mismatch
        ∧ b.holdReturn = s.twn.holdReturn ∧ b.carryRx = s.twn.carryRx ∧ b.carryTx = s.twn.carryTx ∧ b.urgent = false ∧ b.takeover = false ∧ (b.layup = true ↔ s.sys.state = .harbourWatch ∨ s.rtc.hwArm = true)
        ∧ (s.twn.handover = none → b.handoverAt = 0) ∧ (s.twn.synced = false → b.shadowCrc = 0))
    ∧ (s.sendsHeartbeat = false ∨ s.tks.running = false ∨ t < 2000 → Gives (.heartbeatSend t) s fun s' => s' = s0)
    ∧ (¬ reaches → ∀ ok, Gives (.heartbeatReceived t path hb ofs ok) s fun s' => s' = s0)
    ∧ (reaches → path < 2 → Gives (.heartbeatReceived t path hb ofs false) s fun s' => (nth s'.twn.links path {}).crcErr = satAdd (nth s.twn.links path {}).crcErr 1 65535 ∧ s' = { s0 with twn := { s.twn with links := s'.twn.links } })
    ∧ (reaches → path = 2 → Gives (.heartbeatReceived t path hb ofs false) s fun s' => s' = s0)
    ∧ (reaches → hb.triad ≠ s.image.twin.triad → Gives (.heartbeatReceived t path hb ofs true) s fun s' => s'.twn = { s.twn with refusedAt := s'.twn.refusedAt } ∧ twnOnly s')
    ∧ (reaches → hb.triad = s.image.twin.triad → r = s.pin.strapRole → Gives (.heartbeatReceived t path hb ofs true) s fun s' => s'.twn = { s.twn with dupUp := some up } ∧ s'.twn.duplicate = true ∧ twnOnly s')
    ∧ (peers → s.sys.state = .start ∨ s.sys.state = .failed → Gives (.heartbeatReceived t path hb ofs true) s fun s' => heard (s'.peer r) ∧ (∀ k, k ≠ r → s'.peer k = s.peer k) ∧ s'.twn = { s.twn with peers := s'.twn.peers, links := s'.twn.links } ∧ twnOnly s')
    ∧ (peers → s.sys.state = .active → hb.takeover = false ∨ sdiff32 hb.epoch s.twn.epoch ≤ 0 → Gives (.heartbeatReceived t path hb ofs true) s fun s' =>
        heard (s'.peer r) ∧ (∀ k, k ≠ r → s'.peer k = s.peer k) ∧ s'.twn = { s.twn with peers := s'.twn.peers, links := s'.twn.links, yielded := false } ∧ twnOnly s')
    ∧ (peers → s.sys.state = .active → hb.takeover = true → 0 < sdiff32 hb.epoch s.twn.epoch → Gives (.heartbeatReceived t path hb ofs true) s fun s' =>
        heard (s'.peer r) ∧ s'.sys.state = .standby ∧ s'.twn.activeRole = r ∧ s'.twn.epoch = hb.epoch ∧ s'.twn.synced = false ∧ s'.saf.gatePwm = 0 ∧ s'.saf.gatePdiv = 0 ∧ s'.saf.gateSync = 0 ∧ s'.saf.outenDrive = false
        ∧ s'.saf.gateMbc = s.saf.gateMbc &&& s.sendingMask ∧ s'.net.activeIp = false ∧ s'.net.cmdsDue = [] ∧ s'.pim.wait = [])
    ∧ (peers → s.sys.state = .standby → Gives (.heartbeatReceived t path hb ofs true) s fun s' => ∃ u : State, s' = decideTakeover u ∧ heard (u.peer r) ∧ u.twn.yielded = false ∧ u.sys = s.sys ∧ u.saf = s.saf
        ∧ (hb.state = .active → 0 ≤ sdiff32 hb.epoch s.twn.epoch → u.twn.activeRole = r ∧ u.twn.epoch = hb.epoch)
        ∧ (hb.state = .harbourWatch → s.twn.activeRole = r → hb.takeover = false → u.twn.layup = some r) ∧ u = { s0 with twn := u.twn, evr := u.evr })
    ∧ (peers → s.sys.state = .harbourWatch →
        (hb.layup = true ∨ (hb.state ≠ .start ∧ hb.state ≠ .standby ∧ hb.state ≠ .active) → Gives (.heartbeatReceived t path hb ofs true) s fun s' => heard (s'.peer r) ∧ s'.twn = { s.twn with peers := s'.twn.peers, links := s'.twn.links } ∧ twnOnly s')
        ∧ (hb.layup = false → hb.state = .start ∨ hb.state = .standby ∨ hb.state = .active → Gives (.heartbeatReceived t path hb ofs true) s fun s' =>
            s'.rtc.hwArm = false ∧ s'.rtc.wakeEn = false ∧ s'.sys = State.reset.sys ∧ s'.twn = State.reset.twn ∧ s'.saf = State.reset.saf ∧ s'.flash = s.flash))
    ∧ (s.twn.windowDone = true ∨ s.tks.running = false ∨ s.sendsHeartbeat = false ∨ t < s.image.twin.hbWindowUs * 1000 → Gives (.heartbeatWindowEnd t) s fun s' => s' = s0)
    ∧ (s.twn.windowDone = false → s.tks.running = true → s.sendsHeartbeat = true → s.image.twin.hbWindowUs * 1000 ≤ t → Gives (.heartbeatWindowEnd t) s fun s' =>
        s'.twn.windowDone = true ∧ (∀ k, k ∈ s.peerRoles → (s'.peer k).pathsLast = (s.peer k).pathsNow ∧ (s'.peer k).state = (s.peer k).state
          ∧ ((s.peer k).pathsNow ≠ 0 → (s'.peer k).miss = 0)
          ∧ ((s.peer k).pathsNow = 0 → (∀ q, q ∈ s.peerRoles → q ≠ k → s.image.twin.triad = true → (s.peer q).pathsNow = 0 ∨ bitAt (s.peer q).seen k = false) → (s.peer k).known = true → (s'.peer k).miss = min 3 ((s.peer k).miss + 1))
          ∧ (s.image.twin.triad = true → (∃ q, q ∈ s.peerRoles ∧ q ≠ k ∧ (s.peer q).pathsNow ≠ 0 ∧ bitAt (s.peer q).seen k = true) → (s'.peer k).miss = 0)))
    ∧ (∀ u, s.twn.dupUp = some u → u + 1000000000 ≤ up → Gives (.duplicateClear t) s fun s' => s'.twn.duplicate = false ∧ s' = { s0 with twn := { s.twn with dupUp := none } })
    ∧ ((∀ u, s.twn.dupUp = some u → up < u + 1000000000) → Gives (.duplicateClear t) s fun s' => s' = s0)

/-- R572 to R576, R579 to R581, R591, R599, R628: the conditions of a takeover in their order, and its decision; the entry at the first edge at least 20 µs after it, when the partition confirms; a refusal is counted. At the edge after a sighting the unit with the older epoch keeps control, with equal epochs the HOME unit of a PAIR or the lower ROLE of a TRIAD, and one that met a collision in PROBATION yields. A joining unit becomes SYNCED after SYNC_MATCH matches. ACTIVE_ENTRY, PROBATION_END, YIELD, JOIN_SYNCED; the decision is stated of the operation that HEARTBEAT_RECEIVED and HEARTBEAT_WINDOW_END run. -/
def Obligations.TakeoversAndYields : Prop :=
  ∀ (t : Nat) (s : State), s.twn.peers.length = 3 →
    let s0 := start t s
    let p := s.peer s.twn.activeRole
    let may := s.sys.state = .standby ∧ s.twn.entry = none ∧ s.twn.activeRole < 3 ∧ s.twn.activeRole ≠ s.pin.strapRole ∧ p.state ≠ .harbourWatch ∧ s.firstStandby = true
    let twnOnly := fun (s' : State) => s' = { s0 with twn := s'.twn, evr := s'.evr }
    (s.sys.state ≠ .standby ∨ p.state = .harbourWatch ∨ s.firstStandby = false → s.takeoverCause = none)
    ∧ (may → s.twn.yielded = true → s.takeoverCause = (if 3 ≤ s.twn.quietTicks then some 0 else none))
    ∧ (may → s.twn.yielded = false → p.known = true → p.state = .failed → s.takeoverCause = some 1)
    ∧ (may → s.twn.yielded = false → p.known = true → p.state = .active →
        (p.level < 2 → s.takeoverCause = some 2)
        ∧ (2 ≤ p.level → p.handoverReq = true → s.twn.synced = true → s.takeoverCause = some 3)
        ∧ (2 ≤ p.level → p.handoverReq = false → 3 ≤ p.lowRun → s.twn.synced = true → s.twn.shadowFault = false → s.takeoverCause = some 4)
        ∧ (2 ≤ p.level → p.handoverReq = false → p.lowRun < 3 → s.takeoverCause = (if 3 ≤ p.miss then some 0 else none)))
    ∧ (s.takeoverCause = none → decideTakeover s = s)
    ∧ (∀ c, s.takeoverCause = some c → s.refusalCause false = none → (decideTakeover s).twn = { s.twn with epoch := s.twn.epoch + 1, entry := some { cause := c, epoch := s.twn.epoch + 1, decided := s.up }, handover := none }
        ∧ (∃ b : Heartbeat, (decideTakeover s).out = s.out ++ [.heartbeat b] ∧ b.urgent = true ∧ b.takeover = true ∧ b.epoch = s.twn.epoch + 1 ∧ b.role = s.pin.strapRole) ∧ (decideTakeover s).sys = s.sys)
    ∧ (∀ c k, s.takeoverCause = some c → s.refusalCause false = some k → (decideTakeover s).twn = s.twn ∧ (decideTakeover s).sys = s.sys ∧ (decideTakeover s).out = s.out ∧ (decideTakeover s).saf.roleCause = k)
    ∧ (s.twn.entry = none → Gives (.activeEntry t) s fun s' => s' = s0)
    ∧ (∀ e, s.twn.entry = some e →
        (s.sys.state ≠ .standby ∨ s.tks.running = false ∨ s.tks.upEdge < e.decided + 20000 → Gives (.activeEntry t) s fun s' => s' = s0)
        ∧ (s.sys.state = .standby → s.tks.running = true → e.decided + 20000 ≤ s.tks.upEdge →
            (∀ k, s.refusalCause false = some k → Gives (.activeEntry t) s fun s' => s'.twn = { s.twn with entry := none } ∧ s'.saf = { s.saf with roleConfirmed := false, roleCause := k, roleRefusals := satAdd s.saf.roleRefusals 1 255 } ∧ s' = { s0 with twn := s'.twn, saf := s'.saf, evr := s'.evr })
            ∧ (s.refusalCause false = none → Gives (.activeEntry t) s fun s' => s'.sys.state = .active ∧ s'.sys.level = s.sys.level ∧ s'.twn.activeRole = s.pin.strapRole ∧ s'.twn.epoch = s.twn.epoch ∧ s'.twn.synced = false ∧ s'.twn.entry = none
                ∧ s'.twn.probation = (if e.cause = 0 ∧ s.twn.yielded = false then some s.tks.tickExt else none) ∧ s'.saf.gatePwm = s.claimedPwm ∧ s'.saf.gateMbc = s.claimedMbc ∧ s'.saf.gatePdiv = s.claimedPdiv ∧ s'.saf.gateSync = s.claimedSync
                ∧ s'.saf.keepAlive = true ∧ s'.saf.outenDrive = true ∧ (s.hasAddress = true → s'.net.activeIp = true)
                ∧ s'.net.sessions = s.net.sessions.map (fun q => if q.onActive then { q with txSeq := (q.txSeq + 65536) % 4294967296, full := q.subs } else q)
                ∧ (s.twn.synced = false → s'.als.needCold = true ∧ s'.pcl.mode = 0) ∧ (s.twn.synced = true → s'.pcl = s.pcl) ∧ s'.fus = s.fus ∧ s'.tks = s0.tks)))
    ∧ (s.inProbation = true → Gives (.probationEnd t) s fun s' => s' = s0) ∧ (s.inProbation = false → Gives (.probationEnd t) s fun s' => s' = { s0 with twn := { s.twn with probation := none } })
    ∧ (s.twn.sightDue = none → Gives (.yield t) s fun s' => s' = s0)
    ∧ (∀ g, s.twn.sightDue = some g →
        (s.sys.state ≠ .active → Gives (.yield t) s fun s' => s' = { s0 with twn := { s.twn with sightDue := none } })
        ∧ (s.sys.state = .active →
          let keeps := fun (s' : State) => s' = { s0 with twn := { s.twn with sightDue := none }, evr := s'.evr }
          let yields := fun (s' : State) => s'.sys.state = .standby ∧ s'.twn.yielded = true ∧ s'.twn.synced = false ∧ s'.saf.gatePwm = 0 ∧ s'.saf.gatePdiv = 0 ∧ s'.saf.gateSync = 0 ∧ s'.saf.gateMbc = s.saf.gateMbc &&& s.sendingMask ∧ s'.saf.outenDrive = false ∧ s'.net.activeIp = false
          (g.frame = none → Gives (.yield t) s yields)
          ∧ (∀ r e w, g.frame = some (r, e, w) →
              let d := epochDiff s.twn.epoch e w
              (d < 0 → Gives (.yield t) s keeps)
              ∧ (0 < d → Gives (.yield t) s fun s' => yields s' ∧ s'.twn.activeRole = r ∧ s'.twn.epoch = s.twn.epoch - BitVec.ofInt 32 d)
              ∧ (d = 0 → (s.image.twin.triad = true → s.pin.strapRole < r → Gives (.yield t) s keeps) ∧ (s.image.twin.triad = true → r ≤ s.pin.strapRole → Gives (.yield t) s fun s' => yields s' ∧ s'.twn.activeRole = r)
                ∧ (s.image.twin.triad = false → s.pin.strapHome = true → Gives (.yield t) s keeps) ∧ (s.image.twin.triad = false → s.pin.strapHome = false → Gives (.yield t) s fun s' => yields s' ∧ s'.twn.activeRole = r)))))
    ∧ (s.sys.state = .standby → s.twn.join = .match_ → s.image.twin.syncMatch ≤ s.twn.matchRun → Gives (.joinSynced t) s fun s' => s'.twn = { s.twn with synced := true, join := .none, cleanRun := 0 } ∧ twnOnly s')
    ∧ (s.sys.state ≠ .standby ∨ s.twn.join ≠ .match_ ∨ s.twn.matchRun < s.image.twin.syncMatch → Gives (.joinSynced t) s fun s' => s' = s0)

/-- R593 to R597, R600: a request for a planned handover stands while a target exists, and is refused for want of one; accepted, it sets HANDOVER_AT to TICK_NO + HANDOVER_LEAD; at that tick's edge the old active unit enters STANDBY with its gates closed and the target ACTIVE with its gates open, the epoch 1 more; when the target loses a condition the handover is abandoned. The role exchange and the return ask for one when their time has run. A standby whose active unit lies up follows it, unarmed. ROLE_EXCHANGE_DUE, RETURN_DUE, HANDOVER_ACCEPT, HANDOVER_EDGE, HANDOVER_ABORT, LAYUP_FOLLOW. -/
def Obligations.HandoversRun : Prop :=
  ∀ (t : Nat) (s : State),
    let s0 := start t s
    let up := s.tks.upEdge + t
    let twnOnly := fun (s' : State) => s' = { s0 with twn := s'.twn, evr := s'.evr }
    let asked := fun (c : HandoverCause) (w w' : Twn) => (s.twn.handover ≠ none → w' = w)
      ∧ (s.twn.handover = none → s.handoverTarget c = none → w' = w) ∧ (s.twn.handover = none → s.handoverTarget c ≠ none → s.twn.request = none → w' = { w with request := some c })
    (s.sys.state = .active → 0 < s.image.twin.roleXchgH → s.twn.xchgUp + s.image.twin.roleXchgH * 3600000000000 ≤ up → Gives (.roleExchangeDue t) s fun s' => asked .exchange { s.twn with xchgUp := up } s'.twn ∧ twnOnly s')
    ∧ (s.sys.state ≠ .active ∨ s.image.twin.roleXchgH = 0 ∨ up < s.twn.xchgUp + s.image.twin.roleXchgH * 3600000000000 → Gives (.roleExchangeDue t) s fun s' => s' = s0)
    ∧ (∀ u, s.twn.returnFrom = some u → s.sys.state = .active → s.returnHolds = true → u + s.image.twin.returnDelayS * 1000000000 ≤ up → Gives (.returnDue t) s fun s' => asked .return_ { s.twn with returnFrom := none } s'.twn ∧ twnOnly s')
    ∧ (s.twn.returnFrom = none ∨ s.sys.state ≠ .active ∨ s.returnHolds = false → Gives (.returnDue t) s fun s' => s' = s0)
    ∧ (∀ c r, s.handoverTarget c = some r → s.mayTarget c r = true ∧ r ∈ s.peerRoles) ∧ (∀ c r, s.mayTarget c r = true → (s.peer r).synced = true ∧ (s.peer r).shadowFault = false ∧ s.sys.level ≤ (s.peer r).level ∧ (s.peer r).state = .standby ∧ (s.peer r).miss = 0 ∧ s.twn.duplicate = false ∧ (s.peer r).duplicate = false
        ∧ (c = .return_ ∨ c = .exchange → (s.peer r).imageId = s.image.id))
    ∧ (s.twn.request = none → Gives (.handoverAccept t) s fun s' => s' = s0)
    ∧ (∀ c, s.twn.request = some c → s.sys.state = .active →
        (∀ r, s.handoverTarget c = some r → Gives (.handoverAccept t) s fun s' => s' = { s0 with twn := { s.twn with request := none, handover := some { at_ := (s.tickNo + s.image.twin.handoverLead) % 4294967296, target := r, cause := c } } })
        ∧ (s.handoverTarget c = none → Gives (.handoverAccept t) s fun s' => s'.twn = { s.twn with request := none } ∧ twnOnly s'))
    ∧ (s.twn.handover = none → Gives (.handoverEdge t) s fun s' => s' = s0)
    ∧ (∀ h, s.twn.handover = some h →
        (h.at_ ≠ s.tickNo → Gives (.handoverEdge t) s fun s' => s' = s0)
        ∧ (h.at_ = s.tickNo → s.sys.state = .active → s.mayTarget h.cause h.target = true → Gives (.handoverEdge t) s fun s' => s'.sys.state = .standby ∧ s'.twn.epoch = s.twn.epoch + 1 ∧ s'.twn.activeRole = h.target ∧ s'.twn.synced = true ∧ s'.twn.handover = none
            ∧ s'.saf.gatePwm = 0 ∧ s'.saf.gatePdiv = 0 ∧ s'.saf.gateSync = 0 ∧ s'.saf.gateMbc = s.saf.gateMbc &&& s.sendingMask ∧ s'.saf.outenDrive = false ∧ s'.net.activeIp = false ∧ s'.twn.shadowed = some (s.tks.tickExt - 1) ∧ s'.fus = s.fus ∧ s'.pcl = s.pcl)
        ∧ (h.at_ = s.tickNo → s.sys.state = .active → s.mayTarget h.cause h.target = false → Gives (.handoverEdge t) s fun s' => s'.twn = { s.twn with handover := none } ∧ twnOnly s')
        ∧ (h.at_ = s.tickNo → s.sys.state = .standby → h.target = s.pin.strapRole → s.refusalCause true = none → Gives (.handoverEdge t) s fun s' => s'.sys.state = .active ∧ s'.twn.epoch = s.twn.epoch + 1 ∧ s'.twn.activeRole = s.pin.strapRole ∧ s'.twn.handover = none
            ∧ s'.saf.gatePwm = s.claimedPwm ∧ s'.saf.gateMbc = s.claimedMbc ∧ s'.saf.gatePdiv = s.claimedPdiv ∧ s'.saf.gateSync = s.claimedSync ∧ (s.hasAddress = true → s'.net.activeIp = true))
        ∧ (s.sys.state = .active → s.mayTarget h.cause h.target = false → Gives (.handoverAbort t) s fun s' => s'.twn = { s.twn with handover := none } ∧ twnOnly s')
        ∧ (s.sys.state ≠ .active ∨ s.mayTarget h.cause h.target = true → Gives (.handoverAbort t) s fun s' => s' = s0))
    ∧ (s.twn.handover = none → Gives (.handoverAbort t) s fun s' => s' = s0)
    ∧ (∀ r, s.twn.layup = some r → s.sys.state = .standby → Gives (.layupFollow t) s fun s' => s'.sys.state = .harbourWatch ∧ s'.rtc.hwArm = false ∧ s'.rtc.wakeEn = false ∧ s'.rtc.pwrOn = false ∧ s'.twn.synced = false ∧ s'.twn.layup = none ∧ s'.saf.gate0 = s.saf.gate0)
    ∧ (∀ r, s.twn.layup = some r → s.sys.state ≠ .standby → Gives (.layupFollow t) s fun s' => s' = { s0 with twn := { s.twn with layup := none } })
    ∧ (s.twn.layup = none → Gives (.layupFollow t) s fun s' => s' = s0)

/-- R612, R617, R622, R624: what freezes a master freezes it with its cause, disarms its watchdog, and leaves the fault present and latched. The freezing form of LOCKSTEP_DISAGREEMENT, SCRUB_READ, WATCHDOG_KICK, WATCHDOG_EXPIRY, FIREWALL_VIOLATION and SAF_REQ_SW_FAULT. -/
def Obligations.FreezesMaster : Prop :=
  ∀ (t m : Nat) (s : State), s.sys.state ≠ .off → m < 17 → m ≠ 6 → bitAt s.saf.frozen m = false →
    s.saf.freeze.length = 17 → s.saf.wdg.length = 17 →
    (∀ pc, m < 6 → Gives (.lockstepDisagreement t m pc) s fun s' => s'.frozenBy m 1 13)
    ∧ (∀ syn, Gives (.scrubRead t (.double syn m)) s fun s' => s'.frozenBy m 4 16)
    ∧ (∀ v, s.watched m → fieldOf v 0 16 ≠ s.nextKick m → Gives (.watchdogKick t m m v) s fun s' => s'.frozenBy m 2 14)
    ∧ (∀ k v, k ≠ m → s.watched k = false → Gives (.watchdogKick t m k v) s fun s' => s'.frozenBy m 3 15)
    ∧ (∀ k, s.watched m → (nth s.saf.wdg m {}).lastKick = some k → k + wdgMax m ≤ s.tks.upEdge + t → Gives (.watchdogExpiry t m) s fun s' => s'.frozenBy m 2 14)
    ∧ (∀ a w, Gives (.firewallViolation t m a w) s fun s' => s'.frozenBy m 3 15 ∧ (nth s'.saf.freeze m {}).detail = a ∧ (nth s'.saf.freeze m {}).write = w)
    ∧ (∀ code, m < 6 → Gives (.safReqSwFault t m code) s fun s' => s'.frozenBy m 5 17)

/-- R611, R622, R625: a reaction of class OUTPUTS OFF closes every gate, stops the keep-alive and leaves the unit FAILED at level 0. LOCKSTEP_DISAGREEMENT of SP, SCRUB_READ in SP's region, SUPPLY_BAND_CHANGE and TEMP_BAND_CHANGE beyond the fail band. -/
def Obligations.OutputsOffCloses : Prop :=
  ∀ (t : Nat) (s : State), s.sys.state ≠ .off → (s.sys.state = .failed → s.sys.level = 0) →
    (∀ pc, Gives (.lockstepDisagreement t 6 pc) s fun s' => s'.outputsClosed ∧ bitAt s'.saf.present 1 = true ∧ s'.saf.spOk = false)
    ∧ (∀ syn, Gives (.scrubRead t (.double syn 6)) s fun s' => s'.outputsClosed ∧ bitAt s'.saf.present 3 = true)
    ∧ (∀ rail mV, rail < 5 → nth s.saf.vmon rail 0 < 2 → Gives (.supplyBandChange t rail 2 mV) s fun s' => s'.outputsClosed ∧ bitAt s'.saf.present 5 = true)
    ∧ (∀ tj, s.saf.tempBand < 2 → Gives (.tempBandChange t 2 tj) s fun s' => s'.outputsClosed ∧ bitAt s'.saf.present 6 = true ∧ s'.saf.tj = tj)

/-- R609, R619: loss of SAFE is taken by the checker: the keep-alive stops, the gate registers keep what they hold, and the unit is FAILED at level 0. SAFE_LOST. -/
def Obligations.CheckerTakesOver : Prop :=
  ∀ (t kHz : Nat) (s : State), s.sys.state ≠ .off → s.sys.state ≠ .failed → s.saf.checker = false →
    Gives (.safeLost t kHz) s fun s' => s'.saf.checker = true ∧ s'.saf.keepAlive = false ∧ s'.saf.outenDrive = false ∧ s'.saf.gate0 = s.saf.gate0
      ∧ s'.saf.gate1 = s.saf.gate1 ∧ s'.sys.state = .failed ∧ s'.sys.level = 0 ∧ s'.faultOut = true ∧ bitAt s'.saf.latch 2 = true ∧ s'.clkLost 2 = true

/-- R26, R27, R617, R632: a right kick is kept and turns the value awaited; the scrubber goes to the next word in address order and counts what it corrects; an acknowledgement clears what is no longer present. WATCHDOG_KICK, SCRUB_READ and SAF_REQ_ACK; a frame of each. -/
def Obligations.PartitionRoutine : Prop :=
  ∀ (t : Nat) (s : State), s.sys.state ≠ .off →
    (∀ m v, m < 17 → m ≠ 6 → bitAt s.saf.frozen m = false → s.saf.wdg.length = 17 → s.watched m → fieldOf v 0 16 = s.nextKick m →
        (∀ k, (nth s.saf.wdg m {}).lastKick = some k → k + wdgMin ≤ s.tks.upEdge + t) →
        Gives (.watchdogKick t m m v) s fun s' => (nth s'.saf.wdg m {}).lastKick = some (s.tks.upEdge + t) ∧ s'.nextKick m ≠ s.nextKick m ∧ s'.watched m
          ∧ s'.saf.frozen = s.saf.frozen ∧ s'.saf.present = s.saf.present ∧ s'.evr = s.evr ∧ s'.flash = s.flash)
    ∧ (Gives (.scrubRead t .clean) s fun s' => s'.sys = { s.sys with scrubAddr := (s.sys.scrubAddr + 1) % 3145728 } ∧ s'.evr = s.evr ∧ s'.saf = s.saf ∧ s'.flash = s.flash)
    ∧ (∀ syn r b, Gives (.scrubRead t (.single syn r b)) s fun s' => s'.sys.eccCorrCnt = min (s.sys.eccCorrCnt + 1) 0xFFFFFFFF ∧ s'.sys.scrubAddr = (s.sys.scrubAddr + 1) % 3145728
          ∧ s'.sys.eccUncorr = s.sys.eccUncorr ∧ s'.sys.state = s.sys.state ∧ s'.saf = s.saf ∧ s'.flash = s.flash)
    ∧ (∀ w b, w < 6 → bitAt s.saf.frozen w = false → Gives (.safReqAck t w b) s fun s' => s'.saf = { s.saf with unack := s.saf.unack &&& s.saf.present } ∧ s'.sys = s.sys ∧ s'.flash = s.flash)

/-- R621, R624, R625, R631, R645: the faults of a HANDOVER class that come and go: a supply or the junction outside its operating band, OUT_EN_MON other than driven, PFAIL_N low; and their end. SUPPLY_BAND_CHANGE, TEMP_BAND_CHANGE, OUTEN_MISMATCH, PFAIL_FALL, PFAIL_RISE and PFAIL_FAULT_CLEAR. -/
def Obligations.FaultsComeAndGo : Prop :=
  ∀ (t : Nat) (s : State), s.sys.state ≠ .off →
    (∀ rail mV, rail < 5 → s.saf.vmon = [0, 0, 0, 0, 0] →
        Gives (.supplyBandChange t rail 1 mV) s fun s' => bitAt s'.saf.present 7 = true ∧ bitAt s'.saf.latch 7 = true ∧ bitAt s'.saf.unack 7 = true ∧ nth s'.saf.vmon rail 0 = 1)
    ∧ (∀ rail mV, rail < 5 → nth s.saf.vmon rail 0 ≠ 0 → (∀ k, k ≠ rail → nth s.saf.vmon k 0 = 0) → s.saf.vmon.length = 5 →
        Gives (.supplyBandChange t rail 0 mV) s fun s' => bitAt s'.saf.present 7 = false ∧ s'.saf.latch = s.saf.latch ∧ s'.saf.unack = s.saf.unack ∧ nth s'.saf.vmon rail 0 = 0)
    ∧ (∀ tj, s.saf.tempBand = 0 → Gives (.tempBandChange t 1 tj) s fun s' => bitAt s'.saf.present 8 = true ∧ s'.saf.tempBand = 1 ∧ s'.saf.tj = tj)
    ∧ (∀ tj, s.saf.tempBand ≠ 0 → Gives (.tempBandChange t 0 tj) s fun s' => bitAt s'.saf.present 8 = false ∧ s'.saf.tempBand = 0 ∧ s'.saf.latch = s.saf.latch)
    ∧ (Gives (.outenMismatch t (!s.saf.outenDrive)) s fun s' => (s'.sys.state ≠ .failed → bitAt s'.saf.present 10 = true) ∧ bitAt s'.saf.latch 10 = true ∧ s'.saf.outenHeld = some (!s.saf.outenDrive))
    ∧ (Gives (.outenMismatch t s.saf.outenDrive) s fun s' => bitAt s'.saf.present 10 = false ∧ s'.saf.outenHeld = none ∧ s'.saf.latch = s.saf.latch)
    ∧ (∀ n, 1000 ≤ n → s.saf.pfailLow = false → Gives (.pfailFall t n) s fun s' => bitAt s'.saf.present 9 = true ∧ bitAt s'.saf.latch 9 = true ∧ s'.saf.pfailLow = true)
    ∧ (s.saf.pfailLow = true → Gives (.pfailRise t) s fun s' => s'.saf.pfailLow = false ∧ s'.saf.pfailRoseUp = some (s.tks.upEdge + t) ∧ s'.saf.present = s.saf.present)
    ∧ (∀ u, s.saf.pfailRoseUp = some u → s.saf.pfailLow = false → u + 10000000000 ≤ s.tks.upEdge + t →
        Gives (.pfailFaultClear t) s fun s' => bitAt s'.saf.present 9 = false ∧ s'.saf.latch = s.saf.latch)

/-- R634: the test port is ignored in STANDBY, ACTIVE and HARBOUR WATCH; elsewhere TRST_N takes its controller to its reset state (the controller itself is PRESUMED). TCK_EDGE. -/
def Obligations.TestPort : Prop :=
  ∀ (t : Nat) (tms tdi : Bool) (s : State),
    (s.sys.state = .standby ∨ s.sys.state = .active ∨ s.sys.state = .harbourWatch → ∀ trst, Gives (.tckEdge t tms tdi trst) s fun s' => s'.pin = s.pin)
    ∧ (s.sys.state = .off ∨ s.sys.state = .start ∨ s.sys.state = .failed →
        (Gives (.tckEdge t tms tdi true) s fun s' => s'.pin.tap = .testLogicReset ∧ s'.pin.tdo = none ∧ s'.saf = s.saf ∧ s'.sys = s.sys)
        ∧ (Gives (.tckEdge t tms tdi false) s fun s' => s'.pin.tap = tapNext s.pin.tap tms ∧ s'.saf = s.saf ∧ s'.sys = s.sys ∧ s'.flash = s.flash))

/-- R643, R644, R648, R649, R652 to R654, R657, R660: the flush engine takes up to 16 records, oldest first, when 16 are pending, the oldest has waited FLUSH_AGE, an urgent flush runs or PFAIL_N is low; a page committed puts its records into free slots, and on a full store into the oldest slot of the lowest severity not above the record's, or drops it; its header is two generations on. A store that does not complete a write leaves ring-only working. The urgent flush ends when nothing is pending, with EVR_FLUSH. A write of EVR_READ_SEQ selects the lowest record held at or after it. The books balance after each. FLUSH_PAGE_START, PAGE_COMMIT, URGENT_FLUSH_DONE, EVR_READ_SEQ_WRITE. -/
def Obligations.StorePagesWritten : Prop :=
  ∀ (t : Nat) (s : State), s.evr.numbered = true → s.evr.drop.length = 8 →
    let s0 := start t s
    let e := s.evr
    let up := s.tks.upEdge + t
    let n := e.inFlight.length
    let due := ∃ p l, e.pend = p :: l ∧ (16 ≤ e.pend.length ∨ p.up + s.image.events.flushAgeMs * 1000000 ≤ up ∨ e.urgent ≠ none ∨ s.saf.pfailLow = true)
    let begins := e.storeState = 2 ∧ e.inFlight = [] ∧ s.domOk 0 = true ∧ due
    let evrOnly := fun (s' : State) => s' = { s0 with evr := s'.evr }
    (begins → Gives (.flushPageStart t) s fun s' => s' = { s0 with evr := { e with inFlight := (e.pend.take 16).map (fun p => p.record), pend := e.pend.drop 16 } })
    ∧ (¬ begins → Gives (.flushPageStart t) s fun s' => s' = s0)
    ∧ (∀ ok, e.inFlight = [] → Gives (.pageCommit t ok) s fun s' => s' = s0)
    ∧ (e.inFlight ≠ [] → e.store.freeNext + n ≤ e.store.slots → Gives (.pageCommit t true) s fun s' => evrOnly s' ∧ s'.evr.inFlight = [] ∧ s'.evr.pend = e.pend ∧ s'.evr.stored = (e.stored + n) % 2 ^ 32
        ∧ s'.evr.store.freeNext = e.store.freeNext + n ∧ s'.evr.store.entries.length = e.store.entries.length + n ∧ (∀ k, k < e.store.entries.length → s'.evr.store.entries[k]? = e.store.entries[k]?)
        ∧ (∀ k r, e.inFlight[k]? = some r → s'.evr.store.entries[e.store.entries.length + k]? = some (storedAt (e.store.freeNext + k) r))
        ∧ s'.evr.store.valid = true ∧ s'.evr.store.gen = (e.store.gen + 2) % 2 ^ 32 ∧ s'.evr.store.nextSeq = e.nextSeq ∧ s'.evr.store.written = e.written ∧ s'.evr.store.stored = s'.evr.stored
        ∧ s'.evr.store.pendingSev = sevCounts (e.pend.map (fun p => p.record.severity)) ∧ s'.evr.urgent = e.urgent.map (fun u => { u with count := u.count + n })
        ∧ s'.evr.overwritten = e.overwritten ∧ s'.evr.dropped = e.dropped ∧ s'.evr.written = e.written ∧ s'.evr.ring = e.ring)
    ∧ (∀ r old l₁ l₂, e.inFlight = [r] → e.store.slots ≤ e.store.freeNext → e.store.entries = l₁ ++ old :: l₂ → old.severity ≤ r.severity → (∀ x, x ∈ e.store.entries → x.severity ≤ r.severity → old.severity ≤ x.severity) → (∀ x, x ∈ l₁ → x.severity ≠ old.severity) →
        Gives (.pageCommit t true) s fun s' => evrOnly s' ∧ s'.evr.inFlight = [] ∧ s'.evr.store.entries = l₁ ++ l₂ ++ [storedAt old.slot r] ∧ s'.evr.store.freeNext = e.store.freeNext ∧ s'.evr.store.gen = (e.store.gen + 2) % 2 ^ 32
          ∧ s'.evr.dropped = e.dropped ∧ (old.record = none → s'.evr.overwritten = e.overwritten ∧ s'.evr.stored = inc32 e.stored) ∧ (old.record ≠ none → s'.evr.overwritten = inc32 e.overwritten ∧ s'.evr.stored = e.stored % 2 ^ 32))
    ∧ (∀ r, e.inFlight = [r] → r.severity < 8 → e.store.slots ≤ e.store.freeNext → (∀ x, x ∈ e.store.entries → r.severity < x.severity) → e.storeState = 2 → e.pend.length < 1024 →
        Gives (.pageCommit t true) s fun s' => evrOnly s' ∧ s'.evr.inFlight = [] ∧ s'.evr.store.entries = e.store.entries ∧ s'.evr.stored = e.stored ∧ s'.evr.overwritten = e.overwritten ∧ s'.evr.dropped = inc32 e.dropped
          ∧ nth s'.evr.drop r.severity 0 = inc32 (nth e.drop r.severity 0) ∧ (∀ k, k ≠ r.severity → nth s'.evr.drop k 0 = nth e.drop k 0))
    ∧ (e.inFlight ≠ [] → Gives (.pageCommit t false) s fun s' => evrOnly s' ∧ s'.evr.storeState = 3 ∧ s'.evr.pend = [] ∧ s'.evr.inFlight = [] ∧ s'.evr.urgent = none ∧ s'.evr.store = e.store
        ∧ (s.sevMin 0x1101 ≤ 5 → e.ring.length < 8192 → s'.evr.stored = inc32 ((e.stored + e.pend.length + n) % 2 ^ 32) ∧ ∃ r, s'.evr.ring = e.ring ++ [r] ∧ r.code = 0x1101 ∧ r.p0 = wordN e.storeState ∧ r.p1 = 3 ∧ r.seq = some e.nextSeq))
    ∧ (e.urgent = none ∨ e.pend ≠ [] ∨ e.inFlight ≠ [] → Gives (.urgentFlushDone t) s fun s' => s' = s0)
    ∧ (∀ u, e.urgent = some u → e.pend = [] → e.inFlight = [] → Gives (.urgentFlushDone t) s fun s' => evrOnly s' ∧ s'.evr.urgent = none ∧ s'.evr.flushMax = max e.flushMax (min ((up - u.since) / 1000) 65535)
        ∧ (s.sevMin 0x1106 ≤ 2 → e.storeState = 2 → ∃ r, s'.evr.pend = [⟨r, up⟩] ∧ r.code = 0x1106 ∧ r.severity = 2 ∧ r.p0 = wordN u.trigger ∧ r.p1 = wordN u.count ∧ r.p2 = wordN ((up - u.since) / 1000)))
    ∧ (∀ p v, Gives (.evrReadSeqWrite t p v) s fun s' => s' = { s0 with evr := { e with readSeq := s'.evr.readSeq } } ∧ s'.evrReg p 0x80 = some v ∧ (∀ q, q ≠ p → s'.evrReg q 0x80 = s0.evrReg q 0x80)
        ∧ (∀ x, x ∈ e.held → atOrAfter (x.seq.getD 0) v.toNat = true → ∃ r, r ∈ e.held ∧ atOrAfter (r.seq.getD 0) v.toNat = true ∧ seqAfter (r.seq.getD 0) v.toNat ≤ seqAfter (x.seq.getD 0) v.toNat ∧ ∀ w, w < 8 → s'.evrReg p (0x100 + 4 * w) = some (recWord r w)))
    ∧ (e.balanced → (Gives (.flushPageStart t) s fun s' => s'.evr.balanced) ∧ (∀ ok, Gives (.pageCommit t ok) s fun s' => s'.evr.balanced) ∧ Gives (.urgentFlushDone t) s fun s' => s'.evr.balanced)

/-- R665 to R676, R694: the calendar advances by one second through minutes, hours, days, months and years, by the leap years of its range, wraps after 2399, holds 23:59:59 in a positive leap and skips it in a negative one, and stands still while XTAL32 is lost; in lock it is loaded with the UTC of system time when it differs by more than RTC_SYNC_TOL, and its trim moves by the step that cancels the measured rate; a commit is checked as one, and replaces the calendar or is rejected; a shadow is released after 1 s. CALENDAR_SECOND, CALENDAR_SYNC, TRIM_ADJUST, RTC_COMMIT, RTC_COMMIT_CHECK, RTC_LOCAL_OFS_WRITE, DATE_ERR_CLEAR, CALENDAR_SHADOW_TIMEOUT. -/
def Obligations.CalendarKept : Prop :=
  ∀ (t : Nat) (c : Calendar) (s : State), calendarOk c →
    let s0 := start t s
    let r := s.rtc
    let up := s.tks.upEdge + t
    let lost := s.clkLost 11 = true
    let runs := s.clkLost 11 = false
    let counted := if r.onCell = true then inc32 r.vbuSeconds else r.vbuSeconds
    let last := c.hour = 23 ∧ c.min = 59
    let locked := domLocked s.tim.selState = true ∧ s.tim.utc.valid = true ∧ runs ∧ 946684800000000000 ≤ s0.utcNs ∧ s0.utcNs % 1000000000 < 1000000
    let diff : Int := (calNs s0.calNow : Int) - s0.utcNs + (if r.leapFlag = true then 1000000000 else 0)
    let rejected := fun (s' : State) => s' = { s0 with rtc := { r with dateErr := true, commit := none }, evr := s'.evr }
    (lost → Gives (.calendarSecond t) s fun s' => s' = s0)
    ∧ (runs → r.cal = c →
        (c.sec < 59 → ¬ (last ∧ c.sec = 58 ∧ r.leapArmed = .negative) → Gives (.calendarSecond t) s fun s' => s' = { s0 with rtc := { r with cal := { c with sec := c.sec + 1, subsec := 0 }, secUp := up, vbuSeconds := counted } })
        ∧ (c.sec = 59 → c.min < 59 → Gives (.calendarSecond t) s fun s' => s' = { s0 with rtc := { r with cal := { c with min := c.min + 1, sec := 0, subsec := 0 }, secUp := up, vbuSeconds := counted } })
        ∧ (c.sec = 59 → c.min = 59 → c.hour < 23 → Gives (.calendarSecond t) s fun s' => s' = { s0 with rtc := { r with cal := { c with hour := c.hour + 1, min := 0, sec := 0, subsec := 0 }, secUp := up, vbuSeconds := counted } })
        ∧ (last → c.sec = 59 → r.leapArmed ≠ .positive → r.leapFlag = false → ¬ (c.year = 2399 ∧ c.month = 12 ∧ c.day = 31) → Gives (.calendarSecond t) s fun s' => s' = { s0 with rtc := { r with cal := midnightAfter c, secUp := up, vbuSeconds := counted } })
        ∧ (last → c.sec = 59 → r.leapArmed ≠ .positive → r.leapFlag = false → c.year = 2399 ∧ c.month = 12 ∧ c.day = 31 → Gives (.calendarSecond t) s fun s' => s'.rtc = { r with cal := {}, secUp := up, vbuSeconds := counted, valid := false } ∧ s' = { s0 with rtc := s'.rtc, evr := s'.evr })
        ∧ (last → c.sec = 59 → r.leapArmed = .positive → r.leapFlag = false → Gives (.calendarSecond t) s fun s' => s' = { s0 with rtc := { r with cal := { c with subsec := 0 }, secUp := up, vbuSeconds := counted, leapFlag := true } })
        ∧ (last → c.sec = 59 → r.leapFlag = true → c.year < 2399 → Gives (.calendarSecond t) s fun s' => s' = { s0 with rtc := { r with cal := midnightAfter c, secUp := up, vbuSeconds := counted, leapFlag := false, leapArmed := .none, leapToReport := some { positive := true, date := calDate c } } })
        ∧ (last → c.sec = 58 → r.leapArmed = .negative → Gives (.calendarSecond t) s fun s' => s' = { s0 with rtc := { r with cal := midnightAfter c, secUp := up, vbuSeconds := counted, leapFlag := false, leapArmed := .none, leapToReport := some { positive := false, date := calDate c } } }))
    ∧ (¬ locked → Gives (.calendarSync t) s fun s' => s' = s0)
    ∧ (locked → diff.natAbs ≤ s.image.rtc.syncTolMs * 1000000 → Gives (.calendarSync t) s fun s' => s' = { s0 with rtc := { r with valid := true } })
    ∧ (locked → s.image.rtc.syncTolMs * 1000000 < diff.natAbs → (calSeconds c : Int) = s0.utcNs / 1000000000 → Gives (.calendarSync t) s fun s' =>
        s' = { s0 with rtc := { r with cal := { c with subsec := 0 }, secUp := up, valid := true, leapFlag := false, trimRun := none }, evr := s'.evr })
    ∧ (∀ m, r.trimRun = some m → s.image.rtc.trimAuto = true → domLocked s.tim.selState = true → runs → 3600000000000 ≤ s0.sysNow - m.sys0 → Gives (.trimAdjust t) s fun s' =>
        s' = { s0 with rtc := { r with trim := clampI (-127) 127 (r.trim + roundAway (((((s0.sysNow - m.sys0 : Nat) : Int)) - ((calNs s0.calNow : Int) - m.cal0)) * 1048576) (s0.sysNow - m.sys0)), trimRun := some { sys0 := s0.sysNow, cal0 := calNs s0.calNow } } })
    ∧ (r.trimRun = none ∨ s.image.rtc.trimAuto = false ∨ domLocked s.tim.selState = false ∨ lost ∨ (∃ m, r.trimRun = some m ∧ s0.sysNow - m.sys0 < 3600000000000) → Gives (.trimAdjust t) s fun s' => s' = s0)
    ∧ (∀ src v, (bitAt v 0 = false → Gives (.rtcCommit t src v) s fun s' => s' = s0)
        ∧ (bitAt v 0 = true → lost → Gives (.rtcCommit t src v) s fun s' => rejected s')
        ∧ (bitAt v 0 = true → runs → Gives (.rtcCommit t src v) s fun s' => s' = { s0 with rtc := { r with commit := some src } }))
    ∧ (r.commit = none → Gives (.rtcCommitCheck t) s fun s' => s' = s0)
    ∧ (r.commit ≠ none → lost → Gives (.rtcCommitCheck t) s fun s' => rejected s')
    ∧ (r.commit ≠ none → runs → s.staged c.hour c.min c.sec c.year c.month c.day → Gives (.rtcCommitCheck t) s fun s' =>
        s' = { s0 with rtc := { r with cal := { c with subsec := 0 }, secUp := up, commit := none, leapArmed := .none, leapFlag := false, valid := true, trimRun := none }, evr := s'.evr })
    ∧ (∀ h mi sc y mo d, r.commit ≠ none → s.staged h mi sc y mo d → (23 < h ∨ 59 < mi ∨ 59 < sc ∨ y < 2000 ∨ 2399 < y ∨ mo = 0 ∨ 12 < mo ∨ d = 0 ∨ daysInMonth y mo < d) → Gives (.rtcCommitCheck t) s fun s' => rejected s')
    ∧ (r.commit ≠ none → (9 < fieldOf r.stageTime 0 4 ∨ 9 < fieldOf r.stageTime 8 4 ∨ 9 < fieldOf r.stageTime 16 4 ∨ 9 < fieldOf r.stageDate 0 4 ∨ 9 < fieldOf r.stageDate 8 4 ∨ 9 < fieldOf r.stageDate 16 4 ∨ 9 < fieldOf r.stageDate 20 4 ∨ 9 < fieldOf r.stageDate 24 4 ∨ 9 < fieldOf r.stageDate 28 4) →
        Gives (.rtcCommitCheck t) s fun s' => rejected s')
    ∧ (∀ v : Word, let m := (v.setWidth 16 : BitVec 16).toInt
        (m % 15 = 0 ∧ -720 ≤ m ∧ m ≤ 840 → Gives (.rtcLocalOfsWrite t v) s fun s' => s' = { s0 with rtc := { r with localOfs := m } })
        ∧ (¬ (m % 15 = 0 ∧ -720 ≤ m ∧ m ≤ 840) → Gives (.rtcLocalOfsWrite t v) s fun s' => s' = s0)
        ∧ (bitAt v 1 = true → Gives (.dateErrClear t v) s fun s' => s' = { s0 with rtc := { r with dateErr := false } })
        ∧ (bitAt v 1 = false → Gives (.dateErrClear t v) s fun s' => s' = s0))
    ∧ (∀ p k u, assoc r.shadow p = some (k, u) → u + 1000000000 ≤ up → Gives (.calendarShadowTimeout t p) s fun s' =>
        assoc s'.rtc.shadow p = none ∧ (∀ q, q ≠ p → assoc s'.rtc.shadow q = assoc r.shadow q) ∧ s' = { s0 with rtc := { r with shadow := s'.rtc.shadow } })
    ∧ (∀ p, (∀ k u, assoc r.shadow p = some (k, u) → up < u + 1000000000) → Gives (.calendarShadowTimeout t p) s fun s' => s' = s0)

/-- R677, R679, R680, R683, R685, R686, R689 to R691, R694: the backup domain moves to the cell and back by its supplies; a cell that gives out for more than 20 µs resets it; a wake asserts PWR_ON of a unit that is off, begins a round in HARBOUR WATCH, and is else counted; a round ends when every point is fresh or HW_SETTLE has passed, its alarms go into HW_ALARM_POINT, and PWR_ON is released only with no alarm standing or waiting for its acknowledgement; power still there HW_OFF_WAIT later is HELD. SUPPLY_SWITCH_TO_VBU, SUPPLY_SWITCH_TO_MAIN, BACKUP_RESET, WAKE_TIMER, HW_ROUND_SAMPLE, HW_POWER_HELD. -/
def Obligations.BackupDomainKept : Prop :=
  ∀ (t io vbu low : Nat) (s : State),
    let s0 := start t s
    let r := s.rtc
    let up := s.tks.upEdge + t
    let k := s.image.rtc
    let ready := (∀ h, h ∈ k.hwPoints → s0.hwFresh h.point = true) ∨ r.hwT0Up + k.hwSettleS * 1000000000 ≤ up
    (r.onCell = false → (io + 50 < vbu ∨ io < 2600) → Gives (.supplySwitchToVbu t io vbu) s fun s' => s' = { s0 with rtc := { r with onCell := true, switchCnt := inc32 r.switchCnt } })
    ∧ (¬ (r.onCell = false ∧ (io + 50 < vbu ∨ io < 2600)) → Gives (.supplySwitchToVbu t io vbu) s fun s' => s' = s0)
    ∧ (r.onCell = true → vbu + 50 ≤ io → 2700 ≤ io → Gives (.supplySwitchToMain t io vbu) s fun s' => s' = { s0 with rtc := { r with onCell := false } })
    ∧ (¬ (r.onCell = true ∧ vbu + 50 ≤ io ∧ 2700 ≤ io) → Gives (.supplySwitchToMain t io vbu) s fun s' => s' = s0)
    ∧ (low ≤ 20000 → Gives (.backupReset t low) s fun s' => s' = s0)
    ∧ (20000 < low → Gives (.backupReset t low) s fun s' => s'.rtc.valid = false ∧ s'.rtc.cal = { year := 2000, month := 1, day := 1, weekday := 6 } ∧ s'.rtc.trim = 0 ∧ s'.rtc.localOfs = 0 ∧ s'.rtc.startRecs = List.replicate 8 {} ∧ s'.rtc.save = none
        ∧ s'.rtc.leapArmed = .none ∧ s'.rtc.leapFlag = false ∧ s'.rtc.hwArm = false ∧ s'.rtc.wakeEn = false ∧ s'.rtc.wakePeriod = 0 ∧ s'.rtc.pwrOn = true ∧ s'.rtc.bkupRst = true ∧ s'.rtc.startCause = .backupReset ∧ s'.rtc.shadow = []
        ∧ s'.rtc.stageTime = r.stageTime ∧ s'.rtc.stageDate = r.stageDate ∧ s'.rtc.dateErr = r.dateErr ∧ s'.rtc.hwRunning = r.hwRunning ∧ s'.rtc.hwRound = r.hwRound ∧ s'.rtc.onCell = r.onCell ∧ s' = { s0 with rtc := s'.rtc })
    ∧ (r.wakeEn = false ∨ s.clkLost 11 = true → Gives (.wakeTimer t) s fun s' => s' = s0)
    ∧ (r.wakeEn = true → s.clkLost 11 = false →
        (s.sys.state = .off → Gives (.wakeTimer t) s fun s' => s' = { s0 with rtc := { r with pwrOn := true, wakePending := true } })
        ∧ (s.sys.state = .harbourWatch → r.hwRunning = false → Gives (.wakeTimer t) s fun s' =>
            s'.rtc = { r with pwrOn := true, wakePending := false, hwRunning := true, hwRound := (r.hwRound + 1) % 65536, hwT0 := s0.sysNow, hwT0Up := up, hwReleasedUp := none } ∧ s' = { s0 with rtc := s'.rtc, evr := s'.evr })
        ∧ (s.sys.state ≠ .off → (s.sys.state ≠ .harbourWatch ∨ r.hwRunning = true) → Gives (.wakeTimer t) s fun s' => s'.rtc = { r with pwrOn := true, wakePending := false, merged := min 255 (r.merged + 1) } ∧ s' = { s0 with rtc := s'.rtc, evr := s'.evr }))
    ∧ (s.sys.state ≠ .harbourWatch ∨ r.hwRunning = false ∨ ¬ ready → Gives (.hwRoundSample t) s fun s' => s' = s0)
    ∧ (s.sys.state = .harbourWatch → r.hwRunning = true → ready → k.hwPoints.length ≤ 32 → Gives (.hwRoundSample t) s fun s' => ∃ m : Word,
        (∀ i h, k.hwPoints[i]? = some h → bitAt m i = s0.hwInAlarm h) ∧ (∀ i, k.hwPoints.length ≤ i → bitAt m i = false)
        ∧ (∀ p, k.hwAlarmPoint = some p → (s.pointCfg p).writer = 0xFF0A → (s.pointCfg p).type = 1 → (s.pointCfg p).deadband = 0 → (s'.point p).value = m ∧ (s'.point p).quality = 0 ∧ (s'.point p).flags % 4 = 1 ∧ (((s'.point p).flags / 8 % 2 = 1) ↔ m ≠ 0))
        ∧ (∀ q, k.hwAlarmPoint ≠ some q → s'.point q = s.point q)
        ∧ (m = 0 → r.hwUnacked = false → r.hwArm = true → s'.rtc = { r with hwRunning := false, pwrOn := false, hwReleasedUp := some up })
        ∧ ((m ≠ 0 ∨ r.hwUnacked = true ∨ r.hwArm = false) → s'.rtc = { r with hwRunning := false, hwUnacked := r.hwUnacked || m != 0 })
        ∧ s' = { s0 with rtc := s'.rtc, evr := s'.evr, pim := s'.pim, str := { s.str with inbox := s'.str.inbox } })
    ∧ (∀ u, r.hwReleasedUp = some u → s.sys.state = .harbourWatch → r.pwrOn = false → r.hwHeld = false → u + k.hwOffWaitS * 1000000000 ≤ up → Gives (.hwPowerHeld t) s fun s' => s' = { s0 with rtc := { r with hwHeld := true, hwHeldRec := true }, evr := s'.evr })
    ∧ (r.hwReleasedUp = none ∨ s.sys.state ≠ .harbourWatch ∨ r.pwrOn = true ∨ r.hwHeld = true ∨ (∃ u, r.hwReleasedUp = some u ∧ up < u + k.hwOffWaitS * 1000000000) → Gives (.hwPowerHeld t) s fun s' => s' = s0)

/-- R51, R551, R698, R705, R709, R712, R743: from reset release the start runs its steps: the straps are latched, entry 0 of the start record begins, and a failed self-test or a missing directory stops it where the table says. RESET_RELEASE. -/
def Obligations.StartBegins : Prop :=
  ∀ (t : Nat) (i : StartIn) (s : State), s.sys.state = .off →
    (Gives (.resetRelease t i) s fun s' => s'.sys.state ≠ .off ∧ s'.pin.strapRole = i.role % 4 ∧ s'.pin.strapHome = i.home ∧ s'.rec0.used = true
        ∧ s'.rec0.startNo = ((settleRec (nth s.rtc.startRecs 0 {})).startNo + 1) % 256 ∧ s'.flash = s.flash)
    ∧ (∀ x, i.selfTest = some x → Gives (.resetRelease t i) s fun s' => s'.sys.state = .failed ∧ s'.rec0.outcome = .failed ∧ bitAt s'.rec0.failMask 1 = true
        ∧ bitAt s'.saf.present 0 = true)
    ∧ (i.selfTest = none → s.directory = none → s.boot.halted = false → Gives (.resetRelease t i) s fun s' => s'.sys.state = .start ∧ s'.boot.halted = true ∧ s'.boot.haltCause = 0 ∧ s'.rec0.outcome = .halted)

/-- R51, R663, R704, R710, R743: a reset, a loss of power and the start watchdog leave the unit OFF with every gate closed; the configuration memory and the Tally store keep what they hold; a pulse below 1 µs does nothing. RST_N_PULSE, LOSS_OF_POWER and START_WATCHDOG_EXPIRY. -/
def Obligations.ResetsKeepMemory : Prop :=
  ∀ (t : Nat) (s : State),
    (∀ n, n < 1000 → Gives (.rstNPulse t n) s fun s' => s'.sys = s.sys ∧ s'.saf = s.saf ∧ s'.rtc = s.rtc ∧ s'.evr = s.evr ∧ s'.flash = s.flash)
    ∧ (∀ n, 10000 ≤ n → s.sys.state ≠ .off → Gives (.rstNPulse t n) s fun s' => s'.sys = {} ∧ s'.saf = {} ∧ s'.rtc.startCause = .rstN ∧ s'.evr.store = s.evr.store ∧ s'.flash = s.flash
        ∧ s'.rtc.startRecs = s.rtc.startRecs)
    ∧ (∀ l, Gives (.lossOfPower t l) s fun s' => s'.sys = {} ∧ s'.saf = {} ∧ s'.rtc.startCause = .power ∧ s'.rtc.startRecs = s.rtc.startRecs ∧ (s.boot.progBusy = none → s'.flash = s.flash))
    ∧ (s.sys.state = .start → s.boot.halted = false → s.boot.ready = false → 10000000000 ≤ s.tks.upEdge + t → s.rtc.startRecs ≠ [] →
        Gives (.startWatchdogExpiry t) s fun s' => s'.sys = {} ∧ s'.rec0.outcome = .timeout ∧ bitAt s'.rec0.failMask s.boot.step = (decide (s.boot.step < 12) || bitAt s.rec0.failMask s.boot.step)
          ∧ s'.rtc.timeoutToReport = some (s.boot.step, s.rec0.startNo) ∧ s'.flash = s.flash)

/-- R51, R99, R571, R700: the end of discovery fixes the row of the role at start and S9 waits for a master; the end of that wait runs S10 and reaches READY, or leaves S10 failed. DISCOVERY_END and MASTER_WAIT_EXPIRY. -/
def Obligations.StartEnds : Prop :=
  ∀ (t : Nat) (i : S10In) (s : State), s.sys.state = .start →
    (s.boot.step = 8 → s.boot.halted = false → s.boot.s8Up + s.tw.discoveryMs * 1000000 ≤ s.tks.upEdge + t → s.failedTwice 9 = false → (s.domStarts 0 || s.domStarts 1) = true →
        Gives (.discoveryEnd t i) s fun s' => s'.boot.roleRow = s.heardRow ∧ s'.boot.step = 9 ∧ s'.boot.s9Up = s.tks.upEdge + t ∧ s'.sys.state = .start)
    ∧ (s.boot.step = 9 → s.tim.loaded = false → (s.timeAcquired = true ∨ s.boot.s9Up + 300000000 ≤ s.tks.upEdge + t) →
        (i.ok = true → Gives (.masterWaitExpiry t i) s fun s' => s'.boot.ready = true ∧ s'.boot.step = 11 ∧ s'.boot.readyMs = min 65535 i.ms ∧ s'.sys.state ≠ .start ∧ s'.sys.state ≠ .off)
        ∧ (i.ok = false → s.rtc.startRecs ≠ [] → Gives (.masterWaitExpiry t i) s fun s' => s'.sys.state = .start ∧ s'.boot.ready = s.boot.ready ∧ s'.boot.step = 10 ∧ s'.tim.loaded = true
            ∧ bitAt s'.rec0.failMask 10 = true ∧ bitAt s'.rec0.failMask 4 = true ∧ bitAt s'.rec0.failMask 5 = true))

/-- R708, R710, R716, R717: a command register written by a path that may write it. BOOT_CMD_CLEAR_RECORD, BOOT_CMD_RESTART, BOOT_PROG_ADDR_WRITE, BOOT_PROG_DATA_WRITE, PROG_ERASE, PROG_PROGRAM, PROG_SET_PREFER and PROG_READ. -/
def Obligations.BootRegisters : Prop :=
  ∀ (t : Nat) (p : Path) (s : State), s.pathOpen p = true → ¬ (p = .mspi ∧ s.spiRestricted = true) →
    (Gives (.bootCmdClearRecord t p) s fun s' => s'.rtc.startRecs = List.replicate 8 {} ∧ s'.flash = s.flash ∧ s'.sys = s.sys)
    ∧ (s.sys.state ≠ .active → s.sys.state ≠ .off → s.boot.progBusy = none → Gives (.bootCmdRestart t p) s fun s' => s'.sys = {} ∧ s'.rtc.startCause = .rstN ∧ s'.flash = s.flash)
    ∧ (s.sys.state = .active → Gives (.bootCmdRestart t p) s fun s' => s'.sys = s.sys ∧ s'.boot = s.boot ∧ s'.flash = s.flash)
    ∧ (s.progAllowed = true → ∀ v,
        (Gives (.bootProgAddrWrite t p v) s fun s' => s'.boot = { s.boot with progAddr := v, pageFill := 0 } ∧ s'.flash = s.flash)
        ∧ (Gives (.bootProgDataWrite t p v) s fun s' => s'.boot.pageBuf = put s.boot.pageBuf s.boot.pageFill v ∧ s'.boot.progAddr = s.boot.progAddr ∧ s'.flash = s.flash))
    ∧ (s.progAllowed = true → s.boot.progBusy = none →
        (s.progProtected s.boot.progAddr.toNat = false →
          (Gives (.progErase t p) s fun s' => s'.boot.progBusy = some { cmd := .erase, addr := s.boot.progAddr.toNat, arg := 0 } ∧ s'.flash = s.flash)
          ∧ (Gives (.progProgram t p) s fun s' => s'.boot.progBusy = some { cmd := .program, addr := s.boot.progAddr.toNat, arg := 0 } ∧ s'.flash = s.flash))
        ∧ (s.progProtected s.boot.progAddr.toNat = true →
          (Gives (.progErase t p) s fun s' => s'.boot.progBusy = none ∧ s'.boot.progResult = 1 ∧ s'.flash = s.flash)
          ∧ (Gives (.progProgram t p) s fun s' => s'.boot.progBusy = none ∧ s'.boot.progResult = 1 ∧ s'.flash = s.flash))
        ∧ (∀ arg, s.directory ≠ none → Gives (.progSetPrefer t p arg) s fun s' => s'.boot.progBusy = some { cmd := .setPrefer, addr := s.boot.progAddr.toNat, arg := arg % 256 } ∧ s'.flash = s.flash)
        ∧ (Gives (.progRead t p) s fun s' => s'.boot.progBusy = some { cmd := .read, addr := s.boot.progAddr.toNat, arg := 0 } ∧ s'.flash = s.flash))

/-- R715, R717: what a programming command and the rewriting of the directory leave in the configuration memory, byte by byte. That programming only clears bits is PRESUMED. PROG_DONE and DIRECTORY_REWRITE. -/
def Obligations.ConfigurationMemory : Prop :=
  ∀ (t : Nat) (s : State), flashWf s.flash = true →
    (∀ addr arg, s.boot.progBusy = some { cmd := .erase, addr := addr, arg := arg } → s.boot.restartDue = false →
        Gives (.progDone t) s fun s' => s'.boot.progBusy = none ∧ s'.boot.progResult = 0
          ∧ ∀ a, flashByte s'.flash a = if addr / 4096 = a / 4096 then 0xFF else flashByte s.flash a)
    ∧ (∀ addr arg, s.boot.progBusy = some { cmd := .program, addr := addr, arg := arg } → s.boot.restartDue = false → s.boot.pageBuf.length = 64 →
        Gives (.progDone t) s fun s' => s'.boot.progBusy = none
          ∧ ∀ a, flashByte s'.flash a = if addr / 256 = a / 256 then flashByte s.flash a &&& nth (pageBytes s.boot.pageBuf) (a % 256) 0 else flashByte s.flash a)
    ∧ (∀ addr arg, s.boot.progBusy = some { cmd := .read, addr := addr, arg := arg } → s.boot.restartDue = false →
        Gives (.progDone t) s fun s' => s'.boot.progBusy = none ∧ s'.boot.progResult = 0 ∧ s'.boot.pageBuf = wordsOf (flashBytes s.flash addr 256) ∧ s'.flash = s.flash)
    ∧ (∀ d addr arg, s.directory = some d → s.boot.progBusy = some { cmd := .setPrefer, addr := addr, arg := arg } → s.boot.restartDue = false →
        Gives (.progDone t) s fun s' => s'.boot.progBusy = none ∧ s'.boot.progResult = 0 ∧ flashByte s'.flash (dirAddr (1 - d.copy) + 12) = BitVec.ofNat 8 arg
          ∧ ∀ a, a < dirAddr (1 - d.copy) ∨ dirAddr (1 - d.copy) + 4096 ≤ a → flashByte s'.flash a = flashByte s.flash a)
    ∧ (∀ d, s.directory = some d → s.boot.rewriteDue = true →
        Gives (.directoryRewrite t) s fun s' => s'.boot.rewriteDue = false ∧ flashByte s'.flash (dirAddr (1 - d.copy) + 12) = preferByte s.boot.fwSlot s.boot.cfgSlot
          ∧ ∀ a, a < dirAddr (1 - d.copy) ∨ dirAddr (1 - d.copy) + 4096 ≤ a → flashByte s'.flash a = flashByte s.flash a)

/-- The configuration memory keeps its canonical form: addresses rising, no erased byte listed. -/
def Obligations.FlashFormKept : Prop :=
  ∀ (s s' : State), Sys2Proof.Machine.step s = .next s' → flashWf s.flash = true → flashWf s'.flash = true

/-- R20, R528, R758, R765, R768 to R770: a write by an access path that is not open, or at an address in no register, does nothing; one to a register that is no tunable, or that the unit's state does not permit, does nothing but record NET_REG_DENIED for a session; a carried tunable written in ACTIVE joins the commands of its tick, in order of arrival; the others take effect as their own commands do. DFC_SYNC_RESET, DFC_SWAP_REQ, CTX_CMD_SET_OPERATOR, CTX_CMD_CLEAR_OPERATOR, REF_CMD_SELECT, REF_CMD_REDEPLOY, REF_CMD_CLEAR_TRACKS, PCL_GAIN_SCALE_WRITE, CA_CMD_START, ENC_PRESET_VALUE, ENC_PRESET_CHANNEL, PIM_PAGE_WRITE, TWN_CMD_HANDOVER, TWN_CMD_HOLD_RETURN, TWN_CMD_RELEASE_RETURN, REGISTER_WRITE. -/
def Obligations.RegisterWritesTaken : Prop :=
  ∀ (t : Nat) (p : Path) (s : State),
    let s0 := start t s
    let free := fun (a : Word) => s0.pathOpen p = true ∧ s0.readWord p a.toNat ≠ none ∧ ¬ (p = .mspi ∧ s.spiRestricted = true)
    let denied := fun (a v : Word) (s' : State) => (p = .mspi → s' = s0) ∧ (∀ n, p = .session n → s' = record 0x0E07 4 ((s0.maintStation n).getD 0) a.toNat v.toNat s.tickNo s0) ∧ s' = { s0 with evr := s'.evr }
    let arrives := fun (k : StnCmd) (s' : State) => s' = { s0 with net := { s.net with cmdsIn := s.net.cmdsIn ++ [{ cmd := k, session := none }] } }
    (∀ c a v, namedWrite c = some (t, p, a, v) →
      (s0.pathOpen p = false ∨ s0.readWord p a.toNat = none ∨ (p = .mspi ∧ s.spiRestricted = true) → Gives c s fun s' => s' = s0)
      ∧ (free a → tunableAt a = false → Gives c s fun s' => denied a v s')
      ∧ (∀ reg, free a → carriedAt a = some reg → s.sys.state = .active → Gives c s fun s' => arrives (.tune reg v) s')
      ∧ (free a → (carriedAt a).isSome = true ∨ a = 0x380040 → s.sys.state ≠ .active → Gives c s fun s' => denied a v s')
      ∧ (free a → a = 0x500004 → Gives c s fun s' => assoc s'.pim.page p = some (v.toNat % 32) ∧ (∀ q, q ≠ p → assoc s'.pim.page q = assoc s.pim.page q) ∧ s' = { s0 with pim := { s.pim with page := s'.pim.page } })
      ∧ (free a → a = 0x600018 →
          (v = 2 → Gives c s fun s' => s' = { s0 with twn := { s.twn with holdReturn := true, returnFrom := none } })
          ∧ (v = 4 → Gives c s fun s' => s' = { s0 with twn := { s.twn with holdReturn := false, returnFrom := none } })
          ∧ (v = 1 → s.sys.state ≠ .active → Gives c s fun s' => s' = s0)
          ∧ (v = 1 → s.sys.state = .active → Gives c s fun s' => s' = (requestHandover .register s0).2))
      ∧ (free a → a = 0x680010 → Gives c s fun s' => s' = { s0 with rtc := { s.rtc with stageTime := v } })
      ∧ (free a → a = 0x680014 → Gives c s fun s' => s' = { s0 with rtc := { s.rtc with stageDate := v } })
      ∧ (free a → a = 0x640080 → exec c s = exec (.evrReadSeqWrite t p v) s)
      ∧ (free a → a = 0x680000 → exec c s = exec (.dateErrClear t v) s)
      ∧ (free a → a = 0x680018 → exec c s = exec (.rtcCommit t (if p = .mspi then 0 else 1) v) s)
      ∧ (free a → a = 0x68001C → exec c s = exec (.rtcLocalOfsWrite t v) s))
    ∧ (∀ v n x,
        (free 0x380040 → s.sys.state = .active → assoc s.srv.presetVal p = none → Gives (.encPresetValue t p v) s fun s' => assoc s'.srv.presetVal p = some v ∧ (∀ q, q ≠ p → assoc s'.srv.presetVal q = assoc s.srv.presetVal q) ∧ s' = { s0 with srv := { s.srv with presetVal := s'.srv.presetVal } })
        ∧ (assoc s.srv.presetVal p = some x → Gives (.encPresetValue t p v) s fun s' => s' = s0)
        ∧ (assoc s.srv.presetVal p = none → Gives (.encPresetChannel t p n) s fun s' => s' = s0)
        ∧ (free 0x380040 → s.sys.state = .active → assoc s.srv.presetVal p = some x → n < 16 → Gives (.encPresetChannel t p n) s fun s' => assoc s'.srv.presetVal p = none
            ∧ s' = { s0 with srv := { s.srv with presetVal := s'.srv.presetVal }, net := { s.net with cmdsIn := s.net.cmdsIn ++ [{ cmd := .encPreset x n, session := none }] } })
        ∧ (free 0x380040 → s.sys.state ≠ .active → assoc s.srv.presetVal p = none → Gives (.encPresetValue t p v) s fun s' => denied 0x380040 v s'))

/-- R18, R41, R118, R483, R501, R528, R545, R655, R676: a read of the leading register of a frozen set freezes the others for its path, a read of the last releases them; a read of RTC_TIME or RTC_SUBSEC freezes the calendar, one of RTC_DATE releases it; a read of EVR_WRITTEN freezes the Tally's books; word 0 of a point freezes it and word 3 releases it, as do 100 µs; word 0 of a receive buffer locks it and word 18, read by the path that holds it, releases it; a read clears exactly the bits of class RC. TIME_SHADOW_FREEZE, TIME_SHADOW_RELEASE, CALENDAR_SHADOW_FREEZE, CALENDAR_SHADOW_RELEASE, EVR_BOOKS_FREEZE, EVR_BOOKS_RELEASE, POINT_WINDOW_FREEZE, POINT_WINDOW_RELEASE, POINT_FREEZE_TIMEOUT, RX_BUFFER_LOCK, RX_BUFFER_RELEASE, READ_CLEAR. -/
def Obligations.ReadsFreezeAndClear : Prop :=
  ∀ (t : Nat) (p : Path) (s : State), (start t s).pathOpen p = true →
    let s0 := start t s
    let up := s.tks.upEdge + t
    (Gives (.timeShadowFreeze t p 0x030008) s fun s' => assoc s'.tim.shadow p = some (s0.timNow / 1000000000) ∧ (∀ q, q ≠ p → assoc s'.tim.shadow q = assoc s.tim.shadow q) ∧ s' = { s0 with tim := { s.tim with shadow := s'.tim.shadow } })
    ∧ (Gives (.timeShadowFreeze t p 0x040000) s fun s' => assoc s'.tks.frozenHi p = some (s.tks.tickExt / 2 ^ 32) ∧ s' = { s0 with tks := { s0.tks with frozenHi := s'.tks.frozenHi } })
    ∧ (Gives (.timeShadowRelease t p 0x030010) s fun s' => assoc s'.tim.shadow p = none ∧ (∀ q, q ≠ p → assoc s'.tim.shadow q = assoc s.tim.shadow q) ∧ s' = { s0 with tim := { s.tim with shadow := s'.tim.shadow } })
    ∧ (Gives (.timeShadowRelease t p 0x04000C) s fun s' => assoc s'.tks.frozenHi p = none ∧ s' = { s0 with tks := { s0.tks with frozenHi := s'.tks.frozenHi } })
    ∧ (∀ n, n < 8 →
        (Gives (.timeShadowFreeze t p (0x0300C0 + 0x10 * n)) s fun s' => assoc s'.tim.evtFrozen (p, n) = some (nth s.tim.evt n {}).lastWords ∧ s' = { s0 with tim := { s.tim with evtFrozen := s'.tim.evtFrozen } })
        ∧ (Gives (.timeShadowRelease t p (0x0300C8 + 0x10 * n)) s fun s' => assoc s'.tim.evtFrozen (p, n) = none ∧ s' = { s0 with tim := { s.tim with evtFrozen := s'.tim.evtFrozen } })
        ∧ (Gives (.timeShadowFreeze t p (0x400020 + 0x10000 * n)) s fun s' => assoc s'.bus.frozen (p, n) = some (s.bus.latCnt, s.bus.latA) ∧ s' = { s0 with bus := { s.bus with frozen := s'.bus.frozen } })
        ∧ (Gives (.timeShadowRelease t p (0x40002C + 0x10000 * n)) s fun s' => assoc s'.bus.frozen (p, n) = none ∧ s' = { s0 with bus := { s.bus with frozen := s'.bus.frozen } }))
    ∧ (∀ reg, reg = 0 ∨ reg = 2 → (assoc s.rtc.shadow p = none → Gives (.calendarShadowFreeze t p reg) s fun s' => assoc s'.rtc.shadow p = some (s0.calNow, up) ∧ (∀ q, q ≠ p → assoc s'.rtc.shadow q = assoc s.rtc.shadow q) ∧ s' = { s0 with rtc := { s.rtc with shadow := s'.rtc.shadow } })
        ∧ (assoc s.rtc.shadow p ≠ none → Gives (.calendarShadowFreeze t p reg) s fun s' => s' = s0))
    ∧ (Gives (.calendarShadowRelease t p) s fun s' => assoc s'.rtc.shadow p = none ∧ (∀ q, q ≠ p → assoc s'.rtc.shadow q = assoc s.rtc.shadow q) ∧ s' = { s0 with rtc := { s.rtc with shadow := s'.rtc.shadow } })
    ∧ (Gives (.evrBooksFreeze t p) s fun s' => assoc s'.evr.books p = some { stored := s.evr.stored, overwritten := s.evr.overwritten, dropped := s.evr.dropped, pending := s.evr.pend.length + s.evr.inFlight.length }
        ∧ (∀ q, q ≠ p → assoc s'.evr.books q = assoc s.evr.books q) ∧ s' = { s0 with evr := { s.evr with books := s'.evr.books } })
    ∧ (Gives (.evrBooksRelease t p) s fun s' => assoc s'.evr.books p = none ∧ (∀ q, q ≠ p → assoc s'.evr.books q = assoc s.evr.books q) ∧ s' = { s0 with evr := { s.evr with books := s'.evr.books } })
    ∧ (∀ i, i < 4096 →
        (Gives (.pointWindowFreeze t p i) s fun s' => s'.readPoint p (s.windowPoint p i) = s.readPoint p (s.windowPoint p i) ∧ (∃ r u, (p, s.windowPoint p i, r, u) ∈ s'.pim.frozen) ∧ s' = { s0 with pim := { s.pim with frozen := s'.pim.frozen } })
        ∧ (Gives (.pointWindowRelease t p i) s fun s' => (∀ r u, (p, s.windowPoint p i, r, u) ∉ s'.pim.frozen) ∧ s'.readPoint p (s.windowPoint p i) = s.point (s.windowPoint p i) ∧ s' = { s0 with pim := { s.pim with frozen := s'.pim.frozen } }))
    ∧ (∀ pt, Gives (.pointFreezeTimeout t p pt) s fun s' => (∀ r u, (p, pt, r, u) ∈ s'.pim.frozen ↔ (p, pt, r, u) ∈ s.pim.frozen ∧ up < u + 100000) ∧ (∀ q k r u, q ≠ p ∨ k ≠ pt → ((q, k, r, u) ∈ s'.pim.frozen ↔ (q, k, r, u) ∈ s.pim.frozen)) ∧ s' = { s0 with pim := { s.pim with frozen := s'.pim.frozen } })
    ∧ (∀ n b, n < 8 → b ≤ 64 →
        (s.rxBuffer n b = false → (Gives (.rxBufferLock t p n b) s fun s' => s' = s0) ∧ (Gives (.rxBufferRelease t p n b) s fun s' => s' = s0))
        ∧ (s.mbcs.length = 8 → (s.mbc n).bufs.length = 64 → s.rxBuffer n b = true → s.rxLockOf n b = none → (b = 64 → (s.mbc n).fifo ≠ []) → Gives (.rxBufferLock t p n b) s fun s' => s'.rxLockOf n b = some (p, up) ∧ (∀ m, m ≠ n → s'.mbc m = s.mbc m) ∧ s' = { s0 with mbcs := s'.mbcs })
        ∧ (s.rxLockOf n b ≠ none → s.rxBuffer n b = true → Gives (.rxBufferLock t p n b) s fun s' => s'.rxLockOf n b = s.rxLockOf n b ∧ s' = { s0 with mbcs := s'.mbcs })
        ∧ (∀ q u, s.mbcs.length = 8 → (s.mbc n).bufs.length = 64 → s.rxBuffer n b = true → s.rxLockOf n b = some (q, u) →
            (q ≠ p → Gives (.rxBufferRelease t p n b) s fun s' => s' = s0)
            ∧ (q = p → Gives (.rxBufferRelease t p n b) s fun s' => s'.rxLockOf n b = none ∧ (∀ m, m ≠ n → s'.mbc m = s.mbc m) ∧ s' = { s0 with mbcs := s'.mbcs }
                ∧ (b = 64 → (s'.mbc n).fifo = (s.mbc n).fifo.drop 1)
                ∧ (b < 64 → ∀ f, (nth (s.mbc n).bufs b {}).shadow = some f → (nth (s'.mbc n).bufs b {}).frame = some f ∧ (nth (s'.mbc n).bufs b {}).shadow = none ∧ (nth (s'.mbc n).bufs b {}).unread = true))))
    ∧ (∀ a, a % 4 = 0 → Gives (.readClear t p a) s fun s' => s'.readWord p a = (s0.readWord p a).map (fun w => w &&& ~~~ rcBits a)
        ∧ s' = { s0 with sys := s'.sys, tks := s'.tks, gnb := s'.gnb, str := s'.str, fus := s'.fus, dfc := s'.dfc, als := s'.als, srv := s'.srv, mbcs := s'.mbcs, net := s'.net, pim := s'.pim, twn := s'.twn, evr := s'.evr, rtc := s'.rtc })

/-- R528, R757, R758, R765, R766, R768: a frame of the maintenance SPI port returns the result of the frame before it; one not of 72 bits or with a bad CRC is not carried out and leaves RESULT 7 or 6; a read returns the word and takes its effect; an address in no register leaves RESULT 4, a write that is denied RESULT 3, and a carried tunable written in ACTIVE RESULT 0 with the command in its tick. REG READ and REG WRITE of a MAINT session are answered in the same way, by one reply. MSPI_FRAME, REG_READ, REG_WRITE. -/
def Obligations.MaintenanceAccess : Prop :=
  ∀ (t bits : Nat) (f : BitVec 72) (h : StnHdr) (a v : Word) (count : Nat) (s : State),
    let s0 := start t s
    let n := f.toNat
    let hi := n / 2 ^ 40
    let addr := hi % 2 ^ 31
    let d := wordN (n / 2 ^ 8)
    let m := s.mspi
    let answered := { s0 with out := [.mspiReply bits m.result m.addr m.data (mspiCrc (m.result * 2 ^ 24 + m.addr) m.data.toNat)] }
    let whole := s.sys.state ≠ .off ∧ bits = 72 ∧ mspiCrc hi d.toNat = n % 256
    let turned := fun (r : Nat) (s' : State) => s'.mspi.result = r ∧ s'.mspi.addr = hi % 2 ^ 24 ∧ s' = { answered with mspi := s'.mspi, draws := s'.draws }
    let mapped := fun (q : Path) (x : Nat) => s0.readWord q x ≠ none
    let p := Path.session h.session
    let served := s.hears h = true ∧ s0.refusalOf h rightMaint = none ∧ s.calm h ∧ h.ioPort = false
    let replied := fun (r : Reply) (s' : State) => s'.out = [.reply h.session (s.nextTx h.session) r] ∧ s' = { s0 with net := s'.net, out := s'.out, evr := s'.evr }
    (s.sys.state = .off → Gives (.mspiFrame t bits f) s fun s' => s' = s0)
    ∧ (s.sys.state ≠ .off → bits ≠ 72 → Gives (.mspiFrame t bits f) s fun s' => s'.mspi.result = 7 ∧ s' = { answered with mspi := s'.mspi, draws := s'.draws })
    ∧ (s.sys.state ≠ .off → bits = 72 → mspiCrc hi d.toNat ≠ n % 256 → Gives (.mspiFrame t bits f) s fun s' => turned 6 s')
    ∧ (∀ w, whole → hi < 2 ^ 31 → s0.readWord .mspi addr = some w → Gives (.mspiFrame t bits f) s fun s' => s'.mspi = { result := 0, addr := hi % 2 ^ 24, data := w } ∧ s' = { readEffect .mspi addr answered with mspi := s'.mspi })
    ∧ (whole → ¬ mapped .mspi addr → Gives (.mspiFrame t bits f) s fun s' => turned 4 s')
    ∧ (whole → 2 ^ 31 ≤ hi → mapped .mspi addr → s.spiRestricted = true ∨ tunableAt (wordN addr) = false → Gives (.mspiFrame t bits f) s fun s' => turned 3 s')
    ∧ (∀ reg, whole → 2 ^ 31 ≤ hi → mapped .mspi addr → s.spiRestricted = false → carriedAt (wordN addr) = some reg → s.sys.state = .active → Gives (.mspiFrame t bits f) s fun s' =>
        s' = { answered with mspi := { result := 0, addr := hi % 2 ^ 24, data := d }, net := { s.net with cmdsIn := s.net.cmdsIn ++ [{ cmd := .tune reg d, session := none }] } })
    ∧ (served → (count = 0 ∨ 64 < count) → Gives (.regRead t h a count) s fun s' => replied (.regRead 4 a []) s')
    ∧ (served → a.toNat % 4 ≠ 0 → Gives (.regRead t h a count) s fun s' => replied (.regRead 4 a []) s')
    ∧ (served → a = 0x680010 → count = 2 → Gives (.regRead t h a count) s fun s' => replied (.regRead 0 a [s.rtc.stageTime, s.rtc.stageDate]) s')
    ∧ (served → a.toNat % 4 ≠ 0 → Gives (.regWrite t h a v) s fun s' => replied (.regWrite 4 a) s')
    ∧ (served → mapped p a.toNat → tunableAt a = false → Gives (.regWrite t h a v) s fun s' => replied (.regWrite 3 a) s')
    ∧ (∀ reg, served → carriedAt a = some reg → s.sys.state = .active → Gives (.regWrite t h a v) s fun s' => replied (.regWrite 0 a) s' ∧ s'.net.cmdsIn = s.net.cmdsIn ++ [{ cmd := .tune reg v, session := none }])
end

