-- ==== Sys2Proof/Laws/Flash.lean ====
section
/-! SUPPORT. The laws of the configuration memory: placing bytes keeps the canonical form, reads back what was placed, and leaves every other byte. -/

namespace Sys2Proof.Machine

open Sys2Proof

/-- A list in canonical form from an address on. -/
def flashFrom (lo : Nat) : List Host.Cell → Prop
  | [] => True
  | (a, b) :: rest => lo ≤ a ∧ b ≠ 0xFF ∧ flashFrom (a + 1) rest

theorem flashFrom_mono {lo hi : Nat} (h : lo ≤ hi) : ∀ m, flashFrom hi m → flashFrom lo m
  | [], _ => trivial
  | (_, _) :: _, ⟨h1, h2, h3⟩ => ⟨by omega, h2, h3⟩

theorem flashWf_iff : ∀ m, flashWf m = true ↔ flashFrom 0 m
  | [] => by simp [flashWf, flashFrom]
  | [(a, b)] => by simp [flashWf, flashFrom]
  | (a, b) :: (a', b') :: rest => by
    have ih := flashWf_iff ((a', b') :: rest)
    simp only [flashWf, Bool.and_eq_true, bne_iff_ne, decide_eq_true_eq, flashFrom] at ih ⊢
    constructor
    · rintro ⟨⟨h1, h2⟩, h3⟩
      exact ⟨by omega, h1, by omega, (ih.1 h3).2⟩
    · rintro ⟨_, h1, h2, h3, h4⟩
      exact ⟨⟨h1, by omega⟩, ih.2 ⟨by omega, h3, h4⟩⟩

/-- A byte below all that is listed reads as erased. -/
theorem flashByte_below {lo a : Nat} (h : a < lo) : ∀ m, flashFrom lo m → flashByte m a = 0xFF
  | [], _ => rfl
  | (x, c) :: rest, ⟨h1, _, h3⟩ => by
    have := flashByte_below (show a < x + 1 by omega) rest h3
    unfold flashByte at this ⊢
    rw [assoc, if_neg (by omega)]; exact this

theorem flashFrom_put (a : Nat) (b : Byte) : ∀ (lo : Nat) (m : List Host.Cell), flashFrom lo m → flashFrom (min lo a) (flashPut m a b)
  | lo, [], _ => by
    unfold flashPut; split
    · trivial
    · exact ⟨by omega, by assumption, trivial⟩
  | lo, (x, c) :: rest, ⟨h1, h2, h3⟩ => by
    unfold flashPut
    split
    · split
      · exact ⟨by omega, h2, h3⟩
      · exact ⟨by omega, by assumption, by omega, h2, h3⟩
    · split
      · split
        · exact flashFrom_mono (by omega) rest h3
        · exact ⟨by omega, by assumption, by subst_vars; exact h3⟩
      · have ih := flashFrom_put a b (x + 1) rest h3
        rw [Nat.min_eq_left (by omega)] at ih
        exact ⟨by omega, h2, ih⟩

theorem flashWf_put (m : List Host.Cell) (a : Nat) (b : Byte) (h : flashWf m = true) : flashWf (flashPut m a b) = true :=
  (flashWf_iff _).2 (flashFrom_mono (by omega) _ (flashFrom_put a b 0 m ((flashWf_iff m).1 h)))

theorem flashWf_set (m : List Host.Cell) (a : Nat) (bs : List Byte) (h : flashWf m = true) : flashWf (flashSet m a bs) = true := by
  induction bs generalizing m a with
  | nil => exact h
  | cons b bs ih => exact ih _ _ (flashWf_put m a b h)

theorem flashByte_put_from (a k : Nat) (b : Byte) : ∀ (lo : Nat) (m : List Host.Cell), flashFrom lo m → flashByte (flashPut m a b) k = if k = a then b else flashByte m k
  | lo, [], _ => by
    unfold flashPut; split
    · subst_vars; unfold flashByte; simp [assoc]
    · unfold flashByte; simp only [assoc]; by_cases h : k = a
      · simp [h]
      · have h' : ¬ a = k := fun e => h e.symm
        simp [h, h']
  | lo, (x, c) :: rest, ⟨h1, h2, h3⟩ => by
    unfold flashPut
    split
    · rename_i hax
      have hb := flashByte_below hax ((x, c) :: rest) ⟨Nat.le_refl x, h2, h3⟩
      split
      · by_cases h : k = a
        · subst_vars; simp [hb]
        · simp [h]
      · by_cases h : k = a
        · subst h; simp [flashByte, assoc]
        · have h' : ¬ a = k := fun e => h e.symm
          simp [flashByte, assoc, h, h']
    · split
      · rename_i hx; subst hx
        have hb := flashByte_below (Nat.lt_succ_self a) rest h3
        split
        · by_cases h : k = a
          · subst_vars; simp [hb]
          · have h' : ¬ a = k := fun e => h e.symm
            simp [flashByte, assoc, h, h']
        · by_cases h : k = a
          · subst h; simp [flashByte, assoc]
          · have h' : ¬ a = k := fun e => h e.symm
            simp [flashByte, assoc, h, h']
      · have ih := flashByte_put_from a k b (x + 1) rest h3
        unfold flashByte at ih ⊢
        simp only [assoc]
        by_cases hx : x = k
        · simp [hx]; intro h; omega
        · simp only [hx, if_false]; exact ih

/-- A byte placed reads back; every other byte is as it was. -/
theorem flashByte_put (m : List Host.Cell) (a k : Nat) (b : Byte) (h : flashWf m = true) : flashByte (flashPut m a b) k = if k = a then b else flashByte m k :=
  flashByte_put_from a k b 0 m ((flashWf_iff m).1 h)

/-- Bytes placed read back; every other byte is as it was. -/
theorem flashByte_set (m : List Host.Cell) (a k : Nat) (bs : List Byte) (h : flashWf m = true) :
    flashByte (flashSet m a bs) k = if a ≤ k ∧ k < a + bs.length then nth bs (k - a) 0 else flashByte m k := by
  induction bs generalizing m a with
  | nil => rw [flashSet, if_neg (by simp only [List.length_nil]; omega)]
  | cons b bs ih =>
    rw [flashSet, ih _ _ (flashWf_put m a b h), flashByte_put m a k b h]
    simp only [List.length_cons]
    by_cases h1 : k = a
    · subst h1; rw [if_neg (by omega), if_pos rfl, if_pos (by omega), Nat.sub_self]; rfl
    · by_cases h2 : a + 1 ≤ k ∧ k < a + 1 + bs.length
      · rw [if_pos h2, if_pos (by omega)]
        obtain ⟨j, rfl⟩ : ∃ j, k = a + 1 + j := ⟨k - (a + 1), by omega⟩
        have e1 : a + 1 + j - (a + 1) = j := by omega
        have e2 : a + 1 + j - a = j + 1 := by omega
        rw [e1, e2]; simp [nth]
      · rw [if_neg h2, if_neg h1, if_neg (by omega)]

theorem flashBytes_length (m : List Host.Cell) (a n : Nat) : (flashBytes m a n).length = n := by simp [flashBytes]

theorem nth_flashBytes (m : List Host.Cell) (a n i : Nat) (h : i < n) : nth (flashBytes m a n) i 0 = flashByte m (a + i) := by
  simp [nth, flashBytes, h]

theorem flashWf_writeDir (d : Directory) (c : List (Nat × List Byte)) (s : State) (h : flashWf s.flash = true) : flashWf (writeDir d c s).flash = true :=
  flashWf_set _ _ _ (flashWf_set _ _ _ h)

end Sys2Proof.Machine
end

