-- ==== Sys2Proof/Laws/Ops.lean ====
section
/-! SUPPORT. What each shared operation leaves unchanged, field by field: an operation has a lemma for every field of the state it does not write. -/

set_option linter.all false

namespace Sys2Proof.Machine
open Sys2Proof

theorem foldl_sys {α : Type} (g : State → α → State) (h : ∀ s x, (g s x).sys = s.sys) : ∀ (l : List α) (s : State), (l.foldl g s).sys = s.sys
  | [], _ => rfl
  | x :: xs, s => by rw [List.foldl_cons, foldl_sys g h xs, h]

theorem foldl_clk {α : Type} (g : State → α → State) (h : ∀ s x, (g s x).clk = s.clk) : ∀ (l : List α) (s : State), (l.foldl g s).clk = s.clk
  | [], _ => rfl
  | x :: xs, s => by rw [List.foldl_cons, foldl_clk g h xs, h]

theorem foldl_tks {α : Type} (g : State → α → State) (h : ∀ s x, (g s x).tks = s.tks) : ∀ (l : List α) (s : State), (l.foldl g s).tks = s.tks
  | [], _ => rfl
  | x :: xs, s => by rw [List.foldl_cons, foldl_tks g h xs, h]

theorem foldl_tim {α : Type} (g : State → α → State) (h : ∀ s x, (g s x).tim = s.tim) : ∀ (l : List α) (s : State), (l.foldl g s).tim = s.tim
  | [], _ => rfl
  | x :: xs, s => by rw [List.foldl_cons, foldl_tim g h xs, h]

theorem foldl_gnb {α : Type} (g : State → α → State) (h : ∀ s x, (g s x).gnb = s.gnb) : ∀ (l : List α) (s : State), (l.foldl g s).gnb = s.gnb
  | [], _ => rfl
  | x :: xs, s => by rw [List.foldl_cons, foldl_gnb g h xs, h]

theorem foldl_dfc {α : Type} (g : State → α → State) (h : ∀ s x, (g s x).dfc = s.dfc) : ∀ (l : List α) (s : State), (l.foldl g s).dfc = s.dfc
  | [], _ => rfl
  | x :: xs, s => by rw [List.foldl_cons, foldl_dfc g h xs, h]

theorem foldl_str {α : Type} (g : State → α → State) (h : ∀ s x, (g s x).str = s.str) : ∀ (l : List α) (s : State), (l.foldl g s).str = s.str
  | [], _ => rfl
  | x :: xs, s => by rw [List.foldl_cons, foldl_str g h xs, h]

theorem foldl_fus {α : Type} (g : State → α → State) (h : ∀ s x, (g s x).fus = s.fus) : ∀ (l : List α) (s : State), (l.foldl g s).fus = s.fus
  | [], _ => rfl
  | x :: xs, s => by rw [List.foldl_cons, foldl_fus g h xs, h]

theorem foldl_saf {α : Type} (g : State → α → State) (h : ∀ s x, (g s x).saf = s.saf) : ∀ (l : List α) (s : State), (l.foldl g s).saf = s.saf
  | [], _ => rfl
  | x :: xs, s => by rw [List.foldl_cons, foldl_saf g h xs, h]

theorem foldl_evr {α : Type} (g : State → α → State) (h : ∀ s x, (g s x).evr = s.evr) : ∀ (l : List α) (s : State), (l.foldl g s).evr = s.evr
  | [], _ => rfl
  | x :: xs, s => by rw [List.foldl_cons, foldl_evr g h xs, h]

theorem foldl_rtc {α : Type} (g : State → α → State) (h : ∀ s x, (g s x).rtc = s.rtc) : ∀ (l : List α) (s : State), (l.foldl g s).rtc = s.rtc
  | [], _ => rfl
  | x :: xs, s => by rw [List.foldl_cons, foldl_rtc g h xs, h]

theorem foldl_boot {α : Type} (g : State → α → State) (h : ∀ s x, (g s x).boot = s.boot) : ∀ (l : List α) (s : State), (l.foldl g s).boot = s.boot
  | [], _ => rfl
  | x :: xs, s => by rw [List.foldl_cons, foldl_boot g h xs, h]

theorem foldl_pin {α : Type} (g : State → α → State) (h : ∀ s x, (g s x).pin = s.pin) : ∀ (l : List α) (s : State), (l.foldl g s).pin = s.pin
  | [], _ => rfl
  | x :: xs, s => by rw [List.foldl_cons, foldl_pin g h xs, h]

theorem foldl_mspi {α : Type} (g : State → α → State) (h : ∀ s x, (g s x).mspi = s.mspi) : ∀ (l : List α) (s : State), (l.foldl g s).mspi = s.mspi
  | [], _ => rfl
  | x :: xs, s => by rw [List.foldl_cons, foldl_mspi g h xs, h]

theorem foldl_twn {α : Type} (g : State → α → State) (h : ∀ s x, (g s x).twn = s.twn) : ∀ (l : List α) (s : State), (l.foldl g s).twn = s.twn
  | [], _ => rfl
  | x :: xs, s => by rw [List.foldl_cons, foldl_twn g h xs, h]

theorem foldl_pcl {α : Type} (g : State → α → State) (h : ∀ s x, (g s x).pcl = s.pcl) : ∀ (l : List α) (s : State), (l.foldl g s).pcl = s.pcl
  | [], _ => rfl
  | x :: xs, s => by rw [List.foldl_cons, foldl_pcl g h xs, h]

theorem foldl_als {α : Type} (g : State → α → State) (h : ∀ s x, (g s x).als = s.als) : ∀ (l : List α) (s : State), (l.foldl g s).als = s.als
  | [], _ => rfl
  | x :: xs, s => by rw [List.foldl_cons, foldl_als g h xs, h]

theorem foldl_srv {α : Type} (g : State → α → State) (h : ∀ s x, (g s x).srv = s.srv) : ∀ (l : List α) (s : State), (l.foldl g s).srv = s.srv
  | [], _ => rfl
  | x :: xs, s => by rw [List.foldl_cons, foldl_srv g h xs, h]

theorem foldl_mbcs {α : Type} (g : State → α → State) (h : ∀ s x, (g s x).mbcs = s.mbcs) : ∀ (l : List α) (s : State), (l.foldl g s).mbcs = s.mbcs
  | [], _ => rfl
  | x :: xs, s => by rw [List.foldl_cons, foldl_mbcs g h xs, h]

theorem foldl_bus {α : Type} (g : State → α → State) (h : ∀ s x, (g s x).bus = s.bus) : ∀ (l : List α) (s : State), (l.foldl g s).bus = s.bus
  | [], _ => rfl
  | x :: xs, s => by rw [List.foldl_cons, foldl_bus g h xs, h]

theorem foldl_net {α : Type} (g : State → α → State) (h : ∀ s x, (g s x).net = s.net) : ∀ (l : List α) (s : State), (l.foldl g s).net = s.net
  | [], _ => rfl
  | x :: xs, s => by rw [List.foldl_cons, foldl_net g h xs, h]

theorem foldl_pim {α : Type} (g : State → α → State) (h : ∀ s x, (g s x).pim = s.pim) : ∀ (l : List α) (s : State), (l.foldl g s).pim = s.pim
  | [], _ => rfl
  | x :: xs, s => by rw [List.foldl_cons, foldl_pim g h xs, h]

theorem foldl_flash {α : Type} (g : State → α → State) (h : ∀ s x, (g s x).flash = s.flash) : ∀ (l : List α) (s : State), (l.foldl g s).flash = s.flash
  | [], _ => rfl
  | x :: xs, s => by rw [List.foldl_cons, foldl_flash g h xs, h]

theorem foldl_image {α : Type} (g : State → α → State) (h : ∀ s x, (g s x).image = s.image) : ∀ (l : List α) (s : State), (l.foldl g s).image = s.image
  | [], _ => rfl
  | x :: xs, s => by rw [List.foldl_cons, foldl_image g h xs, h]

theorem foldl_imageOk {α : Type} (g : State → α → State) (h : ∀ s x, (g s x).imageOk = s.imageOk) : ∀ (l : List α) (s : State), (l.foldl g s).imageOk = s.imageOk
  | [], _ => rfl
  | x :: xs, s => by rw [List.foldl_cons, foldl_imageOk g h xs, h]

theorem foldl_draws {α : Type} (g : State → α → State) (h : ∀ s x, (g s x).draws = s.draws) : ∀ (l : List α) (s : State), (l.foldl g s).draws = s.draws
  | [], _ => rfl
  | x :: xs, s => by rw [List.foldl_cons, foldl_draws g h xs, h]

theorem foldl_out {α : Type} (g : State → α → State) (h : ∀ s x, (g s x).out = s.out) : ∀ (l : List α) (s : State), (l.foldl g s).out = s.out
  | [], _ => rfl
  | x :: xs, s => by rw [List.foldl_cons, foldl_out g h xs, h]

theorem foldl_pending {α : Type} (g : State → α → State) (h : ∀ s x, (g s x).pending = s.pending) : ∀ (l : List α) (s : State), (l.foldl g s).pending = s.pending
  | [], _ => rfl
  | x :: xs, s => by rw [List.foldl_cons, foldl_pending g h xs, h]

@[simp] theorem start_sys (t : Nat) (s : State) : (start t s).sys = s.sys := by
  unfold start
  (repeat' split) <;> first | rfl | simp [foldl_sys, apply_ite State.sys, apply_ite Prod.snd, apply_ite Prod.fst]
@[simp] theorem start_clk (t : Nat) (s : State) : (start t s).clk = s.clk := by
  unfold start
  (repeat' split) <;> first | rfl | simp [foldl_clk, apply_ite State.clk, apply_ite Prod.snd, apply_ite Prod.fst]
@[simp] theorem start_tim (t : Nat) (s : State) : (start t s).tim = s.tim := by
  unfold start
  (repeat' split) <;> first | rfl | simp [foldl_tim, apply_ite State.tim, apply_ite Prod.snd, apply_ite Prod.fst]
@[simp] theorem start_gnb (t : Nat) (s : State) : (start t s).gnb = s.gnb := by
  unfold start
  (repeat' split) <;> first | rfl | simp [foldl_gnb, apply_ite State.gnb, apply_ite Prod.snd, apply_ite Prod.fst]
@[simp] theorem start_dfc (t : Nat) (s : State) : (start t s).dfc = s.dfc := by
  unfold start
  (repeat' split) <;> first | rfl | simp [foldl_dfc, apply_ite State.dfc, apply_ite Prod.snd, apply_ite Prod.fst]
@[simp] theorem start_str (t : Nat) (s : State) : (start t s).str = s.str := by
  unfold start
  (repeat' split) <;> first | rfl | simp [foldl_str, apply_ite State.str, apply_ite Prod.snd, apply_ite Prod.fst]
@[simp] theorem start_fus (t : Nat) (s : State) : (start t s).fus = s.fus := by
  unfold start
  (repeat' split) <;> first | rfl | simp [foldl_fus, apply_ite State.fus, apply_ite Prod.snd, apply_ite Prod.fst]
@[simp] theorem start_saf (t : Nat) (s : State) : (start t s).saf = s.saf := by
  unfold start
  (repeat' split) <;> first | rfl | simp [foldl_saf, apply_ite State.saf, apply_ite Prod.snd, apply_ite Prod.fst]
@[simp] theorem start_evr (t : Nat) (s : State) : (start t s).evr = s.evr := by
  unfold start
  (repeat' split) <;> first | rfl | simp [foldl_evr, apply_ite State.evr, apply_ite Prod.snd, apply_ite Prod.fst]
@[simp] theorem start_rtc (t : Nat) (s : State) : (start t s).rtc = s.rtc := by
  unfold start
  (repeat' split) <;> first | rfl | simp [foldl_rtc, apply_ite State.rtc, apply_ite Prod.snd, apply_ite Prod.fst]
@[simp] theorem start_boot (t : Nat) (s : State) : (start t s).boot = s.boot := by
  unfold start
  (repeat' split) <;> first | rfl | simp [foldl_boot, apply_ite State.boot, apply_ite Prod.snd, apply_ite Prod.fst]
@[simp] theorem start_pin (t : Nat) (s : State) : (start t s).pin = s.pin := by
  unfold start
  (repeat' split) <;> first | rfl | simp [foldl_pin, apply_ite State.pin, apply_ite Prod.snd, apply_ite Prod.fst]
@[simp] theorem start_mspi (t : Nat) (s : State) : (start t s).mspi = s.mspi := by
  unfold start
  (repeat' split) <;> first | rfl | simp [foldl_mspi, apply_ite State.mspi, apply_ite Prod.snd, apply_ite Prod.fst]
@[simp] theorem start_twn (t : Nat) (s : State) : (start t s).twn = s.twn := by
  unfold start
  (repeat' split) <;> first | rfl | simp [foldl_twn, apply_ite State.twn, apply_ite Prod.snd, apply_ite Prod.fst]
@[simp] theorem start_pcl (t : Nat) (s : State) : (start t s).pcl = s.pcl := by
  unfold start
  (repeat' split) <;> first | rfl | simp [foldl_pcl, apply_ite State.pcl, apply_ite Prod.snd, apply_ite Prod.fst]
@[simp] theorem start_als (t : Nat) (s : State) : (start t s).als = s.als := by
  unfold start
  (repeat' split) <;> first | rfl | simp [foldl_als, apply_ite State.als, apply_ite Prod.snd, apply_ite Prod.fst]
@[simp] theorem start_srv (t : Nat) (s : State) : (start t s).srv = s.srv := by
  unfold start
  (repeat' split) <;> first | rfl | simp [foldl_srv, apply_ite State.srv, apply_ite Prod.snd, apply_ite Prod.fst]
@[simp] theorem start_mbcs (t : Nat) (s : State) : (start t s).mbcs = s.mbcs := by
  unfold start
  (repeat' split) <;> first | rfl | simp [foldl_mbcs, apply_ite State.mbcs, apply_ite Prod.snd, apply_ite Prod.fst]
@[simp] theorem start_bus (t : Nat) (s : State) : (start t s).bus = s.bus := by
  unfold start
  (repeat' split) <;> first | rfl | simp [foldl_bus, apply_ite State.bus, apply_ite Prod.snd, apply_ite Prod.fst]
@[simp] theorem start_net (t : Nat) (s : State) : (start t s).net = s.net := by
  unfold start
  (repeat' split) <;> first | rfl | simp [foldl_net, apply_ite State.net, apply_ite Prod.snd, apply_ite Prod.fst]
@[simp] theorem start_pim (t : Nat) (s : State) : (start t s).pim = s.pim := by
  unfold start
  (repeat' split) <;> first | rfl | simp [foldl_pim, apply_ite State.pim, apply_ite Prod.snd, apply_ite Prod.fst]
@[simp] theorem start_flash (t : Nat) (s : State) : (start t s).flash = s.flash := by
  unfold start
  (repeat' split) <;> first | rfl | simp [foldl_flash, apply_ite State.flash, apply_ite Prod.snd, apply_ite Prod.fst]
@[simp] theorem start_image (t : Nat) (s : State) : (start t s).image = s.image := by
  unfold start
  (repeat' split) <;> first | rfl | simp [foldl_image, apply_ite State.image, apply_ite Prod.snd, apply_ite Prod.fst]
@[simp] theorem start_imageOk (t : Nat) (s : State) : (start t s).imageOk = s.imageOk := by
  unfold start
  (repeat' split) <;> first | rfl | simp [foldl_imageOk, apply_ite State.imageOk, apply_ite Prod.snd, apply_ite Prod.fst]
@[simp] theorem start_draws (t : Nat) (s : State) : (start t s).draws = s.draws := by
  unfold start
  (repeat' split) <;> first | rfl | simp [foldl_draws, apply_ite State.draws, apply_ite Prod.snd, apply_ite Prod.fst]
@[simp] theorem start_pending (t : Nat) (s : State) : (start t s).pending = s.pending := by
  unfold start
  (repeat' split) <;> first | rfl | simp [foldl_pending, apply_ite State.pending, apply_ite Prod.snd, apply_ite Prod.fst]
@[simp] theorem emit_sys (e : Emit) (s : State) : (emit e s).sys = s.sys := by
  unfold emit
  (repeat' split) <;> first | rfl | simp [foldl_sys, apply_ite State.sys, apply_ite Prod.snd, apply_ite Prod.fst]
@[simp] theorem emit_clk (e : Emit) (s : State) : (emit e s).clk = s.clk := by
  unfold emit
  (repeat' split) <;> first | rfl | simp [foldl_clk, apply_ite State.clk, apply_ite Prod.snd, apply_ite Prod.fst]
@[simp] theorem emit_tks (e : Emit) (s : State) : (emit e s).tks = s.tks := by
  unfold emit
  (repeat' split) <;> first | rfl | simp [foldl_tks, apply_ite State.tks, apply_ite Prod.snd, apply_ite Prod.fst]
@[simp] theorem emit_tim (e : Emit) (s : State) : (emit e s).tim = s.tim := by
  unfold emit
  (repeat' split) <;> first | rfl | simp [foldl_tim, apply_ite State.tim, apply_ite Prod.snd, apply_ite Prod.fst]
@[simp] theorem emit_gnb (e : Emit) (s : State) : (emit e s).gnb = s.gnb := by
  unfold emit
  (repeat' split) <;> first | rfl | simp [foldl_gnb, apply_ite State.gnb, apply_ite Prod.snd, apply_ite Prod.fst]
@[simp] theorem emit_dfc (e : Emit) (s : State) : (emit e s).dfc = s.dfc := by
  unfold emit
  (repeat' split) <;> first | rfl | simp [foldl_dfc, apply_ite State.dfc, apply_ite Prod.snd, apply_ite Prod.fst]
@[simp] theorem emit_str (e : Emit) (s : State) : (emit e s).str = s.str := by
  unfold emit
  (repeat' split) <;> first | rfl | simp [foldl_str, apply_ite State.str, apply_ite Prod.snd, apply_ite Prod.fst]
@[simp] theorem emit_fus (e : Emit) (s : State) : (emit e s).fus = s.fus := by
  unfold emit
  (repeat' split) <;> first | rfl | simp [foldl_fus, apply_ite State.fus, apply_ite Prod.snd, apply_ite Prod.fst]
@[simp] theorem emit_saf (e : Emit) (s : State) : (emit e s).saf = s.saf := by
  unfold emit
  (repeat' split) <;> first | rfl | simp [foldl_saf, apply_ite State.saf, apply_ite Prod.snd, apply_ite Prod.fst]
@[simp] theorem emit_evr (e : Emit) (s : State) : (emit e s).evr = s.evr := by
  unfold emit
  (repeat' split) <;> first | rfl | simp [foldl_evr, apply_ite State.evr, apply_ite Prod.snd, apply_ite Prod.fst]
@[simp] theorem emit_rtc (e : Emit) (s : State) : (emit e s).rtc = s.rtc := by
  unfold emit
  (repeat' split) <;> first | rfl | simp [foldl_rtc, apply_ite State.rtc, apply_ite Prod.snd, apply_ite Prod.fst]
@[simp] theorem emit_boot (e : Emit) (s : State) : (emit e s).boot = s.boot := by
  unfold emit
  (repeat' split) <;> first | rfl | simp [foldl_boot, apply_ite State.boot, apply_ite Prod.snd, apply_ite Prod.fst]
@[simp] theorem emit_pin (e : Emit) (s : State) : (emit e s).pin = s.pin := by
  unfold emit
  (repeat' split) <;> first | rfl | simp [foldl_pin, apply_ite State.pin, apply_ite Prod.snd, apply_ite Prod.fst]
@[simp] theorem emit_mspi (e : Emit) (s : State) : (emit e s).mspi = s.mspi := by
  unfold emit
  (repeat' split) <;> first | rfl | simp [foldl_mspi, apply_ite State.mspi, apply_ite Prod.snd, apply_ite Prod.fst]
@[simp] theorem emit_twn (e : Emit) (s : State) : (emit e s).twn = s.twn := by
  unfold emit
  (repeat' split) <;> first | rfl | simp [foldl_twn, apply_ite State.twn, apply_ite Prod.snd, apply_ite Prod.fst]
@[simp] theorem emit_pcl (e : Emit) (s : State) : (emit e s).pcl = s.pcl := by
  unfold emit
  (repeat' split) <;> first | rfl | simp [foldl_pcl, apply_ite State.pcl, apply_ite Prod.snd, apply_ite Prod.fst]
@[simp] theorem emit_als (e : Emit) (s : State) : (emit e s).als = s.als := by
  unfold emit
  (repeat' split) <;> first | rfl | simp [foldl_als, apply_ite State.als, apply_ite Prod.snd, apply_ite Prod.fst]
@[simp] theorem emit_srv (e : Emit) (s : State) : (emit e s).srv = s.srv := by
  unfold emit
  (repeat' split) <;> first | rfl | simp [foldl_srv, apply_ite State.srv, apply_ite Prod.snd, apply_ite Prod.fst]
@[simp] theorem emit_mbcs (e : Emit) (s : State) : (emit e s).mbcs = s.mbcs := by
  unfold emit
  (repeat' split) <;> first | rfl | simp [foldl_mbcs, apply_ite State.mbcs, apply_ite Prod.snd, apply_ite Prod.fst]
@[simp] theorem emit_bus (e : Emit) (s : State) : (emit e s).bus = s.bus := by
  unfold emit
  (repeat' split) <;> first | rfl | simp [foldl_bus, apply_ite State.bus, apply_ite Prod.snd, apply_ite Prod.fst]
@[simp] theorem emit_net (e : Emit) (s : State) : (emit e s).net = s.net := by
  unfold emit
  (repeat' split) <;> first | rfl | simp [foldl_net, apply_ite State.net, apply_ite Prod.snd, apply_ite Prod.fst]
@[simp] theorem emit_pim (e : Emit) (s : State) : (emit e s).pim = s.pim := by
  unfold emit
  (repeat' split) <;> first | rfl | simp [foldl_pim, apply_ite State.pim, apply_ite Prod.snd, apply_ite Prod.fst]
@[simp] theorem emit_flash (e : Emit) (s : State) : (emit e s).flash = s.flash := by
  unfold emit
  (repeat' split) <;> first | rfl | simp [foldl_flash, apply_ite State.flash, apply_ite Prod.snd, apply_ite Prod.fst]
@[simp] theorem emit_image (e : Emit) (s : State) : (emit e s).image = s.image := by
  unfold emit
  (repeat' split) <;> first | rfl | simp [foldl_image, apply_ite State.image, apply_ite Prod.snd, apply_ite Prod.fst]
@[simp] theorem emit_imageOk (e : Emit) (s : State) : (emit e s).imageOk = s.imageOk := by
  unfold emit
  (repeat' split) <;> first | rfl | simp [foldl_imageOk, apply_ite State.imageOk, apply_ite Prod.snd, apply_ite Prod.fst]
@[simp] theorem emit_draws (e : Emit) (s : State) : (emit e s).draws = s.draws := by
  unfold emit
  (repeat' split) <;> first | rfl | simp [foldl_draws, apply_ite State.draws, apply_ite Prod.snd, apply_ite Prod.fst]
@[simp] theorem emit_pending (e : Emit) (s : State) : (emit e s).pending = s.pending := by
  unfold emit
  (repeat' split) <;> first | rfl | simp [foldl_pending, apply_ite State.pending, apply_ite Prod.snd, apply_ite Prod.fst]
@[simp] theorem State_draw_sys (s : State) : (State.draw s).2.sys = s.sys := by
  unfold State.draw
  (repeat' split) <;> first | rfl | simp [foldl_sys, apply_ite State.sys, apply_ite Prod.snd, apply_ite Prod.fst]
@[simp] theorem State_draw_clk (s : State) : (State.draw s).2.clk = s.clk := by
  unfold State.draw
  (repeat' split) <;> first | rfl | simp [foldl_clk, apply_ite State.clk, apply_ite Prod.snd, apply_ite Prod.fst]
@[simp] theorem State_draw_tks (s : State) : (State.draw s).2.tks = s.tks := by
  unfold State.draw
  (repeat' split) <;> first | rfl | simp [foldl_tks, apply_ite State.tks, apply_ite Prod.snd, apply_ite Prod.fst]
@[simp] theorem State_draw_tim (s : State) : (State.draw s).2.tim = s.tim := by
  unfold State.draw
  (repeat' split) <;> first | rfl | simp [foldl_tim, apply_ite State.tim, apply_ite Prod.snd, apply_ite Prod.fst]
@[simp] theorem State_draw_gnb (s : State) : (State.draw s).2.gnb = s.gnb := by
  unfold State.draw
  (repeat' split) <;> first | rfl | simp [foldl_gnb, apply_ite State.gnb, apply_ite Prod.snd, apply_ite Prod.fst]
@[simp] theorem State_draw_dfc (s : State) : (State.draw s).2.dfc = s.dfc := by
  unfold State.draw
  (repeat' split) <;> first | rfl | simp [foldl_dfc, apply_ite State.dfc, apply_ite Prod.snd, apply_ite Prod.fst]
@[simp] theorem State_draw_str (s : State) : (State.draw s).2.str = s.str := by
  unfold State.draw
  (repeat' split) <;> first | rfl | simp [foldl_str, apply_ite State.str, apply_ite Prod.snd, apply_ite Prod.fst]
@[simp] theorem State_draw_fus (s : State) : (State.draw s).2.fus = s.fus := by
  unfold State.draw
  (repeat' split) <;> first | rfl | simp [foldl_fus, apply_ite State.fus, apply_ite Prod.snd, apply_ite Prod.fst]
@[simp] theorem State_draw_saf (s : State) : (State.draw s).2.saf = s.saf := by
  unfold State.draw
  (repeat' split) <;> first | rfl | simp [foldl_saf, apply_ite State.saf, apply_ite Prod.snd, apply_ite Prod.fst]
@[simp] theorem State_draw_evr (s : State) : (State.draw s).2.evr = s.evr := by
  unfold State.draw
  (repeat' split) <;> first | rfl | simp [foldl_evr, apply_ite State.evr, apply_ite Prod.snd, apply_ite Prod.fst]
@[simp] theorem State_draw_rtc (s : State) : (State.draw s).2.rtc = s.rtc := by
  unfold State.draw
  (repeat' split) <;> first | rfl | simp [foldl_rtc, apply_ite State.rtc, apply_ite Prod.snd, apply_ite Prod.fst]
@[simp] theorem State_draw_boot (s : State) : (State.draw s).2.boot = s.boot := by
  unfold State.draw
  (repeat' split) <;> first | rfl | simp [foldl_boot, apply_ite State.boot, apply_ite Prod.snd, apply_ite Prod.fst]
@[simp] theorem State_draw_pin (s : State) : (State.draw s).2.pin = s.pin := by
  unfold State.draw
  (repeat' split) <;> first | rfl | simp [foldl_pin, apply_ite State.pin, apply_ite Prod.snd, apply_ite Prod.fst]
@[simp] theorem State_draw_mspi (s : State) : (State.draw s).2.mspi = s.mspi := by
  unfold State.draw
  (repeat' split) <;> first | rfl | simp [foldl_mspi, apply_ite State.mspi, apply_ite Prod.snd, apply_ite Prod.fst]
@[simp] theorem State_draw_twn (s : State) : (State.draw s).2.twn = s.twn := by
  unfold State.draw
  (repeat' split) <;> first | rfl | simp [foldl_twn, apply_ite State.twn, apply_ite Prod.snd, apply_ite Prod.fst]
@[simp] theorem State_draw_pcl (s : State) : (State.draw s).2.pcl = s.pcl := by
  unfold State.draw
  (repeat' split) <;> first | rfl | simp [foldl_pcl, apply_ite State.pcl, apply_ite Prod.snd, apply_ite Prod.fst]
@[simp] theorem State_draw_als (s : State) : (State.draw s).2.als = s.als := by
  unfold State.draw
  (repeat' split) <;> first | rfl | simp [foldl_als, apply_ite State.als, apply_ite Prod.snd, apply_ite Prod.fst]
@[simp] theorem State_draw_srv (s : State) : (State.draw s).2.srv = s.srv := by
  unfold State.draw
  (repeat' split) <;> first | rfl | simp [foldl_srv, apply_ite State.srv, apply_ite Prod.snd, apply_ite Prod.fst]
@[simp] theorem State_draw_mbcs (s : State) : (State.draw s).2.mbcs = s.mbcs := by
  unfold State.draw
  (repeat' split) <;> first | rfl | simp [foldl_mbcs, apply_ite State.mbcs, apply_ite Prod.snd, apply_ite Prod.fst]
@[simp] theorem State_draw_bus (s : State) : (State.draw s).2.bus = s.bus := by
  unfold State.draw
  (repeat' split) <;> first | rfl | simp [foldl_bus, apply_ite State.bus, apply_ite Prod.snd, apply_ite Prod.fst]
@[simp] theorem State_draw_net (s : State) : (State.draw s).2.net = s.net := by
  unfold State.draw
  (repeat' split) <;> first | rfl | simp [foldl_net, apply_ite State.net, apply_ite Prod.snd, apply_ite Prod.fst]
@[simp] theorem State_draw_pim (s : State) : (State.draw s).2.pim = s.pim := by
  unfold State.draw
  (repeat' split) <;> first | rfl | simp [foldl_pim, apply_ite State.pim, apply_ite Prod.snd, apply_ite Prod.fst]
@[simp] theorem State_draw_flash (s : State) : (State.draw s).2.flash = s.flash := by
  unfold State.draw
  (repeat' split) <;> first | rfl | simp [foldl_flash, apply_ite State.flash, apply_ite Prod.snd, apply_ite Prod.fst]
@[simp] theorem State_draw_image (s : State) : (State.draw s).2.image = s.image := by
  unfold State.draw
  (repeat' split) <;> first | rfl | simp [foldl_image, apply_ite State.image, apply_ite Prod.snd, apply_ite Prod.fst]
@[simp] theorem State_draw_imageOk (s : State) : (State.draw s).2.imageOk = s.imageOk := by
  unfold State.draw
  (repeat' split) <;> first | rfl | simp [foldl_imageOk, apply_ite State.imageOk, apply_ite Prod.snd, apply_ite Prod.fst]
@[simp] theorem State_draw_out (s : State) : (State.draw s).2.out = s.out := by
  unfold State.draw
  (repeat' split) <;> first | rfl | simp [foldl_out, apply_ite State.out, apply_ite Prod.snd, apply_ite Prod.fst]
@[simp] theorem State_draw_pending (s : State) : (State.draw s).2.pending = s.pending := by
  unfold State.draw
  (repeat' split) <;> first | rfl | simp [foldl_pending, apply_ite State.pending, apply_ite Prod.snd, apply_ite Prod.fst]
@[simp] theorem noteDrop_sys (sev whereIs : Nat) (s : State) : (noteDrop sev whereIs s).sys = s.sys := by
  unfold noteDrop
  (repeat' split) <;> first | rfl | simp [foldl_sys, apply_ite State.sys, apply_ite Prod.snd, apply_ite Prod.fst]
@[simp] theorem noteDrop_clk (sev whereIs : Nat) (s : State) : (noteDrop sev whereIs s).clk = s.clk := by
  unfold noteDrop
  (repeat' split) <;> first | rfl | simp [foldl_clk, apply_ite State.clk, apply_ite Prod.snd, apply_ite Prod.fst]
@[simp] theorem noteDrop_tks (sev whereIs : Nat) (s : State) : (noteDrop sev whereIs s).tks = s.tks := by
  unfold noteDrop
  (repeat' split) <;> first | rfl | simp [foldl_tks, apply_ite State.tks, apply_ite Prod.snd, apply_ite Prod.fst]
@[simp] theorem noteDrop_tim (sev whereIs : Nat) (s : State) : (noteDrop sev whereIs s).tim = s.tim := by
  unfold noteDrop
  (repeat' split) <;> first | rfl | simp [foldl_tim, apply_ite State.tim, apply_ite Prod.snd, apply_ite Prod.fst]
@[simp] theorem noteDrop_gnb (sev whereIs : Nat) (s : State) : (noteDrop sev whereIs s).gnb = s.gnb := by
  unfold noteDrop
  (repeat' split) <;> first | rfl | simp [foldl_gnb, apply_ite State.gnb, apply_ite Prod.snd, apply_ite Prod.fst]
@[simp] theorem noteDrop_dfc (sev whereIs : Nat) (s : State) : (noteDrop sev whereIs s).dfc = s.dfc := by
  unfold noteDrop
  (repeat' split) <;> first | rfl | simp [foldl_dfc, apply_ite State.dfc, apply_ite Prod.snd, apply_ite Prod.fst]
@[simp] theorem noteDrop_str (sev whereIs : Nat) (s : State) : (noteDrop sev whereIs s).str = s.str := by
  unfold noteDrop
  (repeat' split) <;> first | rfl | simp [foldl_str, apply_ite State.str, apply_ite Prod.snd, apply_ite Prod.fst]
@[simp] theorem noteDrop_fus (sev whereIs : Nat) (s : State) : (noteDrop sev whereIs s).fus = s.fus := by
  unfold noteDrop
  (repeat' split) <;> first | rfl | simp [foldl_fus, apply_ite State.fus, apply_ite Prod.snd, apply_ite Prod.fst]
@[simp] theorem noteDrop_saf (sev whereIs : Nat) (s : State) : (noteDrop sev whereIs s).saf = s.saf := by
  unfold noteDrop
  (repeat' split) <;> first | rfl | simp [foldl_saf, apply_ite State.saf, apply_ite Prod.snd, apply_ite Prod.fst]
@[simp] theorem noteDrop_rtc (sev whereIs : Nat) (s : State) : (noteDrop sev whereIs s).rtc = s.rtc := by
  unfold noteDrop
  (repeat' split) <;> first | rfl | simp [foldl_rtc, apply_ite State.rtc, apply_ite Prod.snd, apply_ite Prod.fst]
@[simp] theorem noteDrop_boot (sev whereIs : Nat) (s : State) : (noteDrop sev whereIs s).boot = s.boot := by
  unfold noteDrop
  (repeat' split) <;> first | rfl | simp [foldl_boot, apply_ite State.boot, apply_ite Prod.snd, apply_ite Prod.fst]
@[simp] theorem noteDrop_pin (sev whereIs : Nat) (s : State) : (noteDrop sev whereIs s).pin = s.pin := by
  unfold noteDrop
  (repeat' split) <;> first | rfl | simp [foldl_pin, apply_ite State.pin, apply_ite Prod.snd, apply_ite Prod.fst]
@[simp] theorem noteDrop_mspi (sev whereIs : Nat) (s : State) : (noteDrop sev whereIs s).mspi = s.mspi := by
  unfold noteDrop
  (repeat' split) <;> first | rfl | simp [foldl_mspi, apply_ite State.mspi, apply_ite Prod.snd, apply_ite Prod.fst]
@[simp] theorem noteDrop_twn (sev whereIs : Nat) (s : State) : (noteDrop sev whereIs s).twn = s.twn := by
  unfold noteDrop
  (repeat' split) <;> first | rfl | simp [foldl_twn, apply_ite State.twn, apply_ite Prod.snd, apply_ite Prod.fst]
@[simp] theorem noteDrop_pcl (sev whereIs : Nat) (s : State) : (noteDrop sev whereIs s).pcl = s.pcl := by
  unfold noteDrop
  (repeat' split) <;> first | rfl | simp [foldl_pcl, apply_ite State.pcl, apply_ite Prod.snd, apply_ite Prod.fst]
@[simp] theorem noteDrop_als (sev whereIs : Nat) (s : State) : (noteDrop sev whereIs s).als = s.als := by
  unfold noteDrop
  (repeat' split) <;> first | rfl | simp [foldl_als, apply_ite State.als, apply_ite Prod.snd, apply_ite Prod.fst]
@[simp] theorem noteDrop_srv (sev whereIs : Nat) (s : State) : (noteDrop sev whereIs s).srv = s.srv := by
  unfold noteDrop
  (repeat' split) <;> first | rfl | simp [foldl_srv, apply_ite State.srv, apply_ite Prod.snd, apply_ite Prod.fst]
@[simp] theorem noteDrop_mbcs (sev whereIs : Nat) (s : State) : (noteDrop sev whereIs s).mbcs = s.mbcs := by
  unfold noteDrop
  (repeat' split) <;> first | rfl | simp [foldl_mbcs, apply_ite State.mbcs, apply_ite Prod.snd, apply_ite Prod.fst]
@[simp] theorem noteDrop_bus (sev whereIs : Nat) (s : State) : (noteDrop sev whereIs s).bus = s.bus := by
  unfold noteDrop
  (repeat' split) <;> first | rfl | simp [foldl_bus, apply_ite State.bus, apply_ite Prod.snd, apply_ite Prod.fst]
@[simp] theorem noteDrop_net (sev whereIs : Nat) (s : State) : (noteDrop sev whereIs s).net = s.net := by
  unfold noteDrop
  (repeat' split) <;> first | rfl | simp [foldl_net, apply_ite State.net, apply_ite Prod.snd, apply_ite Prod.fst]
@[simp] theorem noteDrop_pim (sev whereIs : Nat) (s : State) : (noteDrop sev whereIs s).pim = s.pim := by
  unfold noteDrop
  (repeat' split) <;> first | rfl | simp [foldl_pim, apply_ite State.pim, apply_ite Prod.snd, apply_ite Prod.fst]
@[simp] theorem noteDrop_flash (sev whereIs : Nat) (s : State) : (noteDrop sev whereIs s).flash = s.flash := by
  unfold noteDrop
  (repeat' split) <;> first | rfl | simp [foldl_flash, apply_ite State.flash, apply_ite Prod.snd, apply_ite Prod.fst]
@[simp] theorem noteDrop_image (sev whereIs : Nat) (s : State) : (noteDrop sev whereIs s).image = s.image := by
  unfold noteDrop
  (repeat' split) <;> first | rfl | simp [foldl_image, apply_ite State.image, apply_ite Prod.snd, apply_ite Prod.fst]
@[simp] theorem noteDrop_imageOk (sev whereIs : Nat) (s : State) : (noteDrop sev whereIs s).imageOk = s.imageOk := by
  unfold noteDrop
  (repeat' split) <;> first | rfl | simp [foldl_imageOk, apply_ite State.imageOk, apply_ite Prod.snd, apply_ite Prod.fst]
@[simp] theorem noteDrop_draws (sev whereIs : Nat) (s : State) : (noteDrop sev whereIs s).draws = s.draws := by
  unfold noteDrop
  (repeat' split) <;> first | rfl | simp [foldl_draws, apply_ite State.draws, apply_ite Prod.snd, apply_ite Prod.fst]
@[simp] theorem noteDrop_out (sev whereIs : Nat) (s : State) : (noteDrop sev whereIs s).out = s.out := by
  unfold noteDrop
  (repeat' split) <;> first | rfl | simp [foldl_out, apply_ite State.out, apply_ite Prod.snd, apply_ite Prod.fst]
@[simp] theorem noteDrop_pending (sev whereIs : Nat) (s : State) : (noteDrop sev whereIs s).pending = s.pending := by
  unfold noteDrop
  (repeat' split) <;> first | rfl | simp [foldl_pending, apply_ite State.pending, apply_ite Prod.snd, apply_ite Prod.fst]
@[simp] theorem record_sys (code sev : Nat) (p0 p1 p2 p3 : Int) (s : State) : (record code sev p0 p1 p2 p3 s).sys = s.sys := by
  unfold record
  (repeat' split) <;> (try simp [foldl_sys, apply_ite State.sys, apply_ite Prod.snd, apply_ite Prod.fst]) <;> (try intros) <;> (repeat' split) <;> (try simp [foldl_sys, apply_ite State.sys, apply_ite Prod.snd, apply_ite Prod.fst]) <;> (try intros) <;> (repeat' split) <;> first | rfl | simp [foldl_sys, apply_ite State.sys, apply_ite Prod.snd, apply_ite Prod.fst]
@[simp] theorem record_clk (code sev : Nat) (p0 p1 p2 p3 : Int) (s : State) : (record code sev p0 p1 p2 p3 s).clk = s.clk := by
  unfold record
  (repeat' split) <;> (try simp [foldl_clk, apply_ite State.clk, apply_ite Prod.snd, apply_ite Prod.fst]) <;> (try intros) <;> (repeat' split) <;> (try simp [foldl_clk, apply_ite State.clk, apply_ite Prod.snd, apply_ite Prod.fst]) <;> (try intros) <;> (repeat' split) <;> first | rfl | simp [foldl_clk, apply_ite State.clk, apply_ite Prod.snd, apply_ite Prod.fst]
@[simp] theorem record_tks (code sev : Nat) (p0 p1 p2 p3 : Int) (s : State) : (record code sev p0 p1 p2 p3 s).tks = s.tks := by
  unfold record
  (repeat' split) <;> (try simp [foldl_tks, apply_ite State.tks, apply_ite Prod.snd, apply_ite Prod.fst]) <;> (try intros) <;> (repeat' split) <;> (try simp [foldl_tks, apply_ite State.tks, apply_ite Prod.snd, apply_ite Prod.fst]) <;> (try intros) <;> (repeat' split) <;> first | rfl | simp [foldl_tks, apply_ite State.tks, apply_ite Prod.snd, apply_ite Prod.fst]
@[simp] theorem record_tim (code sev : Nat) (p0 p1 p2 p3 : Int) (s : State) : (record code sev p0 p1 p2 p3 s).tim = s.tim := by
  unfold record
  (repeat' split) <;> (try simp [foldl_tim, apply_ite State.tim, apply_ite Prod.snd, apply_ite Prod.fst]) <;> (try intros) <;> (repeat' split) <;> (try simp [foldl_tim, apply_ite State.tim, apply_ite Prod.snd, apply_ite Prod.fst]) <;> (try intros) <;> (repeat' split) <;> first | rfl | simp [foldl_tim, apply_ite State.tim, apply_ite Prod.snd, apply_ite Prod.fst]
@[simp] theorem record_gnb (code sev : Nat) (p0 p1 p2 p3 : Int) (s : State) : (record code sev p0 p1 p2 p3 s).gnb = s.gnb := by
  unfold record
  (repeat' split) <;> (try simp [foldl_gnb, apply_ite State.gnb, apply_ite Prod.snd, apply_ite Prod.fst]) <;> (try intros) <;> (repeat' split) <;> (try simp [foldl_gnb, apply_ite State.gnb, apply_ite Prod.snd, apply_ite Prod.fst]) <;> (try intros) <;> (repeat' split) <;> first | rfl | simp [foldl_gnb, apply_ite State.gnb, apply_ite Prod.snd, apply_ite Prod.fst]
@[simp] theorem record_dfc (code sev : Nat) (p0 p1 p2 p3 : Int) (s : State) : (record code sev p0 p1 p2 p3 s).dfc = s.dfc := by
  unfold record
  (repeat' split) <;> (try simp [foldl_dfc, apply_ite State.dfc, apply_ite Prod.snd, apply_ite Prod.fst]) <;> (try intros) <;> (repeat' split) <;> (try simp [foldl_dfc, apply_ite State.dfc, apply_ite Prod.snd, apply_ite Prod.fst]) <;> (try intros) <;> (repeat' split) <;> first | rfl | simp [foldl_dfc, apply_ite State.dfc, apply_ite Prod.snd, apply_ite Prod.fst]
@[simp] theorem record_str (code sev : Nat) (p0 p1 p2 p3 : Int) (s : State) : (record code sev p0 p1 p2 p3 s).str = s.str := by
  unfold record
  (repeat' split) <;> (try simp [foldl_str, apply_ite State.str, apply_ite Prod.snd, apply_ite Prod.fst]) <;> (try intros) <;> (repeat' split) <;> (try simp [foldl_str, apply_ite State.str, apply_ite Prod.snd, apply_ite Prod.fst]) <;> (try intros) <;> (repeat' split) <;> first | rfl | simp [foldl_str, apply_ite State.str, apply_ite Prod.snd, apply_ite Prod.fst]
@[simp] theorem record_fus (code sev : Nat) (p0 p1 p2 p3 : Int) (s : State) : (record code sev p0 p1 p2 p3 s).fus = s.fus := by
  unfold record
  (repeat' split) <;> (try simp [foldl_fus, apply_ite State.fus, apply_ite Prod.snd, apply_ite Prod.fst]) <;> (try intros) <;> (repeat' split) <;> (try simp [foldl_fus, apply_ite State.fus, apply_ite Prod.snd, apply_ite Prod.fst]) <;> (try intros) <;> (repeat' split) <;> first | rfl | simp [foldl_fus, apply_ite State.fus, apply_ite Prod.snd, apply_ite Prod.fst]
@[simp] theorem record_saf (code sev : Nat) (p0 p1 p2 p3 : Int) (s : State) : (record code sev p0 p1 p2 p3 s).saf = s.saf := by
  unfold record
  (repeat' split) <;> (try simp [foldl_saf, apply_ite State.saf, apply_ite Prod.snd, apply_ite Prod.fst]) <;> (try intros) <;> (repeat' split) <;> (try simp [foldl_saf, apply_ite State.saf, apply_ite Prod.snd, apply_ite Prod.fst]) <;> (try intros) <;> (repeat' split) <;> first | rfl | simp [foldl_saf, apply_ite State.saf, apply_ite Prod.snd, apply_ite Prod.fst]
@[simp] theorem record_rtc (code sev : Nat) (p0 p1 p2 p3 : Int) (s : State) : (record code sev p0 p1 p2 p3 s).rtc = s.rtc := by
  unfold record
  (repeat' split) <;> (try simp [foldl_rtc, apply_ite State.rtc, apply_ite Prod.snd, apply_ite Prod.fst]) <;> (try intros) <;> (repeat' split) <;> (try simp [foldl_rtc, apply_ite State.rtc, apply_ite Prod.snd, apply_ite Prod.fst]) <;> (try intros) <;> (repeat' split) <;> first | rfl | simp [foldl_rtc, apply_ite State.rtc, apply_ite Prod.snd, apply_ite Prod.fst]
@[simp] theorem record_boot (code sev : Nat) (p0 p1 p2 p3 : Int) (s : State) : (record code sev p0 p1 p2 p3 s).boot = s.boot := by
  unfold record
  (repeat' split) <;> (try simp [foldl_boot, apply_ite State.boot, apply_ite Prod.snd, apply_ite Prod.fst]) <;> (try intros) <;> (repeat' split) <;> (try simp [foldl_boot, apply_ite State.boot, apply_ite Prod.snd, apply_ite Prod.fst]) <;> (try intros) <;> (repeat' split) <;> first | rfl | simp [foldl_boot, apply_ite State.boot, apply_ite Prod.snd, apply_ite Prod.fst]
@[simp] theorem record_pin (code sev : Nat) (p0 p1 p2 p3 : Int) (s : State) : (record code sev p0 p1 p2 p3 s).pin = s.pin := by
  unfold record
  (repeat' split) <;> (try simp [foldl_pin, apply_ite State.pin, apply_ite Prod.snd, apply_ite Prod.fst]) <;> (try intros) <;> (repeat' split) <;> (try simp [foldl_pin, apply_ite State.pin, apply_ite Prod.snd, apply_ite Prod.fst]) <;> (try intros) <;> (repeat' split) <;> first | rfl | simp [foldl_pin, apply_ite State.pin, apply_ite Prod.snd, apply_ite Prod.fst]
@[simp] theorem record_mspi (code sev : Nat) (p0 p1 p2 p3 : Int) (s : State) : (record code sev p0 p1 p2 p3 s).mspi = s.mspi := by
  unfold record
  (repeat' split) <;> (try simp [foldl_mspi, apply_ite State.mspi, apply_ite Prod.snd, apply_ite Prod.fst]) <;> (try intros) <;> (repeat' split) <;> (try simp [foldl_mspi, apply_ite State.mspi, apply_ite Prod.snd, apply_ite Prod.fst]) <;> (try intros) <;> (repeat' split) <;> first | rfl | simp [foldl_mspi, apply_ite State.mspi, apply_ite Prod.snd, apply_ite Prod.fst]
@[simp] theorem record_twn (code sev : Nat) (p0 p1 p2 p3 : Int) (s : State) : (record code sev p0 p1 p2 p3 s).twn = s.twn := by
  unfold record
  (repeat' split) <;> (try simp [foldl_twn, apply_ite State.twn, apply_ite Prod.snd, apply_ite Prod.fst]) <;> (try intros) <;> (repeat' split) <;> (try simp [foldl_twn, apply_ite State.twn, apply_ite Prod.snd, apply_ite Prod.fst]) <;> (try intros) <;> (repeat' split) <;> first | rfl | simp [foldl_twn, apply_ite State.twn, apply_ite Prod.snd, apply_ite Prod.fst]
@[simp] theorem record_pcl (code sev : Nat) (p0 p1 p2 p3 : Int) (s : State) : (record code sev p0 p1 p2 p3 s).pcl = s.pcl := by
  unfold record
  (repeat' split) <;> (try simp [foldl_pcl, apply_ite State.pcl, apply_ite Prod.snd, apply_ite Prod.fst]) <;> (try intros) <;> (repeat' split) <;> (try simp [foldl_pcl, apply_ite State.pcl, apply_ite Prod.snd, apply_ite Prod.fst]) <;> (try intros) <;> (repeat' split) <;> first | rfl | simp [foldl_pcl, apply_ite State.pcl, apply_ite Prod.snd, apply_ite Prod.fst]
@[simp] theorem record_als (code sev : Nat) (p0 p1 p2 p3 : Int) (s : State) : (record code sev p0 p1 p2 p3 s).als = s.als := by
  unfold record
  (repeat' split) <;> (try simp [foldl_als, apply_ite State.als, apply_ite Prod.snd, apply_ite Prod.fst]) <;> (try intros) <;> (repeat' split) <;> (try simp [foldl_als, apply_ite State.als, apply_ite Prod.snd, apply_ite Prod.fst]) <;> (try intros) <;> (repeat' split) <;> first | rfl | simp [foldl_als, apply_ite State.als, apply_ite Prod.snd, apply_ite Prod.fst]
@[simp] theorem record_srv (code sev : Nat) (p0 p1 p2 p3 : Int) (s : State) : (record code sev p0 p1 p2 p3 s).srv = s.srv := by
  unfold record
  (repeat' split) <;> (try simp [foldl_srv, apply_ite State.srv, apply_ite Prod.snd, apply_ite Prod.fst]) <;> (try intros) <;> (repeat' split) <;> (try simp [foldl_srv, apply_ite State.srv, apply_ite Prod.snd, apply_ite Prod.fst]) <;> (try intros) <;> (repeat' split) <;> first | rfl | simp [foldl_srv, apply_ite State.srv, apply_ite Prod.snd, apply_ite Prod.fst]
@[simp] theorem record_mbcs (code sev : Nat) (p0 p1 p2 p3 : Int) (s : State) : (record code sev p0 p1 p2 p3 s).mbcs = s.mbcs := by
  unfold record
  (repeat' split) <;> (try simp [foldl_mbcs, apply_ite State.mbcs, apply_ite Prod.snd, apply_ite Prod.fst]) <;> (try intros) <;> (repeat' split) <;> (try simp [foldl_mbcs, apply_ite State.mbcs, apply_ite Prod.snd, apply_ite Prod.fst]) <;> (try intros) <;> (repeat' split) <;> first | rfl | simp [foldl_mbcs, apply_ite State.mbcs, apply_ite Prod.snd, apply_ite Prod.fst]
@[simp] theorem record_bus (code sev : Nat) (p0 p1 p2 p3 : Int) (s : State) : (record code sev p0 p1 p2 p3 s).bus = s.bus := by
  unfold record
  (repeat' split) <;> (try simp [foldl_bus, apply_ite State.bus, apply_ite Prod.snd, apply_ite Prod.fst]) <;> (try intros) <;> (repeat' split) <;> (try simp [foldl_bus, apply_ite State.bus, apply_ite Prod.snd, apply_ite Prod.fst]) <;> (try intros) <;> (repeat' split) <;> first | rfl | simp [foldl_bus, apply_ite State.bus, apply_ite Prod.snd, apply_ite Prod.fst]
@[simp] theorem record_net (code sev : Nat) (p0 p1 p2 p3 : Int) (s : State) : (record code sev p0 p1 p2 p3 s).net = s.net := by
  unfold record
  (repeat' split) <;> (try simp [foldl_net, apply_ite State.net, apply_ite Prod.snd, apply_ite Prod.fst]) <;> (try intros) <;> (repeat' split) <;> (try simp [foldl_net, apply_ite State.net, apply_ite Prod.snd, apply_ite Prod.fst]) <;> (try intros) <;> (repeat' split) <;> first | rfl | simp [foldl_net, apply_ite State.net, apply_ite Prod.snd, apply_ite Prod.fst]
@[simp] theorem record_pim (code sev : Nat) (p0 p1 p2 p3 : Int) (s : State) : (record code sev p0 p1 p2 p3 s).pim = s.pim := by
  unfold record
  (repeat' split) <;> (try simp [foldl_pim, apply_ite State.pim, apply_ite Prod.snd, apply_ite Prod.fst]) <;> (try intros) <;> (repeat' split) <;> (try simp [foldl_pim, apply_ite State.pim, apply_ite Prod.snd, apply_ite Prod.fst]) <;> (try intros) <;> (repeat' split) <;> first | rfl | simp [foldl_pim, apply_ite State.pim, apply_ite Prod.snd, apply_ite Prod.fst]
@[simp] theorem record_flash (code sev : Nat) (p0 p1 p2 p3 : Int) (s : State) : (record code sev p0 p1 p2 p3 s).flash = s.flash := by
  unfold record
  (repeat' split) <;> (try simp [foldl_flash, apply_ite State.flash, apply_ite Prod.snd, apply_ite Prod.fst]) <;> (try intros) <;> (repeat' split) <;> (try simp [foldl_flash, apply_ite State.flash, apply_ite Prod.snd, apply_ite Prod.fst]) <;> (try intros) <;> (repeat' split) <;> first | rfl | simp [foldl_flash, apply_ite State.flash, apply_ite Prod.snd, apply_ite Prod.fst]
@[simp] theorem record_image (code sev : Nat) (p0 p1 p2 p3 : Int) (s : State) : (record code sev p0 p1 p2 p3 s).image = s.image := by
  unfold record
  (repeat' split) <;> (try simp [foldl_image, apply_ite State.image, apply_ite Prod.snd, apply_ite Prod.fst]) <;> (try intros) <;> (repeat' split) <;> (try simp [foldl_image, apply_ite State.image, apply_ite Prod.snd, apply_ite Prod.fst]) <;> (try intros) <;> (repeat' split) <;> first | rfl | simp [foldl_image, apply_ite State.image, apply_ite Prod.snd, apply_ite Prod.fst]
@[simp] theorem record_imageOk (code sev : Nat) (p0 p1 p2 p3 : Int) (s : State) : (record code sev p0 p1 p2 p3 s).imageOk = s.imageOk := by
  unfold record
  (repeat' split) <;> (try simp [foldl_imageOk, apply_ite State.imageOk, apply_ite Prod.snd, apply_ite Prod.fst]) <;> (try intros) <;> (repeat' split) <;> (try simp [foldl_imageOk, apply_ite State.imageOk, apply_ite Prod.snd, apply_ite Prod.fst]) <;> (try intros) <;> (repeat' split) <;> first | rfl | simp [foldl_imageOk, apply_ite State.imageOk, apply_ite Prod.snd, apply_ite Prod.fst]
@[simp] theorem record_draws (code sev : Nat) (p0 p1 p2 p3 : Int) (s : State) : (record code sev p0 p1 p2 p3 s).draws = s.draws := by
  unfold record
  (repeat' split) <;> (try simp [foldl_draws, apply_ite State.draws, apply_ite Prod.snd, apply_ite Prod.fst]) <;> (try intros) <;> (repeat' split) <;> (try simp [foldl_draws, apply_ite State.draws, apply_ite Prod.snd, apply_ite Prod.fst]) <;> (try intros) <;> (repeat' split) <;> first | rfl | simp [foldl_draws, apply_ite State.draws, apply_ite Prod.snd, apply_ite Prod.fst]
@[simp] theorem record_out (code sev : Nat) (p0 p1 p2 p3 : Int) (s : State) : (record code sev p0 p1 p2 p3 s).out = s.out := by
  unfold record
  (repeat' split) <;> (try simp [foldl_out, apply_ite State.out, apply_ite Prod.snd, apply_ite Prod.fst]) <;> (try intros) <;> (repeat' split) <;> (try simp [foldl_out, apply_ite State.out, apply_ite Prod.snd, apply_ite Prod.fst]) <;> (try intros) <;> (repeat' split) <;> first | rfl | simp [foldl_out, apply_ite State.out, apply_ite Prod.snd, apply_ite Prod.fst]
@[simp] theorem record_pending (code sev : Nat) (p0 p1 p2 p3 : Int) (s : State) : (record code sev p0 p1 p2 p3 s).pending = s.pending := by
  unfold record
  (repeat' split) <;> (try simp [foldl_pending, apply_ite State.pending, apply_ite Prod.snd, apply_ite Prod.fst]) <;> (try intros) <;> (repeat' split) <;> (try simp [foldl_pending, apply_ite State.pending, apply_ite Prod.snd, apply_ite Prod.fst]) <;> (try intros) <;> (repeat' split) <;> first | rfl | simp [foldl_pending, apply_ite State.pending, apply_ite Prod.snd, apply_ite Prod.fst]
@[simp] theorem recordIf_sys (c : Bool) (code sev : Nat) (p0 p1 p2 p3 : Int) (s : State) : (recordIf c code sev p0 p1 p2 p3 s).sys = s.sys := by
  unfold recordIf
  (repeat' split) <;> first | rfl | simp [foldl_sys, apply_ite State.sys, apply_ite Prod.snd, apply_ite Prod.fst]
@[simp] theorem recordIf_clk (c : Bool) (code sev : Nat) (p0 p1 p2 p3 : Int) (s : State) : (recordIf c code sev p0 p1 p2 p3 s).clk = s.clk := by
  unfold recordIf
  (repeat' split) <;> first | rfl | simp [foldl_clk, apply_ite State.clk, apply_ite Prod.snd, apply_ite Prod.fst]
@[simp] theorem recordIf_tks (c : Bool) (code sev : Nat) (p0 p1 p2 p3 : Int) (s : State) : (recordIf c code sev p0 p1 p2 p3 s).tks = s.tks := by
  unfold recordIf
  (repeat' split) <;> first | rfl | simp [foldl_tks, apply_ite State.tks, apply_ite Prod.snd, apply_ite Prod.fst]
@[simp] theorem recordIf_tim (c : Bool) (code sev : Nat) (p0 p1 p2 p3 : Int) (s : State) : (recordIf c code sev p0 p1 p2 p3 s).tim = s.tim := by
  unfold recordIf
  (repeat' split) <;> first | rfl | simp [foldl_tim, apply_ite State.tim, apply_ite Prod.snd, apply_ite Prod.fst]
@[simp] theorem recordIf_gnb (c : Bool) (code sev : Nat) (p0 p1 p2 p3 : Int) (s : State) : (recordIf c code sev p0 p1 p2 p3 s).gnb = s.gnb := by
  unfold recordIf
  (repeat' split) <;> first | rfl | simp [foldl_gnb, apply_ite State.gnb, apply_ite Prod.snd, apply_ite Prod.fst]
@[simp] theorem recordIf_dfc (c : Bool) (code sev : Nat) (p0 p1 p2 p3 : Int) (s : State) : (recordIf c code sev p0 p1 p2 p3 s).dfc = s.dfc := by
  unfold recordIf
  (repeat' split) <;> first | rfl | simp [foldl_dfc, apply_ite State.dfc, apply_ite Prod.snd, apply_ite Prod.fst]
@[simp] theorem recordIf_str (c : Bool) (code sev : Nat) (p0 p1 p2 p3 : Int) (s : State) : (recordIf c code sev p0 p1 p2 p3 s).str = s.str := by
  unfold recordIf
  (repeat' split) <;> first | rfl | simp [foldl_str, apply_ite State.str, apply_ite Prod.snd, apply_ite Prod.fst]
@[simp] theorem recordIf_fus (c : Bool) (code sev : Nat) (p0 p1 p2 p3 : Int) (s : State) : (recordIf c code sev p0 p1 p2 p3 s).fus = s.fus := by
  unfold recordIf
  (repeat' split) <;> first | rfl | simp [foldl_fus, apply_ite State.fus, apply_ite Prod.snd, apply_ite Prod.fst]
@[simp] theorem recordIf_saf (c : Bool) (code sev : Nat) (p0 p1 p2 p3 : Int) (s : State) : (recordIf c code sev p0 p1 p2 p3 s).saf = s.saf := by
  unfold recordIf
  (repeat' split) <;> first | rfl | simp [foldl_saf, apply_ite State.saf, apply_ite Prod.snd, apply_ite Prod.fst]
@[simp] theorem recordIf_rtc (c : Bool) (code sev : Nat) (p0 p1 p2 p3 : Int) (s : State) : (recordIf c code sev p0 p1 p2 p3 s).rtc = s.rtc := by
  unfold recordIf
  (repeat' split) <;> first | rfl | simp [foldl_rtc, apply_ite State.rtc, apply_ite Prod.snd, apply_ite Prod.fst]
@[simp] theorem recordIf_boot (c : Bool) (code sev : Nat) (p0 p1 p2 p3 : Int) (s : State) : (recordIf c code sev p0 p1 p2 p3 s).boot = s.boot := by
  unfold recordIf
  (repeat' split) <;> first | rfl | simp [foldl_boot, apply_ite State.boot, apply_ite Prod.snd, apply_ite Prod.fst]
@[simp] theorem recordIf_pin (c : Bool) (code sev : Nat) (p0 p1 p2 p3 : Int) (s : State) : (recordIf c code sev p0 p1 p2 p3 s).pin = s.pin := by
  unfold recordIf
  (repeat' split) <;> first | rfl | simp [foldl_pin, apply_ite State.pin, apply_ite Prod.snd, apply_ite Prod.fst]
@[simp] theorem recordIf_mspi (c : Bool) (code sev : Nat) (p0 p1 p2 p3 : Int) (s : State) : (recordIf c code sev p0 p1 p2 p3 s).mspi = s.mspi := by
  unfold recordIf
  (repeat' split) <;> first | rfl | simp [foldl_mspi, apply_ite State.mspi, apply_ite Prod.snd, apply_ite Prod.fst]
@[simp] theorem recordIf_twn (c : Bool) (code sev : Nat) (p0 p1 p2 p3 : Int) (s : State) : (recordIf c code sev p0 p1 p2 p3 s).twn = s.twn := by
  unfold recordIf
  (repeat' split) <;> first | rfl | simp [foldl_twn, apply_ite State.twn, apply_ite Prod.snd, apply_ite Prod.fst]
@[simp] theorem recordIf_pcl (c : Bool) (code sev : Nat) (p0 p1 p2 p3 : Int) (s : State) : (recordIf c code sev p0 p1 p2 p3 s).pcl = s.pcl := by
  unfold recordIf
  (repeat' split) <;> first | rfl | simp [foldl_pcl, apply_ite State.pcl, apply_ite Prod.snd, apply_ite Prod.fst]
@[simp] theorem recordIf_als (c : Bool) (code sev : Nat) (p0 p1 p2 p3 : Int) (s : State) : (recordIf c code sev p0 p1 p2 p3 s).als = s.als := by
  unfold recordIf
  (repeat' split) <;> first | rfl | simp [foldl_als, apply_ite State.als, apply_ite Prod.snd, apply_ite Prod.fst]
@[simp] theorem recordIf_srv (c : Bool) (code sev : Nat) (p0 p1 p2 p3 : Int) (s : State) : (recordIf c code sev p0 p1 p2 p3 s).srv = s.srv := by
  unfold recordIf
  (repeat' split) <;> first | rfl | simp [foldl_srv, apply_ite State.srv, apply_ite Prod.snd, apply_ite Prod.fst]
@[simp] theorem recordIf_mbcs (c : Bool) (code sev : Nat) (p0 p1 p2 p3 : Int) (s : State) : (recordIf c code sev p0 p1 p2 p3 s).mbcs = s.mbcs := by
  unfold recordIf
  (repeat' split) <;> first | rfl | simp [foldl_mbcs, apply_ite State.mbcs, apply_ite Prod.snd, apply_ite Prod.fst]
@[simp] theorem recordIf_bus (c : Bool) (code sev : Nat) (p0 p1 p2 p3 : Int) (s : State) : (recordIf c code sev p0 p1 p2 p3 s).bus = s.bus := by
  unfold recordIf
  (repeat' split) <;> first | rfl | simp [foldl_bus, apply_ite State.bus, apply_ite Prod.snd, apply_ite Prod.fst]
@[simp] theorem recordIf_net (c : Bool) (code sev : Nat) (p0 p1 p2 p3 : Int) (s : State) : (recordIf c code sev p0 p1 p2 p3 s).net = s.net := by
  unfold recordIf
  (repeat' split) <;> first | rfl | simp [foldl_net, apply_ite State.net, apply_ite Prod.snd, apply_ite Prod.fst]
@[simp] theorem recordIf_pim (c : Bool) (code sev : Nat) (p0 p1 p2 p3 : Int) (s : State) : (recordIf c code sev p0 p1 p2 p3 s).pim = s.pim := by
  unfold recordIf
  (repeat' split) <;> first | rfl | simp [foldl_pim, apply_ite State.pim, apply_ite Prod.snd, apply_ite Prod.fst]
@[simp] theorem recordIf_flash (c : Bool) (code sev : Nat) (p0 p1 p2 p3 : Int) (s : State) : (recordIf c code sev p0 p1 p2 p3 s).flash = s.flash := by
  unfold recordIf
  (repeat' split) <;> first | rfl | simp [foldl_flash, apply_ite State.flash, apply_ite Prod.snd, apply_ite Prod.fst]
@[simp] theorem recordIf_image (c : Bool) (code sev : Nat) (p0 p1 p2 p3 : Int) (s : State) : (recordIf c code sev p0 p1 p2 p3 s).image = s.image := by
  unfold recordIf
  (repeat' split) <;> first | rfl | simp [foldl_image, apply_ite State.image, apply_ite Prod.snd, apply_ite Prod.fst]
@[simp] theorem recordIf_imageOk (c : Bool) (code sev : Nat) (p0 p1 p2 p3 : Int) (s : State) : (recordIf c code sev p0 p1 p2 p3 s).imageOk = s.imageOk := by
  unfold recordIf
  (repeat' split) <;> first | rfl | simp [foldl_imageOk, apply_ite State.imageOk, apply_ite Prod.snd, apply_ite Prod.fst]
@[simp] theorem recordIf_draws (c : Bool) (code sev : Nat) (p0 p1 p2 p3 : Int) (s : State) : (recordIf c code sev p0 p1 p2 p3 s).draws = s.draws := by
  unfold recordIf
  (repeat' split) <;> first | rfl | simp [foldl_draws, apply_ite State.draws, apply_ite Prod.snd, apply_ite Prod.fst]
@[simp] theorem recordIf_out (c : Bool) (code sev : Nat) (p0 p1 p2 p3 : Int) (s : State) : (recordIf c code sev p0 p1 p2 p3 s).out = s.out := by
  unfold recordIf
  (repeat' split) <;> first | rfl | simp [foldl_out, apply_ite State.out, apply_ite Prod.snd, apply_ite Prod.fst]
@[simp] theorem recordIf_pending (c : Bool) (code sev : Nat) (p0 p1 p2 p3 : Int) (s : State) : (recordIf c code sev p0 p1 p2 p3 s).pending = s.pending := by
  unfold recordIf
  (repeat' split) <;> first | rfl | simp [foldl_pending, apply_ite State.pending, apply_ite Prod.snd, apply_ite Prod.fst]
@[simp] theorem driveOuten_sys (b : Bool) (s : State) : (driveOuten b s).sys = s.sys := by
  unfold driveOuten
  (repeat' split) <;> first | rfl | simp [foldl_sys, apply_ite State.sys, apply_ite Prod.snd, apply_ite Prod.fst]
@[simp] theorem driveOuten_clk (b : Bool) (s : State) : (driveOuten b s).clk = s.clk := by
  unfold driveOuten
  (repeat' split) <;> first | rfl | simp [foldl_clk, apply_ite State.clk, apply_ite Prod.snd, apply_ite Prod.fst]
@[simp] theorem driveOuten_tks (b : Bool) (s : State) : (driveOuten b s).tks = s.tks := by
  unfold driveOuten
  (repeat' split) <;> first | rfl | simp [foldl_tks, apply_ite State.tks, apply_ite Prod.snd, apply_ite Prod.fst]
@[simp] theorem driveOuten_tim (b : Bool) (s : State) : (driveOuten b s).tim = s.tim := by
  unfold driveOuten
  (repeat' split) <;> first | rfl | simp [foldl_tim, apply_ite State.tim, apply_ite Prod.snd, apply_ite Prod.fst]
@[simp] theorem driveOuten_gnb (b : Bool) (s : State) : (driveOuten b s).gnb = s.gnb := by
  unfold driveOuten
  (repeat' split) <;> first | rfl | simp [foldl_gnb, apply_ite State.gnb, apply_ite Prod.snd, apply_ite Prod.fst]
@[simp] theorem driveOuten_dfc (b : Bool) (s : State) : (driveOuten b s).dfc = s.dfc := by
  unfold driveOuten
  (repeat' split) <;> first | rfl | simp [foldl_dfc, apply_ite State.dfc, apply_ite Prod.snd, apply_ite Prod.fst]
@[simp] theorem driveOuten_str (b : Bool) (s : State) : (driveOuten b s).str = s.str := by
  unfold driveOuten
  (repeat' split) <;> first | rfl | simp [foldl_str, apply_ite State.str, apply_ite Prod.snd, apply_ite Prod.fst]
@[simp] theorem driveOuten_fus (b : Bool) (s : State) : (driveOuten b s).fus = s.fus := by
  unfold driveOuten
  (repeat' split) <;> first | rfl | simp [foldl_fus, apply_ite State.fus, apply_ite Prod.snd, apply_ite Prod.fst]
@[simp] theorem driveOuten_evr (b : Bool) (s : State) : (driveOuten b s).evr = s.evr := by
  unfold driveOuten
  (repeat' split) <;> first | rfl | simp [foldl_evr, apply_ite State.evr, apply_ite Prod.snd, apply_ite Prod.fst]
@[simp] theorem driveOuten_rtc (b : Bool) (s : State) : (driveOuten b s).rtc = s.rtc := by
  unfold driveOuten
  (repeat' split) <;> first | rfl | simp [foldl_rtc, apply_ite State.rtc, apply_ite Prod.snd, apply_ite Prod.fst]
@[simp] theorem driveOuten_boot (b : Bool) (s : State) : (driveOuten b s).boot = s.boot := by
  unfold driveOuten
  (repeat' split) <;> first | rfl | simp [foldl_boot, apply_ite State.boot, apply_ite Prod.snd, apply_ite Prod.fst]
@[simp] theorem driveOuten_pin (b : Bool) (s : State) : (driveOuten b s).pin = s.pin := by
  unfold driveOuten
  (repeat' split) <;> first | rfl | simp [foldl_pin, apply_ite State.pin, apply_ite Prod.snd, apply_ite Prod.fst]
@[simp] theorem driveOuten_mspi (b : Bool) (s : State) : (driveOuten b s).mspi = s.mspi := by
  unfold driveOuten
  (repeat' split) <;> first | rfl | simp [foldl_mspi, apply_ite State.mspi, apply_ite Prod.snd, apply_ite Prod.fst]
@[simp] theorem driveOuten_twn (b : Bool) (s : State) : (driveOuten b s).twn = s.twn := by
  unfold driveOuten
  (repeat' split) <;> first | rfl | simp [foldl_twn, apply_ite State.twn, apply_ite Prod.snd, apply_ite Prod.fst]
@[simp] theorem driveOuten_pcl (b : Bool) (s : State) : (driveOuten b s).pcl = s.pcl := by
  unfold driveOuten
  (repeat' split) <;> first | rfl | simp [foldl_pcl, apply_ite State.pcl, apply_ite Prod.snd, apply_ite Prod.fst]
@[simp] theorem driveOuten_als (b : Bool) (s : State) : (driveOuten b s).als = s.als := by
  unfold driveOuten
  (repeat' split) <;> first | rfl | simp [foldl_als, apply_ite State.als, apply_ite Prod.snd, apply_ite Prod.fst]
@[simp] theorem driveOuten_srv (b : Bool) (s : State) : (driveOuten b s).srv = s.srv := by
  unfold driveOuten
  (repeat' split) <;> first | rfl | simp [foldl_srv, apply_ite State.srv, apply_ite Prod.snd, apply_ite Prod.fst]
@[simp] theorem driveOuten_mbcs (b : Bool) (s : State) : (driveOuten b s).mbcs = s.mbcs := by
  unfold driveOuten
  (repeat' split) <;> first | rfl | simp [foldl_mbcs, apply_ite State.mbcs, apply_ite Prod.snd, apply_ite Prod.fst]
@[simp] theorem driveOuten_bus (b : Bool) (s : State) : (driveOuten b s).bus = s.bus := by
  unfold driveOuten
  (repeat' split) <;> first | rfl | simp [foldl_bus, apply_ite State.bus, apply_ite Prod.snd, apply_ite Prod.fst]
@[simp] theorem driveOuten_net (b : Bool) (s : State) : (driveOuten b s).net = s.net := by
  unfold driveOuten
  (repeat' split) <;> first | rfl | simp [foldl_net, apply_ite State.net, apply_ite Prod.snd, apply_ite Prod.fst]
@[simp] theorem driveOuten_pim (b : Bool) (s : State) : (driveOuten b s).pim = s.pim := by
  unfold driveOuten
  (repeat' split) <;> first | rfl | simp [foldl_pim, apply_ite State.pim, apply_ite Prod.snd, apply_ite Prod.fst]
@[simp] theorem driveOuten_flash (b : Bool) (s : State) : (driveOuten b s).flash = s.flash := by
  unfold driveOuten
  (repeat' split) <;> first | rfl | simp [foldl_flash, apply_ite State.flash, apply_ite Prod.snd, apply_ite Prod.fst]
@[simp] theorem driveOuten_image (b : Bool) (s : State) : (driveOuten b s).image = s.image := by
  unfold driveOuten
  (repeat' split) <;> first | rfl | simp [foldl_image, apply_ite State.image, apply_ite Prod.snd, apply_ite Prod.fst]
@[simp] theorem driveOuten_imageOk (b : Bool) (s : State) : (driveOuten b s).imageOk = s.imageOk := by
  unfold driveOuten
  (repeat' split) <;> first | rfl | simp [foldl_imageOk, apply_ite State.imageOk, apply_ite Prod.snd, apply_ite Prod.fst]
@[simp] theorem driveOuten_draws (b : Bool) (s : State) : (driveOuten b s).draws = s.draws := by
  unfold driveOuten
  (repeat' split) <;> first | rfl | simp [foldl_draws, apply_ite State.draws, apply_ite Prod.snd, apply_ite Prod.fst]
@[simp] theorem driveOuten_out (b : Bool) (s : State) : (driveOuten b s).out = s.out := by
  unfold driveOuten
  (repeat' split) <;> first | rfl | simp [foldl_out, apply_ite State.out, apply_ite Prod.snd, apply_ite Prod.fst]
@[simp] theorem driveOuten_pending (b : Bool) (s : State) : (driveOuten b s).pending = s.pending := by
  unfold driveOuten
  (repeat' split) <;> first | rfl | simp [foldl_pending, apply_ite State.pending, apply_ite Prod.snd, apply_ite Prod.fst]
@[simp] theorem openGates_sys (s : State) : (openGates s).sys = s.sys := by
  unfold openGates
  (repeat' split) <;> first | rfl | simp [foldl_sys, apply_ite State.sys, apply_ite Prod.snd, apply_ite Prod.fst]
@[simp] theorem openGates_clk (s : State) : (openGates s).clk = s.clk := by
  unfold openGates
  (repeat' split) <;> first | rfl | simp [foldl_clk, apply_ite State.clk, apply_ite Prod.snd, apply_ite Prod.fst]
@[simp] theorem openGates_tks (s : State) : (openGates s).tks = s.tks := by
  unfold openGates
  (repeat' split) <;> first | rfl | simp [foldl_tks, apply_ite State.tks, apply_ite Prod.snd, apply_ite Prod.fst]
@[simp] theorem openGates_tim (s : State) : (openGates s).tim = s.tim := by
  unfold openGates
  (repeat' split) <;> first | rfl | simp [foldl_tim, apply_ite State.tim, apply_ite Prod.snd, apply_ite Prod.fst]
@[simp] theorem openGates_gnb (s : State) : (openGates s).gnb = s.gnb := by
  unfold openGates
  (repeat' split) <;> first | rfl | simp [foldl_gnb, apply_ite State.gnb, apply_ite Prod.snd, apply_ite Prod.fst]
@[simp] theorem openGates_dfc (s : State) : (openGates s).dfc = s.dfc := by
  unfold openGates
  (repeat' split) <;> first | rfl | simp [foldl_dfc, apply_ite State.dfc, apply_ite Prod.snd, apply_ite Prod.fst]
@[simp] theorem openGates_str (s : State) : (openGates s).str = s.str := by
  unfold openGates
  (repeat' split) <;> first | rfl | simp [foldl_str, apply_ite State.str, apply_ite Prod.snd, apply_ite Prod.fst]
@[simp] theorem openGates_fus (s : State) : (openGates s).fus = s.fus := by
  unfold openGates
  (repeat' split) <;> first | rfl | simp [foldl_fus, apply_ite State.fus, apply_ite Prod.snd, apply_ite Prod.fst]
@[simp] theorem openGates_rtc (s : State) : (openGates s).rtc = s.rtc := by
  unfold openGates
  (repeat' split) <;> first | rfl | simp [foldl_rtc, apply_ite State.rtc, apply_ite Prod.snd, apply_ite Prod.fst]
@[simp] theorem openGates_boot (s : State) : (openGates s).boot = s.boot := by
  unfold openGates
  (repeat' split) <;> first | rfl | simp [foldl_boot, apply_ite State.boot, apply_ite Prod.snd, apply_ite Prod.fst]
@[simp] theorem openGates_pin (s : State) : (openGates s).pin = s.pin := by
  unfold openGates
  (repeat' split) <;> first | rfl | simp [foldl_pin, apply_ite State.pin, apply_ite Prod.snd, apply_ite Prod.fst]
@[simp] theorem openGates_mspi (s : State) : (openGates s).mspi = s.mspi := by
  unfold openGates
  (repeat' split) <;> first | rfl | simp [foldl_mspi, apply_ite State.mspi, apply_ite Prod.snd, apply_ite Prod.fst]
@[simp] theorem openGates_twn (s : State) : (openGates s).twn = s.twn := by
  unfold openGates
  (repeat' split) <;> first | rfl | simp [foldl_twn, apply_ite State.twn, apply_ite Prod.snd, apply_ite Prod.fst]
@[simp] theorem openGates_pcl (s : State) : (openGates s).pcl = s.pcl := by
  unfold openGates
  (repeat' split) <;> first | rfl | simp [foldl_pcl, apply_ite State.pcl, apply_ite Prod.snd, apply_ite Prod.fst]
@[simp] theorem openGates_als (s : State) : (openGates s).als = s.als := by
  unfold openGates
  (repeat' split) <;> first | rfl | simp [foldl_als, apply_ite State.als, apply_ite Prod.snd, apply_ite Prod.fst]
@[simp] theorem openGates_srv (s : State) : (openGates s).srv = s.srv := by
  unfold openGates
  (repeat' split) <;> first | rfl | simp [foldl_srv, apply_ite State.srv, apply_ite Prod.snd, apply_ite Prod.fst]
@[simp] theorem openGates_mbcs (s : State) : (openGates s).mbcs = s.mbcs := by
  unfold openGates
  (repeat' split) <;> first | rfl | simp [foldl_mbcs, apply_ite State.mbcs, apply_ite Prod.snd, apply_ite Prod.fst]
@[simp] theorem openGates_bus (s : State) : (openGates s).bus = s.bus := by
  unfold openGates
  (repeat' split) <;> first | rfl | simp [foldl_bus, apply_ite State.bus, apply_ite Prod.snd, apply_ite Prod.fst]
@[simp] theorem openGates_net (s : State) : (openGates s).net = s.net := by
  unfold openGates
  (repeat' split) <;> first | rfl | simp [foldl_net, apply_ite State.net, apply_ite Prod.snd, apply_ite Prod.fst]
@[simp] theorem openGates_pim (s : State) : (openGates s).pim = s.pim := by
  unfold openGates
  (repeat' split) <;> first | rfl | simp [foldl_pim, apply_ite State.pim, apply_ite Prod.snd, apply_ite Prod.fst]
@[simp] theorem openGates_flash (s : State) : (openGates s).flash = s.flash := by
  unfold openGates
  (repeat' split) <;> first | rfl | simp [foldl_flash, apply_ite State.flash, apply_ite Prod.snd, apply_ite Prod.fst]
@[simp] theorem openGates_image (s : State) : (openGates s).image = s.image := by
  unfold openGates
  (repeat' split) <;> first | rfl | simp [foldl_image, apply_ite State.image, apply_ite Prod.snd, apply_ite Prod.fst]
@[simp] theorem openGates_imageOk (s : State) : (openGates s).imageOk = s.imageOk := by
  unfold openGates
  (repeat' split) <;> first | rfl | simp [foldl_imageOk, apply_ite State.imageOk, apply_ite Prod.snd, apply_ite Prod.fst]
@[simp] theorem openGates_draws (s : State) : (openGates s).draws = s.draws := by
  unfold openGates
  (repeat' split) <;> first | rfl | simp [foldl_draws, apply_ite State.draws, apply_ite Prod.snd, apply_ite Prod.fst]
@[simp] theorem openGates_out (s : State) : (openGates s).out = s.out := by
  unfold openGates
  (repeat' split) <;> first | rfl | simp [foldl_out, apply_ite State.out, apply_ite Prod.snd, apply_ite Prod.fst]
@[simp] theorem openGates_pending (s : State) : (openGates s).pending = s.pending := by
  unfold openGates
  (repeat' split) <;> first | rfl | simp [foldl_pending, apply_ite State.pending, apply_ite Prod.snd, apply_ite Prod.fst]
@[simp] theorem closeGates_sys (sending : BitVec 8) (s : State) : (closeGates sending s).sys = s.sys := by
  unfold closeGates
  (repeat' split) <;> first | rfl | simp [foldl_sys, apply_ite State.sys, apply_ite Prod.snd, apply_ite Prod.fst]
@[simp] theorem closeGates_clk (sending : BitVec 8) (s : State) : (closeGates sending s).clk = s.clk := by
  unfold closeGates
  (repeat' split) <;> first | rfl | simp [foldl_clk, apply_ite State.clk, apply_ite Prod.snd, apply_ite Prod.fst]
@[simp] theorem closeGates_tks (sending : BitVec 8) (s : State) : (closeGates sending s).tks = s.tks := by
  unfold closeGates
  (repeat' split) <;> first | rfl | simp [foldl_tks, apply_ite State.tks, apply_ite Prod.snd, apply_ite Prod.fst]
@[simp] theorem closeGates_tim (sending : BitVec 8) (s : State) : (closeGates sending s).tim = s.tim := by
  unfold closeGates
  (repeat' split) <;> first | rfl | simp [foldl_tim, apply_ite State.tim, apply_ite Prod.snd, apply_ite Prod.fst]
@[simp] theorem closeGates_gnb (sending : BitVec 8) (s : State) : (closeGates sending s).gnb = s.gnb := by
  unfold closeGates
  (repeat' split) <;> first | rfl | simp [foldl_gnb, apply_ite State.gnb, apply_ite Prod.snd, apply_ite Prod.fst]
@[simp] theorem closeGates_dfc (sending : BitVec 8) (s : State) : (closeGates sending s).dfc = s.dfc := by
  unfold closeGates
  (repeat' split) <;> first | rfl | simp [foldl_dfc, apply_ite State.dfc, apply_ite Prod.snd, apply_ite Prod.fst]
@[simp] theorem closeGates_str (sending : BitVec 8) (s : State) : (closeGates sending s).str = s.str := by
  unfold closeGates
  (repeat' split) <;> first | rfl | simp [foldl_str, apply_ite State.str, apply_ite Prod.snd, apply_ite Prod.fst]
@[simp] theorem closeGates_fus (sending : BitVec 8) (s : State) : (closeGates sending s).fus = s.fus := by
  unfold closeGates
  (repeat' split) <;> first | rfl | simp [foldl_fus, apply_ite State.fus, apply_ite Prod.snd, apply_ite Prod.fst]
@[simp] theorem closeGates_rtc (sending : BitVec 8) (s : State) : (closeGates sending s).rtc = s.rtc := by
  unfold closeGates
  (repeat' split) <;> first | rfl | simp [foldl_rtc, apply_ite State.rtc, apply_ite Prod.snd, apply_ite Prod.fst]
@[simp] theorem closeGates_boot (sending : BitVec 8) (s : State) : (closeGates sending s).boot = s.boot := by
  unfold closeGates
  (repeat' split) <;> first | rfl | simp [foldl_boot, apply_ite State.boot, apply_ite Prod.snd, apply_ite Prod.fst]
@[simp] theorem closeGates_pin (sending : BitVec 8) (s : State) : (closeGates sending s).pin = s.pin := by
  unfold closeGates
  (repeat' split) <;> first | rfl | simp [foldl_pin, apply_ite State.pin, apply_ite Prod.snd, apply_ite Prod.fst]
@[simp] theorem closeGates_mspi (sending : BitVec 8) (s : State) : (closeGates sending s).mspi = s.mspi := by
  unfold closeGates
  (repeat' split) <;> first | rfl | simp [foldl_mspi, apply_ite State.mspi, apply_ite Prod.snd, apply_ite Prod.fst]
@[simp] theorem closeGates_twn (sending : BitVec 8) (s : State) : (closeGates sending s).twn = s.twn := by
  unfold closeGates
  (repeat' split) <;> first | rfl | simp [foldl_twn, apply_ite State.twn, apply_ite Prod.snd, apply_ite Prod.fst]
@[simp] theorem closeGates_pcl (sending : BitVec 8) (s : State) : (closeGates sending s).pcl = s.pcl := by
  unfold closeGates
  (repeat' split) <;> first | rfl | simp [foldl_pcl, apply_ite State.pcl, apply_ite Prod.snd, apply_ite Prod.fst]
@[simp] theorem closeGates_als (sending : BitVec 8) (s : State) : (closeGates sending s).als = s.als := by
  unfold closeGates
  (repeat' split) <;> first | rfl | simp [foldl_als, apply_ite State.als, apply_ite Prod.snd, apply_ite Prod.fst]
@[simp] theorem closeGates_srv (sending : BitVec 8) (s : State) : (closeGates sending s).srv = s.srv := by
  unfold closeGates
  (repeat' split) <;> first | rfl | simp [foldl_srv, apply_ite State.srv, apply_ite Prod.snd, apply_ite Prod.fst]
@[simp] theorem closeGates_mbcs (sending : BitVec 8) (s : State) : (closeGates sending s).mbcs = s.mbcs := by
  unfold closeGates
  (repeat' split) <;> first | rfl | simp [foldl_mbcs, apply_ite State.mbcs, apply_ite Prod.snd, apply_ite Prod.fst]
@[simp] theorem closeGates_bus (sending : BitVec 8) (s : State) : (closeGates sending s).bus = s.bus := by
  unfold closeGates
  (repeat' split) <;> first | rfl | simp [foldl_bus, apply_ite State.bus, apply_ite Prod.snd, apply_ite Prod.fst]
@[simp] theorem closeGates_net (sending : BitVec 8) (s : State) : (closeGates sending s).net = s.net := by
  unfold closeGates
  (repeat' split) <;> first | rfl | simp [foldl_net, apply_ite State.net, apply_ite Prod.snd, apply_ite Prod.fst]
@[simp] theorem closeGates_pim (sending : BitVec 8) (s : State) : (closeGates sending s).pim = s.pim := by
  unfold closeGates
  (repeat' split) <;> first | rfl | simp [foldl_pim, apply_ite State.pim, apply_ite Prod.snd, apply_ite Prod.fst]
@[simp] theorem closeGates_flash (sending : BitVec 8) (s : State) : (closeGates sending s).flash = s.flash := by
  unfold closeGates
  (repeat' split) <;> first | rfl | simp [foldl_flash, apply_ite State.flash, apply_ite Prod.snd, apply_ite Prod.fst]
@[simp] theorem closeGates_image (sending : BitVec 8) (s : State) : (closeGates sending s).image = s.image := by
  unfold closeGates
  (repeat' split) <;> first | rfl | simp [foldl_image, apply_ite State.image, apply_ite Prod.snd, apply_ite Prod.fst]
@[simp] theorem closeGates_imageOk (sending : BitVec 8) (s : State) : (closeGates sending s).imageOk = s.imageOk := by
  unfold closeGates
  (repeat' split) <;> first | rfl | simp [foldl_imageOk, apply_ite State.imageOk, apply_ite Prod.snd, apply_ite Prod.fst]
@[simp] theorem closeGates_draws (sending : BitVec 8) (s : State) : (closeGates sending s).draws = s.draws := by
  unfold closeGates
  (repeat' split) <;> first | rfl | simp [foldl_draws, apply_ite State.draws, apply_ite Prod.snd, apply_ite Prod.fst]
@[simp] theorem closeGates_out (sending : BitVec 8) (s : State) : (closeGates sending s).out = s.out := by
  unfold closeGates
  (repeat' split) <;> first | rfl | simp [foldl_out, apply_ite State.out, apply_ite Prod.snd, apply_ite Prod.fst]
@[simp] theorem closeGates_pending (sending : BitVec 8) (s : State) : (closeGates sending s).pending = s.pending := by
  unfold closeGates
  (repeat' split) <;> first | rfl | simp [foldl_pending, apply_ite State.pending, apply_ite Prod.snd, apply_ite Prod.fst]
@[simp] theorem cutGates_sys (s : State) : (cutGates s).sys = s.sys := by
  unfold cutGates
  (repeat' split) <;> first | rfl | simp [foldl_sys, apply_ite State.sys, apply_ite Prod.snd, apply_ite Prod.fst]
@[simp] theorem cutGates_clk (s : State) : (cutGates s).clk = s.clk := by
  unfold cutGates
  (repeat' split) <;> first | rfl | simp [foldl_clk, apply_ite State.clk, apply_ite Prod.snd, apply_ite Prod.fst]
@[simp] theorem cutGates_tks (s : State) : (cutGates s).tks = s.tks := by
  unfold cutGates
  (repeat' split) <;> first | rfl | simp [foldl_tks, apply_ite State.tks, apply_ite Prod.snd, apply_ite Prod.fst]
@[simp] theorem cutGates_tim (s : State) : (cutGates s).tim = s.tim := by
  unfold cutGates
  (repeat' split) <;> first | rfl | simp [foldl_tim, apply_ite State.tim, apply_ite Prod.snd, apply_ite Prod.fst]
@[simp] theorem cutGates_gnb (s : State) : (cutGates s).gnb = s.gnb := by
  unfold cutGates
  (repeat' split) <;> first | rfl | simp [foldl_gnb, apply_ite State.gnb, apply_ite Prod.snd, apply_ite Prod.fst]
@[simp] theorem cutGates_dfc (s : State) : (cutGates s).dfc = s.dfc := by
  unfold cutGates
  (repeat' split) <;> first | rfl | simp [foldl_dfc, apply_ite State.dfc, apply_ite Prod.snd, apply_ite Prod.fst]
@[simp] theorem cutGates_str (s : State) : (cutGates s).str = s.str := by
  unfold cutGates
  (repeat' split) <;> first | rfl | simp [foldl_str, apply_ite State.str, apply_ite Prod.snd, apply_ite Prod.fst]
@[simp] theorem cutGates_fus (s : State) : (cutGates s).fus = s.fus := by
  unfold cutGates
  (repeat' split) <;> first | rfl | simp [foldl_fus, apply_ite State.fus, apply_ite Prod.snd, apply_ite Prod.fst]
@[simp] theorem cutGates_evr (s : State) : (cutGates s).evr = s.evr := by
  unfold cutGates
  (repeat' split) <;> first | rfl | simp [foldl_evr, apply_ite State.evr, apply_ite Prod.snd, apply_ite Prod.fst]
@[simp] theorem cutGates_rtc (s : State) : (cutGates s).rtc = s.rtc := by
  unfold cutGates
  (repeat' split) <;> first | rfl | simp [foldl_rtc, apply_ite State.rtc, apply_ite Prod.snd, apply_ite Prod.fst]
@[simp] theorem cutGates_boot (s : State) : (cutGates s).boot = s.boot := by
  unfold cutGates
  (repeat' split) <;> first | rfl | simp [foldl_boot, apply_ite State.boot, apply_ite Prod.snd, apply_ite Prod.fst]
@[simp] theorem cutGates_pin (s : State) : (cutGates s).pin = s.pin := by
  unfold cutGates
  (repeat' split) <;> first | rfl | simp [foldl_pin, apply_ite State.pin, apply_ite Prod.snd, apply_ite Prod.fst]
@[simp] theorem cutGates_mspi (s : State) : (cutGates s).mspi = s.mspi := by
  unfold cutGates
  (repeat' split) <;> first | rfl | simp [foldl_mspi, apply_ite State.mspi, apply_ite Prod.snd, apply_ite Prod.fst]
@[simp] theorem cutGates_twn (s : State) : (cutGates s).twn = s.twn := by
  unfold cutGates
  (repeat' split) <;> first | rfl | simp [foldl_twn, apply_ite State.twn, apply_ite Prod.snd, apply_ite Prod.fst]
@[simp] theorem cutGates_pcl (s : State) : (cutGates s).pcl = s.pcl := by
  unfold cutGates
  (repeat' split) <;> first | rfl | simp [foldl_pcl, apply_ite State.pcl, apply_ite Prod.snd, apply_ite Prod.fst]
@[simp] theorem cutGates_als (s : State) : (cutGates s).als = s.als := by
  unfold cutGates
  (repeat' split) <;> first | rfl | simp [foldl_als, apply_ite State.als, apply_ite Prod.snd, apply_ite Prod.fst]
@[simp] theorem cutGates_srv (s : State) : (cutGates s).srv = s.srv := by
  unfold cutGates
  (repeat' split) <;> first | rfl | simp [foldl_srv, apply_ite State.srv, apply_ite Prod.snd, apply_ite Prod.fst]
@[simp] theorem cutGates_mbcs (s : State) : (cutGates s).mbcs = s.mbcs := by
  unfold cutGates
  (repeat' split) <;> first | rfl | simp [foldl_mbcs, apply_ite State.mbcs, apply_ite Prod.snd, apply_ite Prod.fst]
@[simp] theorem cutGates_bus (s : State) : (cutGates s).bus = s.bus := by
  unfold cutGates
  (repeat' split) <;> first | rfl | simp [foldl_bus, apply_ite State.bus, apply_ite Prod.snd, apply_ite Prod.fst]
@[simp] theorem cutGates_net (s : State) : (cutGates s).net = s.net := by
  unfold cutGates
  (repeat' split) <;> first | rfl | simp [foldl_net, apply_ite State.net, apply_ite Prod.snd, apply_ite Prod.fst]
@[simp] theorem cutGates_pim (s : State) : (cutGates s).pim = s.pim := by
  unfold cutGates
  (repeat' split) <;> first | rfl | simp [foldl_pim, apply_ite State.pim, apply_ite Prod.snd, apply_ite Prod.fst]
@[simp] theorem cutGates_flash (s : State) : (cutGates s).flash = s.flash := by
  unfold cutGates
  (repeat' split) <;> first | rfl | simp [foldl_flash, apply_ite State.flash, apply_ite Prod.snd, apply_ite Prod.fst]
@[simp] theorem cutGates_image (s : State) : (cutGates s).image = s.image := by
  unfold cutGates
  (repeat' split) <;> first | rfl | simp [foldl_image, apply_ite State.image, apply_ite Prod.snd, apply_ite Prod.fst]
@[simp] theorem cutGates_imageOk (s : State) : (cutGates s).imageOk = s.imageOk := by
  unfold cutGates
  (repeat' split) <;> first | rfl | simp [foldl_imageOk, apply_ite State.imageOk, apply_ite Prod.snd, apply_ite Prod.fst]
@[simp] theorem cutGates_draws (s : State) : (cutGates s).draws = s.draws := by
  unfold cutGates
  (repeat' split) <;> first | rfl | simp [foldl_draws, apply_ite State.draws, apply_ite Prod.snd, apply_ite Prod.fst]
@[simp] theorem cutGates_out (s : State) : (cutGates s).out = s.out := by
  unfold cutGates
  (repeat' split) <;> first | rfl | simp [foldl_out, apply_ite State.out, apply_ite Prod.snd, apply_ite Prod.fst]
@[simp] theorem cutGates_pending (s : State) : (cutGates s).pending = s.pending := by
  unfold cutGates
  (repeat' split) <;> first | rfl | simp [foldl_pending, apply_ite State.pending, apply_ite Prod.snd, apply_ite Prod.fst]
@[simp] theorem urgentHeartbeat_sys (takeover : Bool) (s : State) : (urgentHeartbeat takeover s).sys = s.sys := by
  unfold urgentHeartbeat
  (repeat' split) <;> first | rfl | simp [foldl_sys, apply_ite State.sys, apply_ite Prod.snd, apply_ite Prod.fst]
@[simp] theorem urgentHeartbeat_clk (takeover : Bool) (s : State) : (urgentHeartbeat takeover s).clk = s.clk := by
  unfold urgentHeartbeat
  (repeat' split) <;> first | rfl | simp [foldl_clk, apply_ite State.clk, apply_ite Prod.snd, apply_ite Prod.fst]
@[simp] theorem urgentHeartbeat_tks (takeover : Bool) (s : State) : (urgentHeartbeat takeover s).tks = s.tks := by
  unfold urgentHeartbeat
  (repeat' split) <;> first | rfl | simp [foldl_tks, apply_ite State.tks, apply_ite Prod.snd, apply_ite Prod.fst]
@[simp] theorem urgentHeartbeat_tim (takeover : Bool) (s : State) : (urgentHeartbeat takeover s).tim = s.tim := by
  unfold urgentHeartbeat
  (repeat' split) <;> first | rfl | simp [foldl_tim, apply_ite State.tim, apply_ite Prod.snd, apply_ite Prod.fst]
@[simp] theorem urgentHeartbeat_gnb (takeover : Bool) (s : State) : (urgentHeartbeat takeover s).gnb = s.gnb := by
  unfold urgentHeartbeat
  (repeat' split) <;> first | rfl | simp [foldl_gnb, apply_ite State.gnb, apply_ite Prod.snd, apply_ite Prod.fst]
@[simp] theorem urgentHeartbeat_dfc (takeover : Bool) (s : State) : (urgentHeartbeat takeover s).dfc = s.dfc := by
  unfold urgentHeartbeat
  (repeat' split) <;> first | rfl | simp [foldl_dfc, apply_ite State.dfc, apply_ite Prod.snd, apply_ite Prod.fst]
@[simp] theorem urgentHeartbeat_str (takeover : Bool) (s : State) : (urgentHeartbeat takeover s).str = s.str := by
  unfold urgentHeartbeat
  (repeat' split) <;> first | rfl | simp [foldl_str, apply_ite State.str, apply_ite Prod.snd, apply_ite Prod.fst]
@[simp] theorem urgentHeartbeat_fus (takeover : Bool) (s : State) : (urgentHeartbeat takeover s).fus = s.fus := by
  unfold urgentHeartbeat
  (repeat' split) <;> first | rfl | simp [foldl_fus, apply_ite State.fus, apply_ite Prod.snd, apply_ite Prod.fst]
@[simp] theorem urgentHeartbeat_saf (takeover : Bool) (s : State) : (urgentHeartbeat takeover s).saf = s.saf := by
  unfold urgentHeartbeat
  (repeat' split) <;> first | rfl | simp [foldl_saf, apply_ite State.saf, apply_ite Prod.snd, apply_ite Prod.fst]
@[simp] theorem urgentHeartbeat_evr (takeover : Bool) (s : State) : (urgentHeartbeat takeover s).evr = s.evr := by
  unfold urgentHeartbeat
  (repeat' split) <;> first | rfl | simp [foldl_evr, apply_ite State.evr, apply_ite Prod.snd, apply_ite Prod.fst]
@[simp] theorem urgentHeartbeat_rtc (takeover : Bool) (s : State) : (urgentHeartbeat takeover s).rtc = s.rtc := by
  unfold urgentHeartbeat
  (repeat' split) <;> first | rfl | simp [foldl_rtc, apply_ite State.rtc, apply_ite Prod.snd, apply_ite Prod.fst]
@[simp] theorem urgentHeartbeat_boot (takeover : Bool) (s : State) : (urgentHeartbeat takeover s).boot = s.boot := by
  unfold urgentHeartbeat
  (repeat' split) <;> first | rfl | simp [foldl_boot, apply_ite State.boot, apply_ite Prod.snd, apply_ite Prod.fst]
@[simp] theorem urgentHeartbeat_pin (takeover : Bool) (s : State) : (urgentHeartbeat takeover s).pin = s.pin := by
  unfold urgentHeartbeat
  (repeat' split) <;> first | rfl | simp [foldl_pin, apply_ite State.pin, apply_ite Prod.snd, apply_ite Prod.fst]
@[simp] theorem urgentHeartbeat_mspi (takeover : Bool) (s : State) : (urgentHeartbeat takeover s).mspi = s.mspi := by
  unfold urgentHeartbeat
  (repeat' split) <;> first | rfl | simp [foldl_mspi, apply_ite State.mspi, apply_ite Prod.snd, apply_ite Prod.fst]
@[simp] theorem urgentHeartbeat_twn (takeover : Bool) (s : State) : (urgentHeartbeat takeover s).twn = s.twn := by
  unfold urgentHeartbeat
  (repeat' split) <;> first | rfl | simp [foldl_twn, apply_ite State.twn, apply_ite Prod.snd, apply_ite Prod.fst]
@[simp] theorem urgentHeartbeat_pcl (takeover : Bool) (s : State) : (urgentHeartbeat takeover s).pcl = s.pcl := by
  unfold urgentHeartbeat
  (repeat' split) <;> first | rfl | simp [foldl_pcl, apply_ite State.pcl, apply_ite Prod.snd, apply_ite Prod.fst]
@[simp] theorem urgentHeartbeat_als (takeover : Bool) (s : State) : (urgentHeartbeat takeover s).als = s.als := by
  unfold urgentHeartbeat
  (repeat' split) <;> first | rfl | simp [foldl_als, apply_ite State.als, apply_ite Prod.snd, apply_ite Prod.fst]
@[simp] theorem urgentHeartbeat_srv (takeover : Bool) (s : State) : (urgentHeartbeat takeover s).srv = s.srv := by
  unfold urgentHeartbeat
  (repeat' split) <;> first | rfl | simp [foldl_srv, apply_ite State.srv, apply_ite Prod.snd, apply_ite Prod.fst]
@[simp] theorem urgentHeartbeat_mbcs (takeover : Bool) (s : State) : (urgentHeartbeat takeover s).mbcs = s.mbcs := by
  unfold urgentHeartbeat
  (repeat' split) <;> first | rfl | simp [foldl_mbcs, apply_ite State.mbcs, apply_ite Prod.snd, apply_ite Prod.fst]
@[simp] theorem urgentHeartbeat_bus (takeover : Bool) (s : State) : (urgentHeartbeat takeover s).bus = s.bus := by
  unfold urgentHeartbeat
  (repeat' split) <;> first | rfl | simp [foldl_bus, apply_ite State.bus, apply_ite Prod.snd, apply_ite Prod.fst]
@[simp] theorem urgentHeartbeat_net (takeover : Bool) (s : State) : (urgentHeartbeat takeover s).net = s.net := by
  unfold urgentHeartbeat
  (repeat' split) <;> first | rfl | simp [foldl_net, apply_ite State.net, apply_ite Prod.snd, apply_ite Prod.fst]
@[simp] theorem urgentHeartbeat_pim (takeover : Bool) (s : State) : (urgentHeartbeat takeover s).pim = s.pim := by
  unfold urgentHeartbeat
  (repeat' split) <;> first | rfl | simp [foldl_pim, apply_ite State.pim, apply_ite Prod.snd, apply_ite Prod.fst]
@[simp] theorem urgentHeartbeat_flash (takeover : Bool) (s : State) : (urgentHeartbeat takeover s).flash = s.flash := by
  unfold urgentHeartbeat
  (repeat' split) <;> first | rfl | simp [foldl_flash, apply_ite State.flash, apply_ite Prod.snd, apply_ite Prod.fst]
@[simp] theorem urgentHeartbeat_image (takeover : Bool) (s : State) : (urgentHeartbeat takeover s).image = s.image := by
  unfold urgentHeartbeat
  (repeat' split) <;> first | rfl | simp [foldl_image, apply_ite State.image, apply_ite Prod.snd, apply_ite Prod.fst]
@[simp] theorem urgentHeartbeat_imageOk (takeover : Bool) (s : State) : (urgentHeartbeat takeover s).imageOk = s.imageOk := by
  unfold urgentHeartbeat
  (repeat' split) <;> first | rfl | simp [foldl_imageOk, apply_ite State.imageOk, apply_ite Prod.snd, apply_ite Prod.fst]
@[simp] theorem urgentHeartbeat_draws (takeover : Bool) (s : State) : (urgentHeartbeat takeover s).draws = s.draws := by
  unfold urgentHeartbeat
  (repeat' split) <;> first | rfl | simp [foldl_draws, apply_ite State.draws, apply_ite Prod.snd, apply_ite Prod.fst]
@[simp] theorem urgentHeartbeat_pending (takeover : Bool) (s : State) : (urgentHeartbeat takeover s).pending = s.pending := by
  unfold urgentHeartbeat
  (repeat' split) <;> first | rfl | simp [foldl_pending, apply_ite State.pending, apply_ite Prod.snd, apply_ite Prod.fst]
@[simp] theorem updMbc_sys (n : Nat) (f : Mbc → Mbc) (s : State) : (updMbc n f s).sys = s.sys := by
  unfold updMbc
  (repeat' split) <;> first | rfl | simp [foldl_sys, apply_ite State.sys, apply_ite Prod.snd, apply_ite Prod.fst]
@[simp] theorem updMbc_clk (n : Nat) (f : Mbc → Mbc) (s : State) : (updMbc n f s).clk = s.clk := by
  unfold updMbc
  (repeat' split) <;> first | rfl | simp [foldl_clk, apply_ite State.clk, apply_ite Prod.snd, apply_ite Prod.fst]
@[simp] theorem updMbc_tks (n : Nat) (f : Mbc → Mbc) (s : State) : (updMbc n f s).tks = s.tks := by
  unfold updMbc
  (repeat' split) <;> first | rfl | simp [foldl_tks, apply_ite State.tks, apply_ite Prod.snd, apply_ite Prod.fst]
@[simp] theorem updMbc_tim (n : Nat) (f : Mbc → Mbc) (s : State) : (updMbc n f s).tim = s.tim := by
  unfold updMbc
  (repeat' split) <;> first | rfl | simp [foldl_tim, apply_ite State.tim, apply_ite Prod.snd, apply_ite Prod.fst]
@[simp] theorem updMbc_gnb (n : Nat) (f : Mbc → Mbc) (s : State) : (updMbc n f s).gnb = s.gnb := by
  unfold updMbc
  (repeat' split) <;> first | rfl | simp [foldl_gnb, apply_ite State.gnb, apply_ite Prod.snd, apply_ite Prod.fst]
@[simp] theorem updMbc_dfc (n : Nat) (f : Mbc → Mbc) (s : State) : (updMbc n f s).dfc = s.dfc := by
  unfold updMbc
  (repeat' split) <;> first | rfl | simp [foldl_dfc, apply_ite State.dfc, apply_ite Prod.snd, apply_ite Prod.fst]
@[simp] theorem updMbc_str (n : Nat) (f : Mbc → Mbc) (s : State) : (updMbc n f s).str = s.str := by
  unfold updMbc
  (repeat' split) <;> first | rfl | simp [foldl_str, apply_ite State.str, apply_ite Prod.snd, apply_ite Prod.fst]
@[simp] theorem updMbc_fus (n : Nat) (f : Mbc → Mbc) (s : State) : (updMbc n f s).fus = s.fus := by
  unfold updMbc
  (repeat' split) <;> first | rfl | simp [foldl_fus, apply_ite State.fus, apply_ite Prod.snd, apply_ite Prod.fst]
@[simp] theorem updMbc_saf (n : Nat) (f : Mbc → Mbc) (s : State) : (updMbc n f s).saf = s.saf := by
  unfold updMbc
  (repeat' split) <;> first | rfl | simp [foldl_saf, apply_ite State.saf, apply_ite Prod.snd, apply_ite Prod.fst]
@[simp] theorem updMbc_evr (n : Nat) (f : Mbc → Mbc) (s : State) : (updMbc n f s).evr = s.evr := by
  unfold updMbc
  (repeat' split) <;> first | rfl | simp [foldl_evr, apply_ite State.evr, apply_ite Prod.snd, apply_ite Prod.fst]
@[simp] theorem updMbc_rtc (n : Nat) (f : Mbc → Mbc) (s : State) : (updMbc n f s).rtc = s.rtc := by
  unfold updMbc
  (repeat' split) <;> first | rfl | simp [foldl_rtc, apply_ite State.rtc, apply_ite Prod.snd, apply_ite Prod.fst]
@[simp] theorem updMbc_boot (n : Nat) (f : Mbc → Mbc) (s : State) : (updMbc n f s).boot = s.boot := by
  unfold updMbc
  (repeat' split) <;> first | rfl | simp [foldl_boot, apply_ite State.boot, apply_ite Prod.snd, apply_ite Prod.fst]
@[simp] theorem updMbc_pin (n : Nat) (f : Mbc → Mbc) (s : State) : (updMbc n f s).pin = s.pin := by
  unfold updMbc
  (repeat' split) <;> first | rfl | simp [foldl_pin, apply_ite State.pin, apply_ite Prod.snd, apply_ite Prod.fst]
@[simp] theorem updMbc_mspi (n : Nat) (f : Mbc → Mbc) (s : State) : (updMbc n f s).mspi = s.mspi := by
  unfold updMbc
  (repeat' split) <;> first | rfl | simp [foldl_mspi, apply_ite State.mspi, apply_ite Prod.snd, apply_ite Prod.fst]
@[simp] theorem updMbc_twn (n : Nat) (f : Mbc → Mbc) (s : State) : (updMbc n f s).twn = s.twn := by
  unfold updMbc
  (repeat' split) <;> first | rfl | simp [foldl_twn, apply_ite State.twn, apply_ite Prod.snd, apply_ite Prod.fst]
@[simp] theorem updMbc_pcl (n : Nat) (f : Mbc → Mbc) (s : State) : (updMbc n f s).pcl = s.pcl := by
  unfold updMbc
  (repeat' split) <;> first | rfl | simp [foldl_pcl, apply_ite State.pcl, apply_ite Prod.snd, apply_ite Prod.fst]
@[simp] theorem updMbc_als (n : Nat) (f : Mbc → Mbc) (s : State) : (updMbc n f s).als = s.als := by
  unfold updMbc
  (repeat' split) <;> first | rfl | simp [foldl_als, apply_ite State.als, apply_ite Prod.snd, apply_ite Prod.fst]
@[simp] theorem updMbc_srv (n : Nat) (f : Mbc → Mbc) (s : State) : (updMbc n f s).srv = s.srv := by
  unfold updMbc
  (repeat' split) <;> first | rfl | simp [foldl_srv, apply_ite State.srv, apply_ite Prod.snd, apply_ite Prod.fst]
@[simp] theorem updMbc_bus (n : Nat) (f : Mbc → Mbc) (s : State) : (updMbc n f s).bus = s.bus := by
  unfold updMbc
  (repeat' split) <;> first | rfl | simp [foldl_bus, apply_ite State.bus, apply_ite Prod.snd, apply_ite Prod.fst]
@[simp] theorem updMbc_net (n : Nat) (f : Mbc → Mbc) (s : State) : (updMbc n f s).net = s.net := by
  unfold updMbc
  (repeat' split) <;> first | rfl | simp [foldl_net, apply_ite State.net, apply_ite Prod.snd, apply_ite Prod.fst]
@[simp] theorem updMbc_pim (n : Nat) (f : Mbc → Mbc) (s : State) : (updMbc n f s).pim = s.pim := by
  unfold updMbc
  (repeat' split) <;> first | rfl | simp [foldl_pim, apply_ite State.pim, apply_ite Prod.snd, apply_ite Prod.fst]
@[simp] theorem updMbc_flash (n : Nat) (f : Mbc → Mbc) (s : State) : (updMbc n f s).flash = s.flash := by
  unfold updMbc
  (repeat' split) <;> first | rfl | simp [foldl_flash, apply_ite State.flash, apply_ite Prod.snd, apply_ite Prod.fst]
@[simp] theorem updMbc_image (n : Nat) (f : Mbc → Mbc) (s : State) : (updMbc n f s).image = s.image := by
  unfold updMbc
  (repeat' split) <;> first | rfl | simp [foldl_image, apply_ite State.image, apply_ite Prod.snd, apply_ite Prod.fst]
@[simp] theorem updMbc_imageOk (n : Nat) (f : Mbc → Mbc) (s : State) : (updMbc n f s).imageOk = s.imageOk := by
  unfold updMbc
  (repeat' split) <;> first | rfl | simp [foldl_imageOk, apply_ite State.imageOk, apply_ite Prod.snd, apply_ite Prod.fst]
@[simp] theorem updMbc_draws (n : Nat) (f : Mbc → Mbc) (s : State) : (updMbc n f s).draws = s.draws := by
  unfold updMbc
  (repeat' split) <;> first | rfl | simp [foldl_draws, apply_ite State.draws, apply_ite Prod.snd, apply_ite Prod.fst]
@[simp] theorem updMbc_out (n : Nat) (f : Mbc → Mbc) (s : State) : (updMbc n f s).out = s.out := by
  unfold updMbc
  (repeat' split) <;> first | rfl | simp [foldl_out, apply_ite State.out, apply_ite Prod.snd, apply_ite Prod.fst]
@[simp] theorem updMbc_pending (n : Nat) (f : Mbc → Mbc) (s : State) : (updMbc n f s).pending = s.pending := by
  unfold updMbc
  (repeat' split) <;> first | rfl | simp [foldl_pending, apply_ite State.pending, apply_ite Prod.snd, apply_ite Prod.fst]
@[simp] theorem txOutcome_sys (f : CanTx) (code : Nat) (s : State) : (txOutcome f code s).sys = s.sys := by
  unfold txOutcome
  (repeat' split) <;> first | rfl | simp [foldl_sys, apply_ite State.sys, apply_ite Prod.snd, apply_ite Prod.fst]
@[simp] theorem txOutcome_clk (f : CanTx) (code : Nat) (s : State) : (txOutcome f code s).clk = s.clk := by
  unfold txOutcome
  (repeat' split) <;> first | rfl | simp [foldl_clk, apply_ite State.clk, apply_ite Prod.snd, apply_ite Prod.fst]
@[simp] theorem txOutcome_tks (f : CanTx) (code : Nat) (s : State) : (txOutcome f code s).tks = s.tks := by
  unfold txOutcome
  (repeat' split) <;> first | rfl | simp [foldl_tks, apply_ite State.tks, apply_ite Prod.snd, apply_ite Prod.fst]
@[simp] theorem txOutcome_tim (f : CanTx) (code : Nat) (s : State) : (txOutcome f code s).tim = s.tim := by
  unfold txOutcome
  (repeat' split) <;> first | rfl | simp [foldl_tim, apply_ite State.tim, apply_ite Prod.snd, apply_ite Prod.fst]
@[simp] theorem txOutcome_gnb (f : CanTx) (code : Nat) (s : State) : (txOutcome f code s).gnb = s.gnb := by
  unfold txOutcome
  (repeat' split) <;> first | rfl | simp [foldl_gnb, apply_ite State.gnb, apply_ite Prod.snd, apply_ite Prod.fst]
@[simp] theorem txOutcome_dfc (f : CanTx) (code : Nat) (s : State) : (txOutcome f code s).dfc = s.dfc := by
  unfold txOutcome
  (repeat' split) <;> first | rfl | simp [foldl_dfc, apply_ite State.dfc, apply_ite Prod.snd, apply_ite Prod.fst]
@[simp] theorem txOutcome_str (f : CanTx) (code : Nat) (s : State) : (txOutcome f code s).str = s.str := by
  unfold txOutcome
  (repeat' split) <;> first | rfl | simp [foldl_str, apply_ite State.str, apply_ite Prod.snd, apply_ite Prod.fst]
@[simp] theorem txOutcome_fus (f : CanTx) (code : Nat) (s : State) : (txOutcome f code s).fus = s.fus := by
  unfold txOutcome
  (repeat' split) <;> first | rfl | simp [foldl_fus, apply_ite State.fus, apply_ite Prod.snd, apply_ite Prod.fst]
@[simp] theorem txOutcome_saf (f : CanTx) (code : Nat) (s : State) : (txOutcome f code s).saf = s.saf := by
  unfold txOutcome
  (repeat' split) <;> first | rfl | simp [foldl_saf, apply_ite State.saf, apply_ite Prod.snd, apply_ite Prod.fst]
@[simp] theorem txOutcome_evr (f : CanTx) (code : Nat) (s : State) : (txOutcome f code s).evr = s.evr := by
  unfold txOutcome
  (repeat' split) <;> first | rfl | simp [foldl_evr, apply_ite State.evr, apply_ite Prod.snd, apply_ite Prod.fst]
@[simp] theorem txOutcome_rtc (f : CanTx) (code : Nat) (s : State) : (txOutcome f code s).rtc = s.rtc := by
  unfold txOutcome
  (repeat' split) <;> first | rfl | simp [foldl_rtc, apply_ite State.rtc, apply_ite Prod.snd, apply_ite Prod.fst]
@[simp] theorem txOutcome_boot (f : CanTx) (code : Nat) (s : State) : (txOutcome f code s).boot = s.boot := by
  unfold txOutcome
  (repeat' split) <;> first | rfl | simp [foldl_boot, apply_ite State.boot, apply_ite Prod.snd, apply_ite Prod.fst]
@[simp] theorem txOutcome_pin (f : CanTx) (code : Nat) (s : State) : (txOutcome f code s).pin = s.pin := by
  unfold txOutcome
  (repeat' split) <;> first | rfl | simp [foldl_pin, apply_ite State.pin, apply_ite Prod.snd, apply_ite Prod.fst]
@[simp] theorem txOutcome_mspi (f : CanTx) (code : Nat) (s : State) : (txOutcome f code s).mspi = s.mspi := by
  unfold txOutcome
  (repeat' split) <;> first | rfl | simp [foldl_mspi, apply_ite State.mspi, apply_ite Prod.snd, apply_ite Prod.fst]
@[simp] theorem txOutcome_twn (f : CanTx) (code : Nat) (s : State) : (txOutcome f code s).twn = s.twn := by
  unfold txOutcome
  (repeat' split) <;> first | rfl | simp [foldl_twn, apply_ite State.twn, apply_ite Prod.snd, apply_ite Prod.fst]
@[simp] theorem txOutcome_pcl (f : CanTx) (code : Nat) (s : State) : (txOutcome f code s).pcl = s.pcl := by
  unfold txOutcome
  (repeat' split) <;> first | rfl | simp [foldl_pcl, apply_ite State.pcl, apply_ite Prod.snd, apply_ite Prod.fst]
@[simp] theorem txOutcome_als (f : CanTx) (code : Nat) (s : State) : (txOutcome f code s).als = s.als := by
  unfold txOutcome
  (repeat' split) <;> first | rfl | simp [foldl_als, apply_ite State.als, apply_ite Prod.snd, apply_ite Prod.fst]
@[simp] theorem txOutcome_srv (f : CanTx) (code : Nat) (s : State) : (txOutcome f code s).srv = s.srv := by
  unfold txOutcome
  (repeat' split) <;> first | rfl | simp [foldl_srv, apply_ite State.srv, apply_ite Prod.snd, apply_ite Prod.fst]
@[simp] theorem txOutcome_bus (f : CanTx) (code : Nat) (s : State) : (txOutcome f code s).bus = s.bus := by
  unfold txOutcome
  (repeat' split) <;> first | rfl | simp [foldl_bus, apply_ite State.bus, apply_ite Prod.snd, apply_ite Prod.fst]
@[simp] theorem txOutcome_net (f : CanTx) (code : Nat) (s : State) : (txOutcome f code s).net = s.net := by
  unfold txOutcome
  (repeat' split) <;> first | rfl | simp [foldl_net, apply_ite State.net, apply_ite Prod.snd, apply_ite Prod.fst]
@[simp] theorem txOutcome_pim (f : CanTx) (code : Nat) (s : State) : (txOutcome f code s).pim = s.pim := by
  unfold txOutcome
  (repeat' split) <;> first | rfl | simp [foldl_pim, apply_ite State.pim, apply_ite Prod.snd, apply_ite Prod.fst]
@[simp] theorem txOutcome_flash (f : CanTx) (code : Nat) (s : State) : (txOutcome f code s).flash = s.flash := by
  unfold txOutcome
  (repeat' split) <;> first | rfl | simp [foldl_flash, apply_ite State.flash, apply_ite Prod.snd, apply_ite Prod.fst]
@[simp] theorem txOutcome_image (f : CanTx) (code : Nat) (s : State) : (txOutcome f code s).image = s.image := by
  unfold txOutcome
  (repeat' split) <;> first | rfl | simp [foldl_image, apply_ite State.image, apply_ite Prod.snd, apply_ite Prod.fst]
@[simp] theorem txOutcome_imageOk (f : CanTx) (code : Nat) (s : State) : (txOutcome f code s).imageOk = s.imageOk := by
  unfold txOutcome
  (repeat' split) <;> first | rfl | simp [foldl_imageOk, apply_ite State.imageOk, apply_ite Prod.snd, apply_ite Prod.fst]
@[simp] theorem txOutcome_draws (f : CanTx) (code : Nat) (s : State) : (txOutcome f code s).draws = s.draws := by
  unfold txOutcome
  (repeat' split) <;> first | rfl | simp [foldl_draws, apply_ite State.draws, apply_ite Prod.snd, apply_ite Prod.fst]
@[simp] theorem txOutcome_out (f : CanTx) (code : Nat) (s : State) : (txOutcome f code s).out = s.out := by
  unfold txOutcome
  (repeat' split) <;> first | rfl | simp [foldl_out, apply_ite State.out, apply_ite Prod.snd, apply_ite Prod.fst]
@[simp] theorem txOutcome_pending (f : CanTx) (code : Nat) (s : State) : (txOutcome f code s).pending = s.pending := by
  unfold txOutcome
  (repeat' split) <;> first | rfl | simp [foldl_pending, apply_ite State.pending, apply_ite Prod.snd, apply_ite Prod.fst]
@[simp] theorem txCancelled_sys (n : Nat) (f : CanTx) (code : Nat) (s : State) : (txCancelled n f code s).sys = s.sys := by
  unfold txCancelled
  (repeat' split) <;> first | rfl | simp [foldl_sys, apply_ite State.sys, apply_ite Prod.snd, apply_ite Prod.fst]
@[simp] theorem txCancelled_clk (n : Nat) (f : CanTx) (code : Nat) (s : State) : (txCancelled n f code s).clk = s.clk := by
  unfold txCancelled
  (repeat' split) <;> first | rfl | simp [foldl_clk, apply_ite State.clk, apply_ite Prod.snd, apply_ite Prod.fst]
@[simp] theorem txCancelled_tks (n : Nat) (f : CanTx) (code : Nat) (s : State) : (txCancelled n f code s).tks = s.tks := by
  unfold txCancelled
  (repeat' split) <;> first | rfl | simp [foldl_tks, apply_ite State.tks, apply_ite Prod.snd, apply_ite Prod.fst]
@[simp] theorem txCancelled_tim (n : Nat) (f : CanTx) (code : Nat) (s : State) : (txCancelled n f code s).tim = s.tim := by
  unfold txCancelled
  (repeat' split) <;> first | rfl | simp [foldl_tim, apply_ite State.tim, apply_ite Prod.snd, apply_ite Prod.fst]
@[simp] theorem txCancelled_gnb (n : Nat) (f : CanTx) (code : Nat) (s : State) : (txCancelled n f code s).gnb = s.gnb := by
  unfold txCancelled
  (repeat' split) <;> first | rfl | simp [foldl_gnb, apply_ite State.gnb, apply_ite Prod.snd, apply_ite Prod.fst]
@[simp] theorem txCancelled_dfc (n : Nat) (f : CanTx) (code : Nat) (s : State) : (txCancelled n f code s).dfc = s.dfc := by
  unfold txCancelled
  (repeat' split) <;> first | rfl | simp [foldl_dfc, apply_ite State.dfc, apply_ite Prod.snd, apply_ite Prod.fst]
@[simp] theorem txCancelled_str (n : Nat) (f : CanTx) (code : Nat) (s : State) : (txCancelled n f code s).str = s.str := by
  unfold txCancelled
  (repeat' split) <;> first | rfl | simp [foldl_str, apply_ite State.str, apply_ite Prod.snd, apply_ite Prod.fst]
@[simp] theorem txCancelled_fus (n : Nat) (f : CanTx) (code : Nat) (s : State) : (txCancelled n f code s).fus = s.fus := by
  unfold txCancelled
  (repeat' split) <;> first | rfl | simp [foldl_fus, apply_ite State.fus, apply_ite Prod.snd, apply_ite Prod.fst]
@[simp] theorem txCancelled_saf (n : Nat) (f : CanTx) (code : Nat) (s : State) : (txCancelled n f code s).saf = s.saf := by
  unfold txCancelled
  (repeat' split) <;> first | rfl | simp [foldl_saf, apply_ite State.saf, apply_ite Prod.snd, apply_ite Prod.fst]
@[simp] theorem txCancelled_evr (n : Nat) (f : CanTx) (code : Nat) (s : State) : (txCancelled n f code s).evr = s.evr := by
  unfold txCancelled
  (repeat' split) <;> first | rfl | simp [foldl_evr, apply_ite State.evr, apply_ite Prod.snd, apply_ite Prod.fst]
@[simp] theorem txCancelled_rtc (n : Nat) (f : CanTx) (code : Nat) (s : State) : (txCancelled n f code s).rtc = s.rtc := by
  unfold txCancelled
  (repeat' split) <;> first | rfl | simp [foldl_rtc, apply_ite State.rtc, apply_ite Prod.snd, apply_ite Prod.fst]
@[simp] theorem txCancelled_boot (n : Nat) (f : CanTx) (code : Nat) (s : State) : (txCancelled n f code s).boot = s.boot := by
  unfold txCancelled
  (repeat' split) <;> first | rfl | simp [foldl_boot, apply_ite State.boot, apply_ite Prod.snd, apply_ite Prod.fst]
@[simp] theorem txCancelled_pin (n : Nat) (f : CanTx) (code : Nat) (s : State) : (txCancelled n f code s).pin = s.pin := by
  unfold txCancelled
  (repeat' split) <;> first | rfl | simp [foldl_pin, apply_ite State.pin, apply_ite Prod.snd, apply_ite Prod.fst]
@[simp] theorem txCancelled_mspi (n : Nat) (f : CanTx) (code : Nat) (s : State) : (txCancelled n f code s).mspi = s.mspi := by
  unfold txCancelled
  (repeat' split) <;> first | rfl | simp [foldl_mspi, apply_ite State.mspi, apply_ite Prod.snd, apply_ite Prod.fst]
@[simp] theorem txCancelled_twn (n : Nat) (f : CanTx) (code : Nat) (s : State) : (txCancelled n f code s).twn = s.twn := by
  unfold txCancelled
  (repeat' split) <;> first | rfl | simp [foldl_twn, apply_ite State.twn, apply_ite Prod.snd, apply_ite Prod.fst]
@[simp] theorem txCancelled_pcl (n : Nat) (f : CanTx) (code : Nat) (s : State) : (txCancelled n f code s).pcl = s.pcl := by
  unfold txCancelled
  (repeat' split) <;> first | rfl | simp [foldl_pcl, apply_ite State.pcl, apply_ite Prod.snd, apply_ite Prod.fst]
@[simp] theorem txCancelled_als (n : Nat) (f : CanTx) (code : Nat) (s : State) : (txCancelled n f code s).als = s.als := by
  unfold txCancelled
  (repeat' split) <;> first | rfl | simp [foldl_als, apply_ite State.als, apply_ite Prod.snd, apply_ite Prod.fst]
@[simp] theorem txCancelled_srv (n : Nat) (f : CanTx) (code : Nat) (s : State) : (txCancelled n f code s).srv = s.srv := by
  unfold txCancelled
  (repeat' split) <;> first | rfl | simp [foldl_srv, apply_ite State.srv, apply_ite Prod.snd, apply_ite Prod.fst]
@[simp] theorem txCancelled_bus (n : Nat) (f : CanTx) (code : Nat) (s : State) : (txCancelled n f code s).bus = s.bus := by
  unfold txCancelled
  (repeat' split) <;> first | rfl | simp [foldl_bus, apply_ite State.bus, apply_ite Prod.snd, apply_ite Prod.fst]
@[simp] theorem txCancelled_net (n : Nat) (f : CanTx) (code : Nat) (s : State) : (txCancelled n f code s).net = s.net := by
  unfold txCancelled
  (repeat' split) <;> first | rfl | simp [foldl_net, apply_ite State.net, apply_ite Prod.snd, apply_ite Prod.fst]
@[simp] theorem txCancelled_pim (n : Nat) (f : CanTx) (code : Nat) (s : State) : (txCancelled n f code s).pim = s.pim := by
  unfold txCancelled
  (repeat' split) <;> first | rfl | simp [foldl_pim, apply_ite State.pim, apply_ite Prod.snd, apply_ite Prod.fst]
@[simp] theorem txCancelled_flash (n : Nat) (f : CanTx) (code : Nat) (s : State) : (txCancelled n f code s).flash = s.flash := by
  unfold txCancelled
  (repeat' split) <;> first | rfl | simp [foldl_flash, apply_ite State.flash, apply_ite Prod.snd, apply_ite Prod.fst]
@[simp] theorem txCancelled_image (n : Nat) (f : CanTx) (code : Nat) (s : State) : (txCancelled n f code s).image = s.image := by
  unfold txCancelled
  (repeat' split) <;> first | rfl | simp [foldl_image, apply_ite State.image, apply_ite Prod.snd, apply_ite Prod.fst]
@[simp] theorem txCancelled_imageOk (n : Nat) (f : CanTx) (code : Nat) (s : State) : (txCancelled n f code s).imageOk = s.imageOk := by
  unfold txCancelled
  (repeat' split) <;> first | rfl | simp [foldl_imageOk, apply_ite State.imageOk, apply_ite Prod.snd, apply_ite Prod.fst]
@[simp] theorem txCancelled_draws (n : Nat) (f : CanTx) (code : Nat) (s : State) : (txCancelled n f code s).draws = s.draws := by
  unfold txCancelled
  (repeat' split) <;> first | rfl | simp [foldl_draws, apply_ite State.draws, apply_ite Prod.snd, apply_ite Prod.fst]
@[simp] theorem txCancelled_out (n : Nat) (f : CanTx) (code : Nat) (s : State) : (txCancelled n f code s).out = s.out := by
  unfold txCancelled
  (repeat' split) <;> first | rfl | simp [foldl_out, apply_ite State.out, apply_ite Prod.snd, apply_ite Prod.fst]
@[simp] theorem txCancelled_pending (n : Nat) (f : CanTx) (code : Nat) (s : State) : (txCancelled n f code s).pending = s.pending := by
  unfold txCancelled
  (repeat' split) <;> first | rfl | simp [foldl_pending, apply_ite State.pending, apply_ite Prod.snd, apply_ite Prod.fst]
@[simp] theorem stagedCancelled_sys (n : Nat) (f : CanTx) (s : State) : (stagedCancelled n f s).sys = s.sys := by
  unfold stagedCancelled
  (repeat' split) <;> first | rfl | simp [foldl_sys, apply_ite State.sys, apply_ite Prod.snd, apply_ite Prod.fst]
@[simp] theorem stagedCancelled_clk (n : Nat) (f : CanTx) (s : State) : (stagedCancelled n f s).clk = s.clk := by
  unfold stagedCancelled
  (repeat' split) <;> first | rfl | simp [foldl_clk, apply_ite State.clk, apply_ite Prod.snd, apply_ite Prod.fst]
@[simp] theorem stagedCancelled_tks (n : Nat) (f : CanTx) (s : State) : (stagedCancelled n f s).tks = s.tks := by
  unfold stagedCancelled
  (repeat' split) <;> first | rfl | simp [foldl_tks, apply_ite State.tks, apply_ite Prod.snd, apply_ite Prod.fst]
@[simp] theorem stagedCancelled_tim (n : Nat) (f : CanTx) (s : State) : (stagedCancelled n f s).tim = s.tim := by
  unfold stagedCancelled
  (repeat' split) <;> first | rfl | simp [foldl_tim, apply_ite State.tim, apply_ite Prod.snd, apply_ite Prod.fst]
@[simp] theorem stagedCancelled_gnb (n : Nat) (f : CanTx) (s : State) : (stagedCancelled n f s).gnb = s.gnb := by
  unfold stagedCancelled
  (repeat' split) <;> first | rfl | simp [foldl_gnb, apply_ite State.gnb, apply_ite Prod.snd, apply_ite Prod.fst]
@[simp] theorem stagedCancelled_dfc (n : Nat) (f : CanTx) (s : State) : (stagedCancelled n f s).dfc = s.dfc := by
  unfold stagedCancelled
  (repeat' split) <;> first | rfl | simp [foldl_dfc, apply_ite State.dfc, apply_ite Prod.snd, apply_ite Prod.fst]
@[simp] theorem stagedCancelled_str (n : Nat) (f : CanTx) (s : State) : (stagedCancelled n f s).str = s.str := by
  unfold stagedCancelled
  (repeat' split) <;> first | rfl | simp [foldl_str, apply_ite State.str, apply_ite Prod.snd, apply_ite Prod.fst]
@[simp] theorem stagedCancelled_fus (n : Nat) (f : CanTx) (s : State) : (stagedCancelled n f s).fus = s.fus := by
  unfold stagedCancelled
  (repeat' split) <;> first | rfl | simp [foldl_fus, apply_ite State.fus, apply_ite Prod.snd, apply_ite Prod.fst]
@[simp] theorem stagedCancelled_saf (n : Nat) (f : CanTx) (s : State) : (stagedCancelled n f s).saf = s.saf := by
  unfold stagedCancelled
  (repeat' split) <;> first | rfl | simp [foldl_saf, apply_ite State.saf, apply_ite Prod.snd, apply_ite Prod.fst]
@[simp] theorem stagedCancelled_evr (n : Nat) (f : CanTx) (s : State) : (stagedCancelled n f s).evr = s.evr := by
  unfold stagedCancelled
  (repeat' split) <;> first | rfl | simp [foldl_evr, apply_ite State.evr, apply_ite Prod.snd, apply_ite Prod.fst]
@[simp] theorem stagedCancelled_rtc (n : Nat) (f : CanTx) (s : State) : (stagedCancelled n f s).rtc = s.rtc := by
  unfold stagedCancelled
  (repeat' split) <;> first | rfl | simp [foldl_rtc, apply_ite State.rtc, apply_ite Prod.snd, apply_ite Prod.fst]
@[simp] theorem stagedCancelled_boot (n : Nat) (f : CanTx) (s : State) : (stagedCancelled n f s).boot = s.boot := by
  unfold stagedCancelled
  (repeat' split) <;> first | rfl | simp [foldl_boot, apply_ite State.boot, apply_ite Prod.snd, apply_ite Prod.fst]
@[simp] theorem stagedCancelled_pin (n : Nat) (f : CanTx) (s : State) : (stagedCancelled n f s).pin = s.pin := by
  unfold stagedCancelled
  (repeat' split) <;> first | rfl | simp [foldl_pin, apply_ite State.pin, apply_ite Prod.snd, apply_ite Prod.fst]
@[simp] theorem stagedCancelled_mspi (n : Nat) (f : CanTx) (s : State) : (stagedCancelled n f s).mspi = s.mspi := by
  unfold stagedCancelled
  (repeat' split) <;> first | rfl | simp [foldl_mspi, apply_ite State.mspi, apply_ite Prod.snd, apply_ite Prod.fst]
@[simp] theorem stagedCancelled_twn (n : Nat) (f : CanTx) (s : State) : (stagedCancelled n f s).twn = s.twn := by
  unfold stagedCancelled
  (repeat' split) <;> first | rfl | simp [foldl_twn, apply_ite State.twn, apply_ite Prod.snd, apply_ite Prod.fst]
@[simp] theorem stagedCancelled_pcl (n : Nat) (f : CanTx) (s : State) : (stagedCancelled n f s).pcl = s.pcl := by
  unfold stagedCancelled
  (repeat' split) <;> first | rfl | simp [foldl_pcl, apply_ite State.pcl, apply_ite Prod.snd, apply_ite Prod.fst]
@[simp] theorem stagedCancelled_als (n : Nat) (f : CanTx) (s : State) : (stagedCancelled n f s).als = s.als := by
  unfold stagedCancelled
  (repeat' split) <;> first | rfl | simp [foldl_als, apply_ite State.als, apply_ite Prod.snd, apply_ite Prod.fst]
@[simp] theorem stagedCancelled_srv (n : Nat) (f : CanTx) (s : State) : (stagedCancelled n f s).srv = s.srv := by
  unfold stagedCancelled
  (repeat' split) <;> first | rfl | simp [foldl_srv, apply_ite State.srv, apply_ite Prod.snd, apply_ite Prod.fst]
@[simp] theorem stagedCancelled_bus (n : Nat) (f : CanTx) (s : State) : (stagedCancelled n f s).bus = s.bus := by
  unfold stagedCancelled
  (repeat' split) <;> first | rfl | simp [foldl_bus, apply_ite State.bus, apply_ite Prod.snd, apply_ite Prod.fst]
@[simp] theorem stagedCancelled_net (n : Nat) (f : CanTx) (s : State) : (stagedCancelled n f s).net = s.net := by
  unfold stagedCancelled
  (repeat' split) <;> first | rfl | simp [foldl_net, apply_ite State.net, apply_ite Prod.snd, apply_ite Prod.fst]
@[simp] theorem stagedCancelled_pim (n : Nat) (f : CanTx) (s : State) : (stagedCancelled n f s).pim = s.pim := by
  unfold stagedCancelled
  (repeat' split) <;> first | rfl | simp [foldl_pim, apply_ite State.pim, apply_ite Prod.snd, apply_ite Prod.fst]
@[simp] theorem stagedCancelled_flash (n : Nat) (f : CanTx) (s : State) : (stagedCancelled n f s).flash = s.flash := by
  unfold stagedCancelled
  (repeat' split) <;> first | rfl | simp [foldl_flash, apply_ite State.flash, apply_ite Prod.snd, apply_ite Prod.fst]
@[simp] theorem stagedCancelled_image (n : Nat) (f : CanTx) (s : State) : (stagedCancelled n f s).image = s.image := by
  unfold stagedCancelled
  (repeat' split) <;> first | rfl | simp [foldl_image, apply_ite State.image, apply_ite Prod.snd, apply_ite Prod.fst]
@[simp] theorem stagedCancelled_imageOk (n : Nat) (f : CanTx) (s : State) : (stagedCancelled n f s).imageOk = s.imageOk := by
  unfold stagedCancelled
  (repeat' split) <;> first | rfl | simp [foldl_imageOk, apply_ite State.imageOk, apply_ite Prod.snd, apply_ite Prod.fst]
@[simp] theorem stagedCancelled_draws (n : Nat) (f : CanTx) (s : State) : (stagedCancelled n f s).draws = s.draws := by
  unfold stagedCancelled
  (repeat' split) <;> first | rfl | simp [foldl_draws, apply_ite State.draws, apply_ite Prod.snd, apply_ite Prod.fst]
@[simp] theorem stagedCancelled_out (n : Nat) (f : CanTx) (s : State) : (stagedCancelled n f s).out = s.out := by
  unfold stagedCancelled
  (repeat' split) <;> first | rfl | simp [foldl_out, apply_ite State.out, apply_ite Prod.snd, apply_ite Prod.fst]
@[simp] theorem stagedCancelled_pending (n : Nat) (f : CanTx) (s : State) : (stagedCancelled n f s).pending = s.pending := by
  unfold stagedCancelled
  (repeat' split) <;> first | rfl | simp [foldl_pending, apply_ite State.pending, apply_ite Prod.snd, apply_ite Prod.fst]
@[simp] theorem mbcCancel_sys (cut : Bool) (s : State) (n : Nat) : (mbcCancel cut s n).sys = s.sys := by
  unfold mbcCancel
  (repeat' split) <;> first | rfl | simp [foldl_sys, apply_ite State.sys, apply_ite Prod.snd, apply_ite Prod.fst]
@[simp] theorem mbcCancel_clk (cut : Bool) (s : State) (n : Nat) : (mbcCancel cut s n).clk = s.clk := by
  unfold mbcCancel
  (repeat' split) <;> first | rfl | simp [foldl_clk, apply_ite State.clk, apply_ite Prod.snd, apply_ite Prod.fst]
@[simp] theorem mbcCancel_tks (cut : Bool) (s : State) (n : Nat) : (mbcCancel cut s n).tks = s.tks := by
  unfold mbcCancel
  (repeat' split) <;> first | rfl | simp [foldl_tks, apply_ite State.tks, apply_ite Prod.snd, apply_ite Prod.fst]
@[simp] theorem mbcCancel_tim (cut : Bool) (s : State) (n : Nat) : (mbcCancel cut s n).tim = s.tim := by
  unfold mbcCancel
  (repeat' split) <;> first | rfl | simp [foldl_tim, apply_ite State.tim, apply_ite Prod.snd, apply_ite Prod.fst]
@[simp] theorem mbcCancel_gnb (cut : Bool) (s : State) (n : Nat) : (mbcCancel cut s n).gnb = s.gnb := by
  unfold mbcCancel
  (repeat' split) <;> first | rfl | simp [foldl_gnb, apply_ite State.gnb, apply_ite Prod.snd, apply_ite Prod.fst]
@[simp] theorem mbcCancel_dfc (cut : Bool) (s : State) (n : Nat) : (mbcCancel cut s n).dfc = s.dfc := by
  unfold mbcCancel
  (repeat' split) <;> first | rfl | simp [foldl_dfc, apply_ite State.dfc, apply_ite Prod.snd, apply_ite Prod.fst]
@[simp] theorem mbcCancel_str (cut : Bool) (s : State) (n : Nat) : (mbcCancel cut s n).str = s.str := by
  unfold mbcCancel
  (repeat' split) <;> first | rfl | simp [foldl_str, apply_ite State.str, apply_ite Prod.snd, apply_ite Prod.fst]
@[simp] theorem mbcCancel_fus (cut : Bool) (s : State) (n : Nat) : (mbcCancel cut s n).fus = s.fus := by
  unfold mbcCancel
  (repeat' split) <;> first | rfl | simp [foldl_fus, apply_ite State.fus, apply_ite Prod.snd, apply_ite Prod.fst]
@[simp] theorem mbcCancel_saf (cut : Bool) (s : State) (n : Nat) : (mbcCancel cut s n).saf = s.saf := by
  unfold mbcCancel
  (repeat' split) <;> first | rfl | simp [foldl_saf, apply_ite State.saf, apply_ite Prod.snd, apply_ite Prod.fst]
@[simp] theorem mbcCancel_evr (cut : Bool) (s : State) (n : Nat) : (mbcCancel cut s n).evr = s.evr := by
  unfold mbcCancel
  (repeat' split) <;> first | rfl | simp [foldl_evr, apply_ite State.evr, apply_ite Prod.snd, apply_ite Prod.fst]
@[simp] theorem mbcCancel_rtc (cut : Bool) (s : State) (n : Nat) : (mbcCancel cut s n).rtc = s.rtc := by
  unfold mbcCancel
  (repeat' split) <;> first | rfl | simp [foldl_rtc, apply_ite State.rtc, apply_ite Prod.snd, apply_ite Prod.fst]
@[simp] theorem mbcCancel_boot (cut : Bool) (s : State) (n : Nat) : (mbcCancel cut s n).boot = s.boot := by
  unfold mbcCancel
  (repeat' split) <;> first | rfl | simp [foldl_boot, apply_ite State.boot, apply_ite Prod.snd, apply_ite Prod.fst]
@[simp] theorem mbcCancel_pin (cut : Bool) (s : State) (n : Nat) : (mbcCancel cut s n).pin = s.pin := by
  unfold mbcCancel
  (repeat' split) <;> first | rfl | simp [foldl_pin, apply_ite State.pin, apply_ite Prod.snd, apply_ite Prod.fst]
@[simp] theorem mbcCancel_mspi (cut : Bool) (s : State) (n : Nat) : (mbcCancel cut s n).mspi = s.mspi := by
  unfold mbcCancel
  (repeat' split) <;> first | rfl | simp [foldl_mspi, apply_ite State.mspi, apply_ite Prod.snd, apply_ite Prod.fst]
@[simp] theorem mbcCancel_twn (cut : Bool) (s : State) (n : Nat) : (mbcCancel cut s n).twn = s.twn := by
  unfold mbcCancel
  (repeat' split) <;> first | rfl | simp [foldl_twn, apply_ite State.twn, apply_ite Prod.snd, apply_ite Prod.fst]
@[simp] theorem mbcCancel_pcl (cut : Bool) (s : State) (n : Nat) : (mbcCancel cut s n).pcl = s.pcl := by
  unfold mbcCancel
  (repeat' split) <;> first | rfl | simp [foldl_pcl, apply_ite State.pcl, apply_ite Prod.snd, apply_ite Prod.fst]
@[simp] theorem mbcCancel_als (cut : Bool) (s : State) (n : Nat) : (mbcCancel cut s n).als = s.als := by
  unfold mbcCancel
  (repeat' split) <;> first | rfl | simp [foldl_als, apply_ite State.als, apply_ite Prod.snd, apply_ite Prod.fst]
@[simp] theorem mbcCancel_srv (cut : Bool) (s : State) (n : Nat) : (mbcCancel cut s n).srv = s.srv := by
  unfold mbcCancel
  (repeat' split) <;> first | rfl | simp [foldl_srv, apply_ite State.srv, apply_ite Prod.snd, apply_ite Prod.fst]
@[simp] theorem mbcCancel_bus (cut : Bool) (s : State) (n : Nat) : (mbcCancel cut s n).bus = s.bus := by
  unfold mbcCancel
  (repeat' split) <;> first | rfl | simp [foldl_bus, apply_ite State.bus, apply_ite Prod.snd, apply_ite Prod.fst]
@[simp] theorem mbcCancel_net (cut : Bool) (s : State) (n : Nat) : (mbcCancel cut s n).net = s.net := by
  unfold mbcCancel
  (repeat' split) <;> first | rfl | simp [foldl_net, apply_ite State.net, apply_ite Prod.snd, apply_ite Prod.fst]
@[simp] theorem mbcCancel_pim (cut : Bool) (s : State) (n : Nat) : (mbcCancel cut s n).pim = s.pim := by
  unfold mbcCancel
  (repeat' split) <;> first | rfl | simp [foldl_pim, apply_ite State.pim, apply_ite Prod.snd, apply_ite Prod.fst]
@[simp] theorem mbcCancel_flash (cut : Bool) (s : State) (n : Nat) : (mbcCancel cut s n).flash = s.flash := by
  unfold mbcCancel
  (repeat' split) <;> first | rfl | simp [foldl_flash, apply_ite State.flash, apply_ite Prod.snd, apply_ite Prod.fst]
@[simp] theorem mbcCancel_image (cut : Bool) (s : State) (n : Nat) : (mbcCancel cut s n).image = s.image := by
  unfold mbcCancel
  (repeat' split) <;> first | rfl | simp [foldl_image, apply_ite State.image, apply_ite Prod.snd, apply_ite Prod.fst]
@[simp] theorem mbcCancel_imageOk (cut : Bool) (s : State) (n : Nat) : (mbcCancel cut s n).imageOk = s.imageOk := by
  unfold mbcCancel
  (repeat' split) <;> first | rfl | simp [foldl_imageOk, apply_ite State.imageOk, apply_ite Prod.snd, apply_ite Prod.fst]
@[simp] theorem mbcCancel_draws (cut : Bool) (s : State) (n : Nat) : (mbcCancel cut s n).draws = s.draws := by
  unfold mbcCancel
  (repeat' split) <;> first | rfl | simp [foldl_draws, apply_ite State.draws, apply_ite Prod.snd, apply_ite Prod.fst]
@[simp] theorem mbcCancel_out (cut : Bool) (s : State) (n : Nat) : (mbcCancel cut s n).out = s.out := by
  unfold mbcCancel
  (repeat' split) <;> first | rfl | simp [foldl_out, apply_ite State.out, apply_ite Prod.snd, apply_ite Prod.fst]
@[simp] theorem mbcCancel_pending (cut : Bool) (s : State) (n : Nat) : (mbcCancel cut s n).pending = s.pending := by
  unfold mbcCancel
  (repeat' split) <;> first | rfl | simp [foldl_pending, apply_ite State.pending, apply_ite Prod.snd, apply_ite Prod.fst]
@[simp] theorem mbcCancelAll_sys (s : State) : (mbcCancelAll s).sys = s.sys := by
  unfold mbcCancelAll
  (repeat' split) <;> (try simp [foldl_sys, apply_ite State.sys, apply_ite Prod.snd, apply_ite Prod.fst]) <;> (try intros) <;> (repeat' split) <;> (try simp [foldl_sys, apply_ite State.sys, apply_ite Prod.snd, apply_ite Prod.fst]) <;> (try intros) <;> (repeat' split) <;> first | rfl | simp [foldl_sys, apply_ite State.sys, apply_ite Prod.snd, apply_ite Prod.fst]
@[simp] theorem mbcCancelAll_clk (s : State) : (mbcCancelAll s).clk = s.clk := by
  unfold mbcCancelAll
  (repeat' split) <;> (try simp [foldl_clk, apply_ite State.clk, apply_ite Prod.snd, apply_ite Prod.fst]) <;> (try intros) <;> (repeat' split) <;> (try simp [foldl_clk, apply_ite State.clk, apply_ite Prod.snd, apply_ite Prod.fst]) <;> (try intros) <;> (repeat' split) <;> first | rfl | simp [foldl_clk, apply_ite State.clk, apply_ite Prod.snd, apply_ite Prod.fst]
@[simp] theorem mbcCancelAll_tks (s : State) : (mbcCancelAll s).tks = s.tks := by
  unfold mbcCancelAll
  (repeat' split) <;> (try simp [foldl_tks, apply_ite State.tks, apply_ite Prod.snd, apply_ite Prod.fst]) <;> (try intros) <;> (repeat' split) <;> (try simp [foldl_tks, apply_ite State.tks, apply_ite Prod.snd, apply_ite Prod.fst]) <;> (try intros) <;> (repeat' split) <;> first | rfl | simp [foldl_tks, apply_ite State.tks, apply_ite Prod.snd, apply_ite Prod.fst]
@[simp] theorem mbcCancelAll_tim (s : State) : (mbcCancelAll s).tim = s.tim := by
  unfold mbcCancelAll
  (repeat' split) <;> (try simp [foldl_tim, apply_ite State.tim, apply_ite Prod.snd, apply_ite Prod.fst]) <;> (try intros) <;> (repeat' split) <;> (try simp [foldl_tim, apply_ite State.tim, apply_ite Prod.snd, apply_ite Prod.fst]) <;> (try intros) <;> (repeat' split) <;> first | rfl | simp [foldl_tim, apply_ite State.tim, apply_ite Prod.snd, apply_ite Prod.fst]
@[simp] theorem mbcCancelAll_gnb (s : State) : (mbcCancelAll s).gnb = s.gnb := by
  unfold mbcCancelAll
  (repeat' split) <;> (try simp [foldl_gnb, apply_ite State.gnb, apply_ite Prod.snd, apply_ite Prod.fst]) <;> (try intros) <;> (repeat' split) <;> (try simp [foldl_gnb, apply_ite State.gnb, apply_ite Prod.snd, apply_ite Prod.fst]) <;> (try intros) <;> (repeat' split) <;> first | rfl | simp [foldl_gnb, apply_ite State.gnb, apply_ite Prod.snd, apply_ite Prod.fst]
@[simp] theorem mbcCancelAll_dfc (s : State) : (mbcCancelAll s).dfc = s.dfc := by
  unfold mbcCancelAll
  (repeat' split) <;> (try simp [foldl_dfc, apply_ite State.dfc, apply_ite Prod.snd, apply_ite Prod.fst]) <;> (try intros) <;> (repeat' split) <;> (try simp [foldl_dfc, apply_ite State.dfc, apply_ite Prod.snd, apply_ite Prod.fst]) <;> (try intros) <;> (repeat' split) <;> first | rfl | simp [foldl_dfc, apply_ite State.dfc, apply_ite Prod.snd, apply_ite Prod.fst]
@[simp] theorem mbcCancelAll_str (s : State) : (mbcCancelAll s).str = s.str := by
  unfold mbcCancelAll
  (repeat' split) <;> (try simp [foldl_str, apply_ite State.str, apply_ite Prod.snd, apply_ite Prod.fst]) <;> (try intros) <;> (repeat' split) <;> (try simp [foldl_str, apply_ite State.str, apply_ite Prod.snd, apply_ite Prod.fst]) <;> (try intros) <;> (repeat' split) <;> first | rfl | simp [foldl_str, apply_ite State.str, apply_ite Prod.snd, apply_ite Prod.fst]
@[simp] theorem mbcCancelAll_fus (s : State) : (mbcCancelAll s).fus = s.fus := by
  unfold mbcCancelAll
  (repeat' split) <;> (try simp [foldl_fus, apply_ite State.fus, apply_ite Prod.snd, apply_ite Prod.fst]) <;> (try intros) <;> (repeat' split) <;> (try simp [foldl_fus, apply_ite State.fus, apply_ite Prod.snd, apply_ite Prod.fst]) <;> (try intros) <;> (repeat' split) <;> first | rfl | simp [foldl_fus, apply_ite State.fus, apply_ite Prod.snd, apply_ite Prod.fst]
@[simp] theorem mbcCancelAll_saf (s : State) : (mbcCancelAll s).saf = s.saf := by
  unfold mbcCancelAll
  (repeat' split) <;> (try simp [foldl_saf, apply_ite State.saf, apply_ite Prod.snd, apply_ite Prod.fst]) <;> (try intros) <;> (repeat' split) <;> (try simp [foldl_saf, apply_ite State.saf, apply_ite Prod.snd, apply_ite Prod.fst]) <;> (try intros) <;> (repeat' split) <;> first | rfl | simp [foldl_saf, apply_ite State.saf, apply_ite Prod.snd, apply_ite Prod.fst]
@[simp] theorem mbcCancelAll_evr (s : State) : (mbcCancelAll s).evr = s.evr := by
  unfold mbcCancelAll
  (repeat' split) <;> (try simp [foldl_evr, apply_ite State.evr, apply_ite Prod.snd, apply_ite Prod.fst]) <;> (try intros) <;> (repeat' split) <;> (try simp [foldl_evr, apply_ite State.evr, apply_ite Prod.snd, apply_ite Prod.fst]) <;> (try intros) <;> (repeat' split) <;> first | rfl | simp [foldl_evr, apply_ite State.evr, apply_ite Prod.snd, apply_ite Prod.fst]
@[simp] theorem mbcCancelAll_rtc (s : State) : (mbcCancelAll s).rtc = s.rtc := by
  unfold mbcCancelAll
  (repeat' split) <;> (try simp [foldl_rtc, apply_ite State.rtc, apply_ite Prod.snd, apply_ite Prod.fst]) <;> (try intros) <;> (repeat' split) <;> (try simp [foldl_rtc, apply_ite State.rtc, apply_ite Prod.snd, apply_ite Prod.fst]) <;> (try intros) <;> (repeat' split) <;> first | rfl | simp [foldl_rtc, apply_ite State.rtc, apply_ite Prod.snd, apply_ite Prod.fst]
@[simp] theorem mbcCancelAll_boot (s : State) : (mbcCancelAll s).boot = s.boot := by
  unfold mbcCancelAll
  (repeat' split) <;> (try simp [foldl_boot, apply_ite State.boot, apply_ite Prod.snd, apply_ite Prod.fst]) <;> (try intros) <;> (repeat' split) <;> (try simp [foldl_boot, apply_ite State.boot, apply_ite Prod.snd, apply_ite Prod.fst]) <;> (try intros) <;> (repeat' split) <;> first | rfl | simp [foldl_boot, apply_ite State.boot, apply_ite Prod.snd, apply_ite Prod.fst]
@[simp] theorem mbcCancelAll_pin (s : State) : (mbcCancelAll s).pin = s.pin := by
  unfold mbcCancelAll
  (repeat' split) <;> (try simp [foldl_pin, apply_ite State.pin, apply_ite Prod.snd, apply_ite Prod.fst]) <;> (try intros) <;> (repeat' split) <;> (try simp [foldl_pin, apply_ite State.pin, apply_ite Prod.snd, apply_ite Prod.fst]) <;> (try intros) <;> (repeat' split) <;> first | rfl | simp [foldl_pin, apply_ite State.pin, apply_ite Prod.snd, apply_ite Prod.fst]
@[simp] theorem mbcCancelAll_mspi (s : State) : (mbcCancelAll s).mspi = s.mspi := by
  unfold mbcCancelAll
  (repeat' split) <;> (try simp [foldl_mspi, apply_ite State.mspi, apply_ite Prod.snd, apply_ite Prod.fst]) <;> (try intros) <;> (repeat' split) <;> (try simp [foldl_mspi, apply_ite State.mspi, apply_ite Prod.snd, apply_ite Prod.fst]) <;> (try intros) <;> (repeat' split) <;> first | rfl | simp [foldl_mspi, apply_ite State.mspi, apply_ite Prod.snd, apply_ite Prod.fst]
@[simp] theorem mbcCancelAll_twn (s : State) : (mbcCancelAll s).twn = s.twn := by
  unfold mbcCancelAll
  (repeat' split) <;> (try simp [foldl_twn, apply_ite State.twn, apply_ite Prod.snd, apply_ite Prod.fst]) <;> (try intros) <;> (repeat' split) <;> (try simp [foldl_twn, apply_ite State.twn, apply_ite Prod.snd, apply_ite Prod.fst]) <;> (try intros) <;> (repeat' split) <;> first | rfl | simp [foldl_twn, apply_ite State.twn, apply_ite Prod.snd, apply_ite Prod.fst]
@[simp] theorem mbcCancelAll_pcl (s : State) : (mbcCancelAll s).pcl = s.pcl := by
  unfold mbcCancelAll
  (repeat' split) <;> (try simp [foldl_pcl, apply_ite State.pcl, apply_ite Prod.snd, apply_ite Prod.fst]) <;> (try intros) <;> (repeat' split) <;> (try simp [foldl_pcl, apply_ite State.pcl, apply_ite Prod.snd, apply_ite Prod.fst]) <;> (try intros) <;> (repeat' split) <;> first | rfl | simp [foldl_pcl, apply_ite State.pcl, apply_ite Prod.snd, apply_ite Prod.fst]
@[simp] theorem mbcCancelAll_als (s : State) : (mbcCancelAll s).als = s.als := by
  unfold mbcCancelAll
  (repeat' split) <;> (try simp [foldl_als, apply_ite State.als, apply_ite Prod.snd, apply_ite Prod.fst]) <;> (try intros) <;> (repeat' split) <;> (try simp [foldl_als, apply_ite State.als, apply_ite Prod.snd, apply_ite Prod.fst]) <;> (try intros) <;> (repeat' split) <;> first | rfl | simp [foldl_als, apply_ite State.als, apply_ite Prod.snd, apply_ite Prod.fst]
@[simp] theorem mbcCancelAll_srv (s : State) : (mbcCancelAll s).srv = s.srv := by
  unfold mbcCancelAll
  (repeat' split) <;> (try simp [foldl_srv, apply_ite State.srv, apply_ite Prod.snd, apply_ite Prod.fst]) <;> (try intros) <;> (repeat' split) <;> (try simp [foldl_srv, apply_ite State.srv, apply_ite Prod.snd, apply_ite Prod.fst]) <;> (try intros) <;> (repeat' split) <;> first | rfl | simp [foldl_srv, apply_ite State.srv, apply_ite Prod.snd, apply_ite Prod.fst]
@[simp] theorem mbcCancelAll_bus (s : State) : (mbcCancelAll s).bus = s.bus := by
  unfold mbcCancelAll
  (repeat' split) <;> (try simp [foldl_bus, apply_ite State.bus, apply_ite Prod.snd, apply_ite Prod.fst]) <;> (try intros) <;> (repeat' split) <;> (try simp [foldl_bus, apply_ite State.bus, apply_ite Prod.snd, apply_ite Prod.fst]) <;> (try intros) <;> (repeat' split) <;> first | rfl | simp [foldl_bus, apply_ite State.bus, apply_ite Prod.snd, apply_ite Prod.fst]
@[simp] theorem mbcCancelAll_net (s : State) : (mbcCancelAll s).net = s.net := by
  unfold mbcCancelAll
  (repeat' split) <;> (try simp [foldl_net, apply_ite State.net, apply_ite Prod.snd, apply_ite Prod.fst]) <;> (try intros) <;> (repeat' split) <;> (try simp [foldl_net, apply_ite State.net, apply_ite Prod.snd, apply_ite Prod.fst]) <;> (try intros) <;> (repeat' split) <;> first | rfl | simp [foldl_net, apply_ite State.net, apply_ite Prod.snd, apply_ite Prod.fst]
@[simp] theorem mbcCancelAll_pim (s : State) : (mbcCancelAll s).pim = s.pim := by
  unfold mbcCancelAll
  (repeat' split) <;> (try simp [foldl_pim, apply_ite State.pim, apply_ite Prod.snd, apply_ite Prod.fst]) <;> (try intros) <;> (repeat' split) <;> (try simp [foldl_pim, apply_ite State.pim, apply_ite Prod.snd, apply_ite Prod.fst]) <;> (try intros) <;> (repeat' split) <;> first | rfl | simp [foldl_pim, apply_ite State.pim, apply_ite Prod.snd, apply_ite Prod.fst]
@[simp] theorem mbcCancelAll_flash (s : State) : (mbcCancelAll s).flash = s.flash := by
  unfold mbcCancelAll
  (repeat' split) <;> (try simp [foldl_flash, apply_ite State.flash, apply_ite Prod.snd, apply_ite Prod.fst]) <;> (try intros) <;> (repeat' split) <;> (try simp [foldl_flash, apply_ite State.flash, apply_ite Prod.snd, apply_ite Prod.fst]) <;> (try intros) <;> (repeat' split) <;> first | rfl | simp [foldl_flash, apply_ite State.flash, apply_ite Prod.snd, apply_ite Prod.fst]
@[simp] theorem mbcCancelAll_image (s : State) : (mbcCancelAll s).image = s.image := by
  unfold mbcCancelAll
  (repeat' split) <;> (try simp [foldl_image, apply_ite State.image, apply_ite Prod.snd, apply_ite Prod.fst]) <;> (try intros) <;> (repeat' split) <;> (try simp [foldl_image, apply_ite State.image, apply_ite Prod.snd, apply_ite Prod.fst]) <;> (try intros) <;> (repeat' split) <;> first | rfl | simp [foldl_image, apply_ite State.image, apply_ite Prod.snd, apply_ite Prod.fst]
@[simp] theorem mbcCancelAll_imageOk (s : State) : (mbcCancelAll s).imageOk = s.imageOk := by
  unfold mbcCancelAll
  (repeat' split) <;> (try simp [foldl_imageOk, apply_ite State.imageOk, apply_ite Prod.snd, apply_ite Prod.fst]) <;> (try intros) <;> (repeat' split) <;> (try simp [foldl_imageOk, apply_ite State.imageOk, apply_ite Prod.snd, apply_ite Prod.fst]) <;> (try intros) <;> (repeat' split) <;> first | rfl | simp [foldl_imageOk, apply_ite State.imageOk, apply_ite Prod.snd, apply_ite Prod.fst]
@[simp] theorem mbcCancelAll_draws (s : State) : (mbcCancelAll s).draws = s.draws := by
  unfold mbcCancelAll
  (repeat' split) <;> (try simp [foldl_draws, apply_ite State.draws, apply_ite Prod.snd, apply_ite Prod.fst]) <;> (try intros) <;> (repeat' split) <;> (try simp [foldl_draws, apply_ite State.draws, apply_ite Prod.snd, apply_ite Prod.fst]) <;> (try intros) <;> (repeat' split) <;> first | rfl | simp [foldl_draws, apply_ite State.draws, apply_ite Prod.snd, apply_ite Prod.fst]
@[simp] theorem mbcCancelAll_out (s : State) : (mbcCancelAll s).out = s.out := by
  unfold mbcCancelAll
  (repeat' split) <;> (try simp [foldl_out, apply_ite State.out, apply_ite Prod.snd, apply_ite Prod.fst]) <;> (try intros) <;> (repeat' split) <;> (try simp [foldl_out, apply_ite State.out, apply_ite Prod.snd, apply_ite Prod.fst]) <;> (try intros) <;> (repeat' split) <;> first | rfl | simp [foldl_out, apply_ite State.out, apply_ite Prod.snd, apply_ite Prod.fst]
@[simp] theorem mbcCancelAll_pending (s : State) : (mbcCancelAll s).pending = s.pending := by
  unfold mbcCancelAll
  (repeat' split) <;> (try simp [foldl_pending, apply_ite State.pending, apply_ite Prod.snd, apply_ite Prod.fst]) <;> (try intros) <;> (repeat' split) <;> (try simp [foldl_pending, apply_ite State.pending, apply_ite Prod.snd, apply_ite Prod.fst]) <;> (try intros) <;> (repeat' split) <;> first | rfl | simp [foldl_pending, apply_ite State.pending, apply_ite Prod.snd, apply_ite Prod.fst]
@[simp] theorem mbcCutAll_sys (s : State) : (mbcCutAll s).sys = s.sys := by
  unfold mbcCutAll
  (repeat' split) <;> (try simp [foldl_sys, apply_ite State.sys, apply_ite Prod.snd, apply_ite Prod.fst]) <;> (try intros) <;> (repeat' split) <;> (try simp [foldl_sys, apply_ite State.sys, apply_ite Prod.snd, apply_ite Prod.fst]) <;> (try intros) <;> (repeat' split) <;> first | rfl | simp [foldl_sys, apply_ite State.sys, apply_ite Prod.snd, apply_ite Prod.fst]
@[simp] theorem mbcCutAll_clk (s : State) : (mbcCutAll s).clk = s.clk := by
  unfold mbcCutAll
  (repeat' split) <;> (try simp [foldl_clk, apply_ite State.clk, apply_ite Prod.snd, apply_ite Prod.fst]) <;> (try intros) <;> (repeat' split) <;> (try simp [foldl_clk, apply_ite State.clk, apply_ite Prod.snd, apply_ite Prod.fst]) <;> (try intros) <;> (repeat' split) <;> first | rfl | simp [foldl_clk, apply_ite State.clk, apply_ite Prod.snd, apply_ite Prod.fst]
@[simp] theorem mbcCutAll_tks (s : State) : (mbcCutAll s).tks = s.tks := by
  unfold mbcCutAll
  (repeat' split) <;> (try simp [foldl_tks, apply_ite State.tks, apply_ite Prod.snd, apply_ite Prod.fst]) <;> (try intros) <;> (repeat' split) <;> (try simp [foldl_tks, apply_ite State.tks, apply_ite Prod.snd, apply_ite Prod.fst]) <;> (try intros) <;> (repeat' split) <;> first | rfl | simp [foldl_tks, apply_ite State.tks, apply_ite Prod.snd, apply_ite Prod.fst]
@[simp] theorem mbcCutAll_tim (s : State) : (mbcCutAll s).tim = s.tim := by
  unfold mbcCutAll
  (repeat' split) <;> (try simp [foldl_tim, apply_ite State.tim, apply_ite Prod.snd, apply_ite Prod.fst]) <;> (try intros) <;> (repeat' split) <;> (try simp [foldl_tim, apply_ite State.tim, apply_ite Prod.snd, apply_ite Prod.fst]) <;> (try intros) <;> (repeat' split) <;> first | rfl | simp [foldl_tim, apply_ite State.tim, apply_ite Prod.snd, apply_ite Prod.fst]
@[simp] theorem mbcCutAll_gnb (s : State) : (mbcCutAll s).gnb = s.gnb := by
  unfold mbcCutAll
  (repeat' split) <;> (try simp [foldl_gnb, apply_ite State.gnb, apply_ite Prod.snd, apply_ite Prod.fst]) <;> (try intros) <;> (repeat' split) <;> (try simp [foldl_gnb, apply_ite State.gnb, apply_ite Prod.snd, apply_ite Prod.fst]) <;> (try intros) <;> (repeat' split) <;> first | rfl | simp [foldl_gnb, apply_ite State.gnb, apply_ite Prod.snd, apply_ite Prod.fst]
@[simp] theorem mbcCutAll_dfc (s : State) : (mbcCutAll s).dfc = s.dfc := by
  unfold mbcCutAll
  (repeat' split) <;> (try simp [foldl_dfc, apply_ite State.dfc, apply_ite Prod.snd, apply_ite Prod.fst]) <;> (try intros) <;> (repeat' split) <;> (try simp [foldl_dfc, apply_ite State.dfc, apply_ite Prod.snd, apply_ite Prod.fst]) <;> (try intros) <;> (repeat' split) <;> first | rfl | simp [foldl_dfc, apply_ite State.dfc, apply_ite Prod.snd, apply_ite Prod.fst]
@[simp] theorem mbcCutAll_str (s : State) : (mbcCutAll s).str = s.str := by
  unfold mbcCutAll
  (repeat' split) <;> (try simp [foldl_str, apply_ite State.str, apply_ite Prod.snd, apply_ite Prod.fst]) <;> (try intros) <;> (repeat' split) <;> (try simp [foldl_str, apply_ite State.str, apply_ite Prod.snd, apply_ite Prod.fst]) <;> (try intros) <;> (repeat' split) <;> first | rfl | simp [foldl_str, apply_ite State.str, apply_ite Prod.snd, apply_ite Prod.fst]
@[simp] theorem mbcCutAll_fus (s : State) : (mbcCutAll s).fus = s.fus := by
  unfold mbcCutAll
  (repeat' split) <;> (try simp [foldl_fus, apply_ite State.fus, apply_ite Prod.snd, apply_ite Prod.fst]) <;> (try intros) <;> (repeat' split) <;> (try simp [foldl_fus, apply_ite State.fus, apply_ite Prod.snd, apply_ite Prod.fst]) <;> (try intros) <;> (repeat' split) <;> first | rfl | simp [foldl_fus, apply_ite State.fus, apply_ite Prod.snd, apply_ite Prod.fst]
@[simp] theorem mbcCutAll_saf (s : State) : (mbcCutAll s).saf = s.saf := by
  unfold mbcCutAll
  (repeat' split) <;> (try simp [foldl_saf, apply_ite State.saf, apply_ite Prod.snd, apply_ite Prod.fst]) <;> (try intros) <;> (repeat' split) <;> (try simp [foldl_saf, apply_ite State.saf, apply_ite Prod.snd, apply_ite Prod.fst]) <;> (try intros) <;> (repeat' split) <;> first | rfl | simp [foldl_saf, apply_ite State.saf, apply_ite Prod.snd, apply_ite Prod.fst]
@[simp] theorem mbcCutAll_evr (s : State) : (mbcCutAll s).evr = s.evr := by
  unfold mbcCutAll
  (repeat' split) <;> (try simp [foldl_evr, apply_ite State.evr, apply_ite Prod.snd, apply_ite Prod.fst]) <;> (try intros) <;> (repeat' split) <;> (try simp [foldl_evr, apply_ite State.evr, apply_ite Prod.snd, apply_ite Prod.fst]) <;> (try intros) <;> (repeat' split) <;> first | rfl | simp [foldl_evr, apply_ite State.evr, apply_ite Prod.snd, apply_ite Prod.fst]
@[simp] theorem mbcCutAll_rtc (s : State) : (mbcCutAll s).rtc = s.rtc := by
  unfold mbcCutAll
  (repeat' split) <;> (try simp [foldl_rtc, apply_ite State.rtc, apply_ite Prod.snd, apply_ite Prod.fst]) <;> (try intros) <;> (repeat' split) <;> (try simp [foldl_rtc, apply_ite State.rtc, apply_ite Prod.snd, apply_ite Prod.fst]) <;> (try intros) <;> (repeat' split) <;> first | rfl | simp [foldl_rtc, apply_ite State.rtc, apply_ite Prod.snd, apply_ite Prod.fst]
@[simp] theorem mbcCutAll_boot (s : State) : (mbcCutAll s).boot = s.boot := by
  unfold mbcCutAll
  (repeat' split) <;> (try simp [foldl_boot, apply_ite State.boot, apply_ite Prod.snd, apply_ite Prod.fst]) <;> (try intros) <;> (repeat' split) <;> (try simp [foldl_boot, apply_ite State.boot, apply_ite Prod.snd, apply_ite Prod.fst]) <;> (try intros) <;> (repeat' split) <;> first | rfl | simp [foldl_boot, apply_ite State.boot, apply_ite Prod.snd, apply_ite Prod.fst]
@[simp] theorem mbcCutAll_pin (s : State) : (mbcCutAll s).pin = s.pin := by
  unfold mbcCutAll
  (repeat' split) <;> (try simp [foldl_pin, apply_ite State.pin, apply_ite Prod.snd, apply_ite Prod.fst]) <;> (try intros) <;> (repeat' split) <;> (try simp [foldl_pin, apply_ite State.pin, apply_ite Prod.snd, apply_ite Prod.fst]) <;> (try intros) <;> (repeat' split) <;> first | rfl | simp [foldl_pin, apply_ite State.pin, apply_ite Prod.snd, apply_ite Prod.fst]
@[simp] theorem mbcCutAll_mspi (s : State) : (mbcCutAll s).mspi = s.mspi := by
  unfold mbcCutAll
  (repeat' split) <;> (try simp [foldl_mspi, apply_ite State.mspi, apply_ite Prod.snd, apply_ite Prod.fst]) <;> (try intros) <;> (repeat' split) <;> (try simp [foldl_mspi, apply_ite State.mspi, apply_ite Prod.snd, apply_ite Prod.fst]) <;> (try intros) <;> (repeat' split) <;> first | rfl | simp [foldl_mspi, apply_ite State.mspi, apply_ite Prod.snd, apply_ite Prod.fst]
@[simp] theorem mbcCutAll_twn (s : State) : (mbcCutAll s).twn = s.twn := by
  unfold mbcCutAll
  (repeat' split) <;> (try simp [foldl_twn, apply_ite State.twn, apply_ite Prod.snd, apply_ite Prod.fst]) <;> (try intros) <;> (repeat' split) <;> (try simp [foldl_twn, apply_ite State.twn, apply_ite Prod.snd, apply_ite Prod.fst]) <;> (try intros) <;> (repeat' split) <;> first | rfl | simp [foldl_twn, apply_ite State.twn, apply_ite Prod.snd, apply_ite Prod.fst]
@[simp] theorem mbcCutAll_pcl (s : State) : (mbcCutAll s).pcl = s.pcl := by
  unfold mbcCutAll
  (repeat' split) <;> (try simp [foldl_pcl, apply_ite State.pcl, apply_ite Prod.snd, apply_ite Prod.fst]) <;> (try intros) <;> (repeat' split) <;> (try simp [foldl_pcl, apply_ite State.pcl, apply_ite Prod.snd, apply_ite Prod.fst]) <;> (try intros) <;> (repeat' split) <;> first | rfl | simp [foldl_pcl, apply_ite State.pcl, apply_ite Prod.snd, apply_ite Prod.fst]
@[simp] theorem mbcCutAll_als (s : State) : (mbcCutAll s).als = s.als := by
  unfold mbcCutAll
  (repeat' split) <;> (try simp [foldl_als, apply_ite State.als, apply_ite Prod.snd, apply_ite Prod.fst]) <;> (try intros) <;> (repeat' split) <;> (try simp [foldl_als, apply_ite State.als, apply_ite Prod.snd, apply_ite Prod.fst]) <;> (try intros) <;> (repeat' split) <;> first | rfl | simp [foldl_als, apply_ite State.als, apply_ite Prod.snd, apply_ite Prod.fst]
@[simp] theorem mbcCutAll_srv (s : State) : (mbcCutAll s).srv = s.srv := by
  unfold mbcCutAll
  (repeat' split) <;> (try simp [foldl_srv, apply_ite State.srv, apply_ite Prod.snd, apply_ite Prod.fst]) <;> (try intros) <;> (repeat' split) <;> (try simp [foldl_srv, apply_ite State.srv, apply_ite Prod.snd, apply_ite Prod.fst]) <;> (try intros) <;> (repeat' split) <;> first | rfl | simp [foldl_srv, apply_ite State.srv, apply_ite Prod.snd, apply_ite Prod.fst]
@[simp] theorem mbcCutAll_bus (s : State) : (mbcCutAll s).bus = s.bus := by
  unfold mbcCutAll
  (repeat' split) <;> (try simp [foldl_bus, apply_ite State.bus, apply_ite Prod.snd, apply_ite Prod.fst]) <;> (try intros) <;> (repeat' split) <;> (try simp [foldl_bus, apply_ite State.bus, apply_ite Prod.snd, apply_ite Prod.fst]) <;> (try intros) <;> (repeat' split) <;> first | rfl | simp [foldl_bus, apply_ite State.bus, apply_ite Prod.snd, apply_ite Prod.fst]
@[simp] theorem mbcCutAll_net (s : State) : (mbcCutAll s).net = s.net := by
  unfold mbcCutAll
  (repeat' split) <;> (try simp [foldl_net, apply_ite State.net, apply_ite Prod.snd, apply_ite Prod.fst]) <;> (try intros) <;> (repeat' split) <;> (try simp [foldl_net, apply_ite State.net, apply_ite Prod.snd, apply_ite Prod.fst]) <;> (try intros) <;> (repeat' split) <;> first | rfl | simp [foldl_net, apply_ite State.net, apply_ite Prod.snd, apply_ite Prod.fst]
@[simp] theorem mbcCutAll_pim (s : State) : (mbcCutAll s).pim = s.pim := by
  unfold mbcCutAll
  (repeat' split) <;> (try simp [foldl_pim, apply_ite State.pim, apply_ite Prod.snd, apply_ite Prod.fst]) <;> (try intros) <;> (repeat' split) <;> (try simp [foldl_pim, apply_ite State.pim, apply_ite Prod.snd, apply_ite Prod.fst]) <;> (try intros) <;> (repeat' split) <;> first | rfl | simp [foldl_pim, apply_ite State.pim, apply_ite Prod.snd, apply_ite Prod.fst]
@[simp] theorem mbcCutAll_flash (s : State) : (mbcCutAll s).flash = s.flash := by
  unfold mbcCutAll
  (repeat' split) <;> (try simp [foldl_flash, apply_ite State.flash, apply_ite Prod.snd, apply_ite Prod.fst]) <;> (try intros) <;> (repeat' split) <;> (try simp [foldl_flash, apply_ite State.flash, apply_ite Prod.snd, apply_ite Prod.fst]) <;> (try intros) <;> (repeat' split) <;> first | rfl | simp [foldl_flash, apply_ite State.flash, apply_ite Prod.snd, apply_ite Prod.fst]
@[simp] theorem mbcCutAll_image (s : State) : (mbcCutAll s).image = s.image := by
  unfold mbcCutAll
  (repeat' split) <;> (try simp [foldl_image, apply_ite State.image, apply_ite Prod.snd, apply_ite Prod.fst]) <;> (try intros) <;> (repeat' split) <;> (try simp [foldl_image, apply_ite State.image, apply_ite Prod.snd, apply_ite Prod.fst]) <;> (try intros) <;> (repeat' split) <;> first | rfl | simp [foldl_image, apply_ite State.image, apply_ite Prod.snd, apply_ite Prod.fst]
@[simp] theorem mbcCutAll_imageOk (s : State) : (mbcCutAll s).imageOk = s.imageOk := by
  unfold mbcCutAll
  (repeat' split) <;> (try simp [foldl_imageOk, apply_ite State.imageOk, apply_ite Prod.snd, apply_ite Prod.fst]) <;> (try intros) <;> (repeat' split) <;> (try simp [foldl_imageOk, apply_ite State.imageOk, apply_ite Prod.snd, apply_ite Prod.fst]) <;> (try intros) <;> (repeat' split) <;> first | rfl | simp [foldl_imageOk, apply_ite State.imageOk, apply_ite Prod.snd, apply_ite Prod.fst]
@[simp] theorem mbcCutAll_draws (s : State) : (mbcCutAll s).draws = s.draws := by
  unfold mbcCutAll
  (repeat' split) <;> (try simp [foldl_draws, apply_ite State.draws, apply_ite Prod.snd, apply_ite Prod.fst]) <;> (try intros) <;> (repeat' split) <;> (try simp [foldl_draws, apply_ite State.draws, apply_ite Prod.snd, apply_ite Prod.fst]) <;> (try intros) <;> (repeat' split) <;> first | rfl | simp [foldl_draws, apply_ite State.draws, apply_ite Prod.snd, apply_ite Prod.fst]
@[simp] theorem mbcCutAll_out (s : State) : (mbcCutAll s).out = s.out := by
  unfold mbcCutAll
  (repeat' split) <;> (try simp [foldl_out, apply_ite State.out, apply_ite Prod.snd, apply_ite Prod.fst]) <;> (try intros) <;> (repeat' split) <;> (try simp [foldl_out, apply_ite State.out, apply_ite Prod.snd, apply_ite Prod.fst]) <;> (try intros) <;> (repeat' split) <;> first | rfl | simp [foldl_out, apply_ite State.out, apply_ite Prod.snd, apply_ite Prod.fst]
@[simp] theorem mbcCutAll_pending (s : State) : (mbcCutAll s).pending = s.pending := by
  unfold mbcCutAll
  (repeat' split) <;> (try simp [foldl_pending, apply_ite State.pending, apply_ite Prod.snd, apply_ite Prod.fst]) <;> (try intros) <;> (repeat' split) <;> (try simp [foldl_pending, apply_ite State.pending, apply_ite Prod.snd, apply_ite Prod.fst]) <;> (try intros) <;> (repeat' split) <;> first | rfl | simp [foldl_pending, apply_ite State.pending, apply_ite Prod.snd, apply_ite Prod.fst]
@[simp] theorem mbcModes_sys (d : DevState) (s : State) : (mbcModes d s).sys = s.sys := by
  unfold mbcModes
  (repeat' split) <;> first | rfl | simp [foldl_sys, apply_ite State.sys, apply_ite Prod.snd, apply_ite Prod.fst]
@[simp] theorem mbcModes_clk (d : DevState) (s : State) : (mbcModes d s).clk = s.clk := by
  unfold mbcModes
  (repeat' split) <;> first | rfl | simp [foldl_clk, apply_ite State.clk, apply_ite Prod.snd, apply_ite Prod.fst]
@[simp] theorem mbcModes_tks (d : DevState) (s : State) : (mbcModes d s).tks = s.tks := by
  unfold mbcModes
  (repeat' split) <;> first | rfl | simp [foldl_tks, apply_ite State.tks, apply_ite Prod.snd, apply_ite Prod.fst]
@[simp] theorem mbcModes_tim (d : DevState) (s : State) : (mbcModes d s).tim = s.tim := by
  unfold mbcModes
  (repeat' split) <;> first | rfl | simp [foldl_tim, apply_ite State.tim, apply_ite Prod.snd, apply_ite Prod.fst]
@[simp] theorem mbcModes_gnb (d : DevState) (s : State) : (mbcModes d s).gnb = s.gnb := by
  unfold mbcModes
  (repeat' split) <;> first | rfl | simp [foldl_gnb, apply_ite State.gnb, apply_ite Prod.snd, apply_ite Prod.fst]
@[simp] theorem mbcModes_dfc (d : DevState) (s : State) : (mbcModes d s).dfc = s.dfc := by
  unfold mbcModes
  (repeat' split) <;> first | rfl | simp [foldl_dfc, apply_ite State.dfc, apply_ite Prod.snd, apply_ite Prod.fst]
@[simp] theorem mbcModes_str (d : DevState) (s : State) : (mbcModes d s).str = s.str := by
  unfold mbcModes
  (repeat' split) <;> first | rfl | simp [foldl_str, apply_ite State.str, apply_ite Prod.snd, apply_ite Prod.fst]
@[simp] theorem mbcModes_fus (d : DevState) (s : State) : (mbcModes d s).fus = s.fus := by
  unfold mbcModes
  (repeat' split) <;> first | rfl | simp [foldl_fus, apply_ite State.fus, apply_ite Prod.snd, apply_ite Prod.fst]
@[simp] theorem mbcModes_saf (d : DevState) (s : State) : (mbcModes d s).saf = s.saf := by
  unfold mbcModes
  (repeat' split) <;> first | rfl | simp [foldl_saf, apply_ite State.saf, apply_ite Prod.snd, apply_ite Prod.fst]
@[simp] theorem mbcModes_rtc (d : DevState) (s : State) : (mbcModes d s).rtc = s.rtc := by
  unfold mbcModes
  (repeat' split) <;> first | rfl | simp [foldl_rtc, apply_ite State.rtc, apply_ite Prod.snd, apply_ite Prod.fst]
@[simp] theorem mbcModes_boot (d : DevState) (s : State) : (mbcModes d s).boot = s.boot := by
  unfold mbcModes
  (repeat' split) <;> first | rfl | simp [foldl_boot, apply_ite State.boot, apply_ite Prod.snd, apply_ite Prod.fst]
@[simp] theorem mbcModes_pin (d : DevState) (s : State) : (mbcModes d s).pin = s.pin := by
  unfold mbcModes
  (repeat' split) <;> first | rfl | simp [foldl_pin, apply_ite State.pin, apply_ite Prod.snd, apply_ite Prod.fst]
@[simp] theorem mbcModes_mspi (d : DevState) (s : State) : (mbcModes d s).mspi = s.mspi := by
  unfold mbcModes
  (repeat' split) <;> first | rfl | simp [foldl_mspi, apply_ite State.mspi, apply_ite Prod.snd, apply_ite Prod.fst]
@[simp] theorem mbcModes_twn (d : DevState) (s : State) : (mbcModes d s).twn = s.twn := by
  unfold mbcModes
  (repeat' split) <;> first | rfl | simp [foldl_twn, apply_ite State.twn, apply_ite Prod.snd, apply_ite Prod.fst]
@[simp] theorem mbcModes_pcl (d : DevState) (s : State) : (mbcModes d s).pcl = s.pcl := by
  unfold mbcModes
  (repeat' split) <;> first | rfl | simp [foldl_pcl, apply_ite State.pcl, apply_ite Prod.snd, apply_ite Prod.fst]
@[simp] theorem mbcModes_als (d : DevState) (s : State) : (mbcModes d s).als = s.als := by
  unfold mbcModes
  (repeat' split) <;> first | rfl | simp [foldl_als, apply_ite State.als, apply_ite Prod.snd, apply_ite Prod.fst]
@[simp] theorem mbcModes_srv (d : DevState) (s : State) : (mbcModes d s).srv = s.srv := by
  unfold mbcModes
  (repeat' split) <;> first | rfl | simp [foldl_srv, apply_ite State.srv, apply_ite Prod.snd, apply_ite Prod.fst]
@[simp] theorem mbcModes_bus (d : DevState) (s : State) : (mbcModes d s).bus = s.bus := by
  unfold mbcModes
  (repeat' split) <;> first | rfl | simp [foldl_bus, apply_ite State.bus, apply_ite Prod.snd, apply_ite Prod.fst]
@[simp] theorem mbcModes_net (d : DevState) (s : State) : (mbcModes d s).net = s.net := by
  unfold mbcModes
  (repeat' split) <;> first | rfl | simp [foldl_net, apply_ite State.net, apply_ite Prod.snd, apply_ite Prod.fst]
@[simp] theorem mbcModes_pim (d : DevState) (s : State) : (mbcModes d s).pim = s.pim := by
  unfold mbcModes
  (repeat' split) <;> first | rfl | simp [foldl_pim, apply_ite State.pim, apply_ite Prod.snd, apply_ite Prod.fst]
@[simp] theorem mbcModes_flash (d : DevState) (s : State) : (mbcModes d s).flash = s.flash := by
  unfold mbcModes
  (repeat' split) <;> first | rfl | simp [foldl_flash, apply_ite State.flash, apply_ite Prod.snd, apply_ite Prod.fst]
@[simp] theorem mbcModes_image (d : DevState) (s : State) : (mbcModes d s).image = s.image := by
  unfold mbcModes
  (repeat' split) <;> first | rfl | simp [foldl_image, apply_ite State.image, apply_ite Prod.snd, apply_ite Prod.fst]
@[simp] theorem mbcModes_imageOk (d : DevState) (s : State) : (mbcModes d s).imageOk = s.imageOk := by
  unfold mbcModes
  (repeat' split) <;> first | rfl | simp [foldl_imageOk, apply_ite State.imageOk, apply_ite Prod.snd, apply_ite Prod.fst]
@[simp] theorem mbcModes_draws (d : DevState) (s : State) : (mbcModes d s).draws = s.draws := by
  unfold mbcModes
  (repeat' split) <;> first | rfl | simp [foldl_draws, apply_ite State.draws, apply_ite Prod.snd, apply_ite Prod.fst]
@[simp] theorem mbcModes_out (d : DevState) (s : State) : (mbcModes d s).out = s.out := by
  unfold mbcModes
  (repeat' split) <;> first | rfl | simp [foldl_out, apply_ite State.out, apply_ite Prod.snd, apply_ite Prod.fst]
@[simp] theorem mbcModes_pending (d : DevState) (s : State) : (mbcModes d s).pending = s.pending := by
  unfold mbcModes
  (repeat' split) <;> first | rfl | simp [foldl_pending, apply_ite State.pending, apply_ite Prod.snd, apply_ite Prod.fst]
@[simp] theorem netLeaveActive_sys (s : State) : (netLeaveActive s).sys = s.sys := by
  unfold netLeaveActive
  (repeat' split) <;> first | rfl | simp [foldl_sys, apply_ite State.sys, apply_ite Prod.snd, apply_ite Prod.fst]
@[simp] theorem netLeaveActive_clk (s : State) : (netLeaveActive s).clk = s.clk := by
  unfold netLeaveActive
  (repeat' split) <;> first | rfl | simp [foldl_clk, apply_ite State.clk, apply_ite Prod.snd, apply_ite Prod.fst]
@[simp] theorem netLeaveActive_tks (s : State) : (netLeaveActive s).tks = s.tks := by
  unfold netLeaveActive
  (repeat' split) <;> first | rfl | simp [foldl_tks, apply_ite State.tks, apply_ite Prod.snd, apply_ite Prod.fst]
@[simp] theorem netLeaveActive_tim (s : State) : (netLeaveActive s).tim = s.tim := by
  unfold netLeaveActive
  (repeat' split) <;> first | rfl | simp [foldl_tim, apply_ite State.tim, apply_ite Prod.snd, apply_ite Prod.fst]
@[simp] theorem netLeaveActive_gnb (s : State) : (netLeaveActive s).gnb = s.gnb := by
  unfold netLeaveActive
  (repeat' split) <;> first | rfl | simp [foldl_gnb, apply_ite State.gnb, apply_ite Prod.snd, apply_ite Prod.fst]
@[simp] theorem netLeaveActive_dfc (s : State) : (netLeaveActive s).dfc = s.dfc := by
  unfold netLeaveActive
  (repeat' split) <;> first | rfl | simp [foldl_dfc, apply_ite State.dfc, apply_ite Prod.snd, apply_ite Prod.fst]
@[simp] theorem netLeaveActive_str (s : State) : (netLeaveActive s).str = s.str := by
  unfold netLeaveActive
  (repeat' split) <;> first | rfl | simp [foldl_str, apply_ite State.str, apply_ite Prod.snd, apply_ite Prod.fst]
@[simp] theorem netLeaveActive_fus (s : State) : (netLeaveActive s).fus = s.fus := by
  unfold netLeaveActive
  (repeat' split) <;> first | rfl | simp [foldl_fus, apply_ite State.fus, apply_ite Prod.snd, apply_ite Prod.fst]
@[simp] theorem netLeaveActive_saf (s : State) : (netLeaveActive s).saf = s.saf := by
  unfold netLeaveActive
  (repeat' split) <;> first | rfl | simp [foldl_saf, apply_ite State.saf, apply_ite Prod.snd, apply_ite Prod.fst]
@[simp] theorem netLeaveActive_rtc (s : State) : (netLeaveActive s).rtc = s.rtc := by
  unfold netLeaveActive
  (repeat' split) <;> first | rfl | simp [foldl_rtc, apply_ite State.rtc, apply_ite Prod.snd, apply_ite Prod.fst]
@[simp] theorem netLeaveActive_boot (s : State) : (netLeaveActive s).boot = s.boot := by
  unfold netLeaveActive
  (repeat' split) <;> first | rfl | simp [foldl_boot, apply_ite State.boot, apply_ite Prod.snd, apply_ite Prod.fst]
@[simp] theorem netLeaveActive_pin (s : State) : (netLeaveActive s).pin = s.pin := by
  unfold netLeaveActive
  (repeat' split) <;> first | rfl | simp [foldl_pin, apply_ite State.pin, apply_ite Prod.snd, apply_ite Prod.fst]
@[simp] theorem netLeaveActive_mspi (s : State) : (netLeaveActive s).mspi = s.mspi := by
  unfold netLeaveActive
  (repeat' split) <;> first | rfl | simp [foldl_mspi, apply_ite State.mspi, apply_ite Prod.snd, apply_ite Prod.fst]
@[simp] theorem netLeaveActive_twn (s : State) : (netLeaveActive s).twn = s.twn := by
  unfold netLeaveActive
  (repeat' split) <;> first | rfl | simp [foldl_twn, apply_ite State.twn, apply_ite Prod.snd, apply_ite Prod.fst]
@[simp] theorem netLeaveActive_pcl (s : State) : (netLeaveActive s).pcl = s.pcl := by
  unfold netLeaveActive
  (repeat' split) <;> first | rfl | simp [foldl_pcl, apply_ite State.pcl, apply_ite Prod.snd, apply_ite Prod.fst]
@[simp] theorem netLeaveActive_als (s : State) : (netLeaveActive s).als = s.als := by
  unfold netLeaveActive
  (repeat' split) <;> first | rfl | simp [foldl_als, apply_ite State.als, apply_ite Prod.snd, apply_ite Prod.fst]
@[simp] theorem netLeaveActive_srv (s : State) : (netLeaveActive s).srv = s.srv := by
  unfold netLeaveActive
  (repeat' split) <;> first | rfl | simp [foldl_srv, apply_ite State.srv, apply_ite Prod.snd, apply_ite Prod.fst]
@[simp] theorem netLeaveActive_mbcs (s : State) : (netLeaveActive s).mbcs = s.mbcs := by
  unfold netLeaveActive
  (repeat' split) <;> first | rfl | simp [foldl_mbcs, apply_ite State.mbcs, apply_ite Prod.snd, apply_ite Prod.fst]
@[simp] theorem netLeaveActive_bus (s : State) : (netLeaveActive s).bus = s.bus := by
  unfold netLeaveActive
  (repeat' split) <;> first | rfl | simp [foldl_bus, apply_ite State.bus, apply_ite Prod.snd, apply_ite Prod.fst]
@[simp] theorem netLeaveActive_flash (s : State) : (netLeaveActive s).flash = s.flash := by
  unfold netLeaveActive
  (repeat' split) <;> first | rfl | simp [foldl_flash, apply_ite State.flash, apply_ite Prod.snd, apply_ite Prod.fst]
@[simp] theorem netLeaveActive_image (s : State) : (netLeaveActive s).image = s.image := by
  unfold netLeaveActive
  (repeat' split) <;> first | rfl | simp [foldl_image, apply_ite State.image, apply_ite Prod.snd, apply_ite Prod.fst]
@[simp] theorem netLeaveActive_imageOk (s : State) : (netLeaveActive s).imageOk = s.imageOk := by
  unfold netLeaveActive
  (repeat' split) <;> first | rfl | simp [foldl_imageOk, apply_ite State.imageOk, apply_ite Prod.snd, apply_ite Prod.fst]
@[simp] theorem netLeaveActive_draws (s : State) : (netLeaveActive s).draws = s.draws := by
  unfold netLeaveActive
  (repeat' split) <;> first | rfl | simp [foldl_draws, apply_ite State.draws, apply_ite Prod.snd, apply_ite Prod.fst]
@[simp] theorem netLeaveActive_out (s : State) : (netLeaveActive s).out = s.out := by
  unfold netLeaveActive
  (repeat' split) <;> first | rfl | simp [foldl_out, apply_ite State.out, apply_ite Prod.snd, apply_ite Prod.fst]
@[simp] theorem netLeaveActive_pending (s : State) : (netLeaveActive s).pending = s.pending := by
  unfold netLeaveActive
  (repeat' split) <;> first | rfl | simp [foldl_pending, apply_ite State.pending, apply_ite Prod.snd, apply_ite Prod.fst]
@[simp] theorem enterState_clk (new : DevState) (cause : Nat) (s : State) : (enterState new cause s).clk = s.clk := by
  unfold enterState
  (repeat' split) <;> first | rfl | simp [foldl_clk, apply_ite State.clk, apply_ite Prod.snd, apply_ite Prod.fst]
@[simp] theorem enterState_tks (new : DevState) (cause : Nat) (s : State) : (enterState new cause s).tks = s.tks := by
  unfold enterState
  (repeat' split) <;> first | rfl | simp [foldl_tks, apply_ite State.tks, apply_ite Prod.snd, apply_ite Prod.fst]
@[simp] theorem enterState_tim (new : DevState) (cause : Nat) (s : State) : (enterState new cause s).tim = s.tim := by
  unfold enterState
  (repeat' split) <;> first | rfl | simp [foldl_tim, apply_ite State.tim, apply_ite Prod.snd, apply_ite Prod.fst]
@[simp] theorem enterState_gnb (new : DevState) (cause : Nat) (s : State) : (enterState new cause s).gnb = s.gnb := by
  unfold enterState
  (repeat' split) <;> first | rfl | simp [foldl_gnb, apply_ite State.gnb, apply_ite Prod.snd, apply_ite Prod.fst]
@[simp] theorem enterState_dfc (new : DevState) (cause : Nat) (s : State) : (enterState new cause s).dfc = s.dfc := by
  unfold enterState
  (repeat' split) <;> first | rfl | simp [foldl_dfc, apply_ite State.dfc, apply_ite Prod.snd, apply_ite Prod.fst]
@[simp] theorem enterState_str (new : DevState) (cause : Nat) (s : State) : (enterState new cause s).str = s.str := by
  unfold enterState
  (repeat' split) <;> first | rfl | simp [foldl_str, apply_ite State.str, apply_ite Prod.snd, apply_ite Prod.fst]
@[simp] theorem enterState_fus (new : DevState) (cause : Nat) (s : State) : (enterState new cause s).fus = s.fus := by
  unfold enterState
  (repeat' split) <;> first | rfl | simp [foldl_fus, apply_ite State.fus, apply_ite Prod.snd, apply_ite Prod.fst]
@[simp] theorem enterState_saf (new : DevState) (cause : Nat) (s : State) : (enterState new cause s).saf = s.saf := by
  unfold enterState
  (repeat' split) <;> first | rfl | simp [foldl_saf, apply_ite State.saf, apply_ite Prod.snd, apply_ite Prod.fst]
@[simp] theorem enterState_rtc (new : DevState) (cause : Nat) (s : State) : (enterState new cause s).rtc = s.rtc := by
  unfold enterState
  (repeat' split) <;> first | rfl | simp [foldl_rtc, apply_ite State.rtc, apply_ite Prod.snd, apply_ite Prod.fst]
@[simp] theorem enterState_boot (new : DevState) (cause : Nat) (s : State) : (enterState new cause s).boot = s.boot := by
  unfold enterState
  (repeat' split) <;> first | rfl | simp [foldl_boot, apply_ite State.boot, apply_ite Prod.snd, apply_ite Prod.fst]
@[simp] theorem enterState_pin (new : DevState) (cause : Nat) (s : State) : (enterState new cause s).pin = s.pin := by
  unfold enterState
  (repeat' split) <;> first | rfl | simp [foldl_pin, apply_ite State.pin, apply_ite Prod.snd, apply_ite Prod.fst]
@[simp] theorem enterState_mspi (new : DevState) (cause : Nat) (s : State) : (enterState new cause s).mspi = s.mspi := by
  unfold enterState
  (repeat' split) <;> first | rfl | simp [foldl_mspi, apply_ite State.mspi, apply_ite Prod.snd, apply_ite Prod.fst]
@[simp] theorem enterState_twn (new : DevState) (cause : Nat) (s : State) : (enterState new cause s).twn = s.twn := by
  unfold enterState
  (repeat' split) <;> first | rfl | simp [foldl_twn, apply_ite State.twn, apply_ite Prod.snd, apply_ite Prod.fst]
@[simp] theorem enterState_pcl (new : DevState) (cause : Nat) (s : State) : (enterState new cause s).pcl = s.pcl := by
  unfold enterState
  (repeat' split) <;> first | rfl | simp [foldl_pcl, apply_ite State.pcl, apply_ite Prod.snd, apply_ite Prod.fst]
@[simp] theorem enterState_als (new : DevState) (cause : Nat) (s : State) : (enterState new cause s).als = s.als := by
  unfold enterState
  (repeat' split) <;> first | rfl | simp [foldl_als, apply_ite State.als, apply_ite Prod.snd, apply_ite Prod.fst]
@[simp] theorem enterState_srv (new : DevState) (cause : Nat) (s : State) : (enterState new cause s).srv = s.srv := by
  unfold enterState
  (repeat' split) <;> first | rfl | simp [foldl_srv, apply_ite State.srv, apply_ite Prod.snd, apply_ite Prod.fst]
@[simp] theorem enterState_bus (new : DevState) (cause : Nat) (s : State) : (enterState new cause s).bus = s.bus := by
  unfold enterState
  (repeat' split) <;> first | rfl | simp [foldl_bus, apply_ite State.bus, apply_ite Prod.snd, apply_ite Prod.fst]
@[simp] theorem enterState_net (new : DevState) (cause : Nat) (s : State) : (enterState new cause s).net = s.net := by
  unfold enterState
  (repeat' split) <;> first | rfl | simp [foldl_net, apply_ite State.net, apply_ite Prod.snd, apply_ite Prod.fst]
@[simp] theorem enterState_pim (new : DevState) (cause : Nat) (s : State) : (enterState new cause s).pim = s.pim := by
  unfold enterState
  (repeat' split) <;> first | rfl | simp [foldl_pim, apply_ite State.pim, apply_ite Prod.snd, apply_ite Prod.fst]
@[simp] theorem enterState_flash (new : DevState) (cause : Nat) (s : State) : (enterState new cause s).flash = s.flash := by
  unfold enterState
  (repeat' split) <;> first | rfl | simp [foldl_flash, apply_ite State.flash, apply_ite Prod.snd, apply_ite Prod.fst]
@[simp] theorem enterState_image (new : DevState) (cause : Nat) (s : State) : (enterState new cause s).image = s.image := by
  unfold enterState
  (repeat' split) <;> first | rfl | simp [foldl_image, apply_ite State.image, apply_ite Prod.snd, apply_ite Prod.fst]
@[simp] theorem enterState_imageOk (new : DevState) (cause : Nat) (s : State) : (enterState new cause s).imageOk = s.imageOk := by
  unfold enterState
  (repeat' split) <;> first | rfl | simp [foldl_imageOk, apply_ite State.imageOk, apply_ite Prod.snd, apply_ite Prod.fst]
@[simp] theorem enterState_draws (new : DevState) (cause : Nat) (s : State) : (enterState new cause s).draws = s.draws := by
  unfold enterState
  (repeat' split) <;> first | rfl | simp [foldl_draws, apply_ite State.draws, apply_ite Prod.snd, apply_ite Prod.fst]
@[simp] theorem enterState_pending (new : DevState) (cause : Nat) (s : State) : (enterState new cause s).pending = s.pending := by
  unfold enterState
  (repeat' split) <;> first | rfl | simp [foldl_pending, apply_ite State.pending, apply_ite Prod.snd, apply_ite Prod.fst]
@[simp] theorem abortHandover_sys (cause : Nat) (s : State) : (abortHandover cause s).sys = s.sys := by
  unfold abortHandover
  (repeat' split) <;> first | rfl | simp [foldl_sys, apply_ite State.sys, apply_ite Prod.snd, apply_ite Prod.fst]
@[simp] theorem abortHandover_clk (cause : Nat) (s : State) : (abortHandover cause s).clk = s.clk := by
  unfold abortHandover
  (repeat' split) <;> first | rfl | simp [foldl_clk, apply_ite State.clk, apply_ite Prod.snd, apply_ite Prod.fst]
@[simp] theorem abortHandover_tks (cause : Nat) (s : State) : (abortHandover cause s).tks = s.tks := by
  unfold abortHandover
  (repeat' split) <;> first | rfl | simp [foldl_tks, apply_ite State.tks, apply_ite Prod.snd, apply_ite Prod.fst]
@[simp] theorem abortHandover_tim (cause : Nat) (s : State) : (abortHandover cause s).tim = s.tim := by
  unfold abortHandover
  (repeat' split) <;> first | rfl | simp [foldl_tim, apply_ite State.tim, apply_ite Prod.snd, apply_ite Prod.fst]
@[simp] theorem abortHandover_gnb (cause : Nat) (s : State) : (abortHandover cause s).gnb = s.gnb := by
  unfold abortHandover
  (repeat' split) <;> first | rfl | simp [foldl_gnb, apply_ite State.gnb, apply_ite Prod.snd, apply_ite Prod.fst]
@[simp] theorem abortHandover_dfc (cause : Nat) (s : State) : (abortHandover cause s).dfc = s.dfc := by
  unfold abortHandover
  (repeat' split) <;> first | rfl | simp [foldl_dfc, apply_ite State.dfc, apply_ite Prod.snd, apply_ite Prod.fst]
@[simp] theorem abortHandover_str (cause : Nat) (s : State) : (abortHandover cause s).str = s.str := by
  unfold abortHandover
  (repeat' split) <;> first | rfl | simp [foldl_str, apply_ite State.str, apply_ite Prod.snd, apply_ite Prod.fst]
@[simp] theorem abortHandover_fus (cause : Nat) (s : State) : (abortHandover cause s).fus = s.fus := by
  unfold abortHandover
  (repeat' split) <;> first | rfl | simp [foldl_fus, apply_ite State.fus, apply_ite Prod.snd, apply_ite Prod.fst]
@[simp] theorem abortHandover_saf (cause : Nat) (s : State) : (abortHandover cause s).saf = s.saf := by
  unfold abortHandover
  (repeat' split) <;> first | rfl | simp [foldl_saf, apply_ite State.saf, apply_ite Prod.snd, apply_ite Prod.fst]
@[simp] theorem abortHandover_rtc (cause : Nat) (s : State) : (abortHandover cause s).rtc = s.rtc := by
  unfold abortHandover
  (repeat' split) <;> first | rfl | simp [foldl_rtc, apply_ite State.rtc, apply_ite Prod.snd, apply_ite Prod.fst]
@[simp] theorem abortHandover_boot (cause : Nat) (s : State) : (abortHandover cause s).boot = s.boot := by
  unfold abortHandover
  (repeat' split) <;> first | rfl | simp [foldl_boot, apply_ite State.boot, apply_ite Prod.snd, apply_ite Prod.fst]
@[simp] theorem abortHandover_pin (cause : Nat) (s : State) : (abortHandover cause s).pin = s.pin := by
  unfold abortHandover
  (repeat' split) <;> first | rfl | simp [foldl_pin, apply_ite State.pin, apply_ite Prod.snd, apply_ite Prod.fst]
@[simp] theorem abortHandover_mspi (cause : Nat) (s : State) : (abortHandover cause s).mspi = s.mspi := by
  unfold abortHandover
  (repeat' split) <;> first | rfl | simp [foldl_mspi, apply_ite State.mspi, apply_ite Prod.snd, apply_ite Prod.fst]
@[simp] theorem abortHandover_pcl (cause : Nat) (s : State) : (abortHandover cause s).pcl = s.pcl := by
  unfold abortHandover
  (repeat' split) <;> first | rfl | simp [foldl_pcl, apply_ite State.pcl, apply_ite Prod.snd, apply_ite Prod.fst]
@[simp] theorem abortHandover_als (cause : Nat) (s : State) : (abortHandover cause s).als = s.als := by
  unfold abortHandover
  (repeat' split) <;> first | rfl | simp [foldl_als, apply_ite State.als, apply_ite Prod.snd, apply_ite Prod.fst]
@[simp] theorem abortHandover_srv (cause : Nat) (s : State) : (abortHandover cause s).srv = s.srv := by
  unfold abortHandover
  (repeat' split) <;> first | rfl | simp [foldl_srv, apply_ite State.srv, apply_ite Prod.snd, apply_ite Prod.fst]
@[simp] theorem abortHandover_mbcs (cause : Nat) (s : State) : (abortHandover cause s).mbcs = s.mbcs := by
  unfold abortHandover
  (repeat' split) <;> first | rfl | simp [foldl_mbcs, apply_ite State.mbcs, apply_ite Prod.snd, apply_ite Prod.fst]
@[simp] theorem abortHandover_bus (cause : Nat) (s : State) : (abortHandover cause s).bus = s.bus := by
  unfold abortHandover
  (repeat' split) <;> first | rfl | simp [foldl_bus, apply_ite State.bus, apply_ite Prod.snd, apply_ite Prod.fst]
@[simp] theorem abortHandover_net (cause : Nat) (s : State) : (abortHandover cause s).net = s.net := by
  unfold abortHandover
  (repeat' split) <;> first | rfl | simp [foldl_net, apply_ite State.net, apply_ite Prod.snd, apply_ite Prod.fst]
@[simp] theorem abortHandover_pim (cause : Nat) (s : State) : (abortHandover cause s).pim = s.pim := by
  unfold abortHandover
  (repeat' split) <;> first | rfl | simp [foldl_pim, apply_ite State.pim, apply_ite Prod.snd, apply_ite Prod.fst]
@[simp] theorem abortHandover_flash (cause : Nat) (s : State) : (abortHandover cause s).flash = s.flash := by
  unfold abortHandover
  (repeat' split) <;> first | rfl | simp [foldl_flash, apply_ite State.flash, apply_ite Prod.snd, apply_ite Prod.fst]
@[simp] theorem abortHandover_image (cause : Nat) (s : State) : (abortHandover cause s).image = s.image := by
  unfold abortHandover
  (repeat' split) <;> first | rfl | simp [foldl_image, apply_ite State.image, apply_ite Prod.snd, apply_ite Prod.fst]
@[simp] theorem abortHandover_imageOk (cause : Nat) (s : State) : (abortHandover cause s).imageOk = s.imageOk := by
  unfold abortHandover
  (repeat' split) <;> first | rfl | simp [foldl_imageOk, apply_ite State.imageOk, apply_ite Prod.snd, apply_ite Prod.fst]
@[simp] theorem abortHandover_draws (cause : Nat) (s : State) : (abortHandover cause s).draws = s.draws := by
  unfold abortHandover
  (repeat' split) <;> first | rfl | simp [foldl_draws, apply_ite State.draws, apply_ite Prod.snd, apply_ite Prod.fst]
@[simp] theorem abortHandover_out (cause : Nat) (s : State) : (abortHandover cause s).out = s.out := by
  unfold abortHandover
  (repeat' split) <;> first | rfl | simp [foldl_out, apply_ite State.out, apply_ite Prod.snd, apply_ite Prod.fst]
@[simp] theorem abortHandover_pending (cause : Nat) (s : State) : (abortHandover cause s).pending = s.pending := by
  unfold abortHandover
  (repeat' split) <;> first | rfl | simp [foldl_pending, apply_ite State.pending, apply_ite Prod.snd, apply_ite Prod.fst]
@[simp] theorem startUrgent_sys (trigger : Nat) (s : State) : (startUrgent trigger s).sys = s.sys := by
  unfold startUrgent
  (repeat' split) <;> first | rfl | simp [foldl_sys, apply_ite State.sys, apply_ite Prod.snd, apply_ite Prod.fst]
@[simp] theorem startUrgent_clk (trigger : Nat) (s : State) : (startUrgent trigger s).clk = s.clk := by
  unfold startUrgent
  (repeat' split) <;> first | rfl | simp [foldl_clk, apply_ite State.clk, apply_ite Prod.snd, apply_ite Prod.fst]
@[simp] theorem startUrgent_tks (trigger : Nat) (s : State) : (startUrgent trigger s).tks = s.tks := by
  unfold startUrgent
  (repeat' split) <;> first | rfl | simp [foldl_tks, apply_ite State.tks, apply_ite Prod.snd, apply_ite Prod.fst]
@[simp] theorem startUrgent_tim (trigger : Nat) (s : State) : (startUrgent trigger s).tim = s.tim := by
  unfold startUrgent
  (repeat' split) <;> first | rfl | simp [foldl_tim, apply_ite State.tim, apply_ite Prod.snd, apply_ite Prod.fst]
@[simp] theorem startUrgent_gnb (trigger : Nat) (s : State) : (startUrgent trigger s).gnb = s.gnb := by
  unfold startUrgent
  (repeat' split) <;> first | rfl | simp [foldl_gnb, apply_ite State.gnb, apply_ite Prod.snd, apply_ite Prod.fst]
@[simp] theorem startUrgent_dfc (trigger : Nat) (s : State) : (startUrgent trigger s).dfc = s.dfc := by
  unfold startUrgent
  (repeat' split) <;> first | rfl | simp [foldl_dfc, apply_ite State.dfc, apply_ite Prod.snd, apply_ite Prod.fst]
@[simp] theorem startUrgent_str (trigger : Nat) (s : State) : (startUrgent trigger s).str = s.str := by
  unfold startUrgent
  (repeat' split) <;> first | rfl | simp [foldl_str, apply_ite State.str, apply_ite Prod.snd, apply_ite Prod.fst]
@[simp] theorem startUrgent_fus (trigger : Nat) (s : State) : (startUrgent trigger s).fus = s.fus := by
  unfold startUrgent
  (repeat' split) <;> first | rfl | simp [foldl_fus, apply_ite State.fus, apply_ite Prod.snd, apply_ite Prod.fst]
@[simp] theorem startUrgent_saf (trigger : Nat) (s : State) : (startUrgent trigger s).saf = s.saf := by
  unfold startUrgent
  (repeat' split) <;> first | rfl | simp [foldl_saf, apply_ite State.saf, apply_ite Prod.snd, apply_ite Prod.fst]
@[simp] theorem startUrgent_rtc (trigger : Nat) (s : State) : (startUrgent trigger s).rtc = s.rtc := by
  unfold startUrgent
  (repeat' split) <;> first | rfl | simp [foldl_rtc, apply_ite State.rtc, apply_ite Prod.snd, apply_ite Prod.fst]
@[simp] theorem startUrgent_boot (trigger : Nat) (s : State) : (startUrgent trigger s).boot = s.boot := by
  unfold startUrgent
  (repeat' split) <;> first | rfl | simp [foldl_boot, apply_ite State.boot, apply_ite Prod.snd, apply_ite Prod.fst]
@[simp] theorem startUrgent_pin (trigger : Nat) (s : State) : (startUrgent trigger s).pin = s.pin := by
  unfold startUrgent
  (repeat' split) <;> first | rfl | simp [foldl_pin, apply_ite State.pin, apply_ite Prod.snd, apply_ite Prod.fst]
@[simp] theorem startUrgent_mspi (trigger : Nat) (s : State) : (startUrgent trigger s).mspi = s.mspi := by
  unfold startUrgent
  (repeat' split) <;> first | rfl | simp [foldl_mspi, apply_ite State.mspi, apply_ite Prod.snd, apply_ite Prod.fst]
@[simp] theorem startUrgent_twn (trigger : Nat) (s : State) : (startUrgent trigger s).twn = s.twn := by
  unfold startUrgent
  (repeat' split) <;> first | rfl | simp [foldl_twn, apply_ite State.twn, apply_ite Prod.snd, apply_ite Prod.fst]
@[simp] theorem startUrgent_pcl (trigger : Nat) (s : State) : (startUrgent trigger s).pcl = s.pcl := by
  unfold startUrgent
  (repeat' split) <;> first | rfl | simp [foldl_pcl, apply_ite State.pcl, apply_ite Prod.snd, apply_ite Prod.fst]
@[simp] theorem startUrgent_als (trigger : Nat) (s : State) : (startUrgent trigger s).als = s.als := by
  unfold startUrgent
  (repeat' split) <;> first | rfl | simp [foldl_als, apply_ite State.als, apply_ite Prod.snd, apply_ite Prod.fst]
@[simp] theorem startUrgent_srv (trigger : Nat) (s : State) : (startUrgent trigger s).srv = s.srv := by
  unfold startUrgent
  (repeat' split) <;> first | rfl | simp [foldl_srv, apply_ite State.srv, apply_ite Prod.snd, apply_ite Prod.fst]
@[simp] theorem startUrgent_mbcs (trigger : Nat) (s : State) : (startUrgent trigger s).mbcs = s.mbcs := by
  unfold startUrgent
  (repeat' split) <;> first | rfl | simp [foldl_mbcs, apply_ite State.mbcs, apply_ite Prod.snd, apply_ite Prod.fst]
@[simp] theorem startUrgent_bus (trigger : Nat) (s : State) : (startUrgent trigger s).bus = s.bus := by
  unfold startUrgent
  (repeat' split) <;> first | rfl | simp [foldl_bus, apply_ite State.bus, apply_ite Prod.snd, apply_ite Prod.fst]
@[simp] theorem startUrgent_net (trigger : Nat) (s : State) : (startUrgent trigger s).net = s.net := by
  unfold startUrgent
  (repeat' split) <;> first | rfl | simp [foldl_net, apply_ite State.net, apply_ite Prod.snd, apply_ite Prod.fst]
@[simp] theorem startUrgent_pim (trigger : Nat) (s : State) : (startUrgent trigger s).pim = s.pim := by
  unfold startUrgent
  (repeat' split) <;> first | rfl | simp [foldl_pim, apply_ite State.pim, apply_ite Prod.snd, apply_ite Prod.fst]
@[simp] theorem startUrgent_flash (trigger : Nat) (s : State) : (startUrgent trigger s).flash = s.flash := by
  unfold startUrgent
  (repeat' split) <;> first | rfl | simp [foldl_flash, apply_ite State.flash, apply_ite Prod.snd, apply_ite Prod.fst]
@[simp] theorem startUrgent_image (trigger : Nat) (s : State) : (startUrgent trigger s).image = s.image := by
  unfold startUrgent
  (repeat' split) <;> first | rfl | simp [foldl_image, apply_ite State.image, apply_ite Prod.snd, apply_ite Prod.fst]
@[simp] theorem startUrgent_imageOk (trigger : Nat) (s : State) : (startUrgent trigger s).imageOk = s.imageOk := by
  unfold startUrgent
  (repeat' split) <;> first | rfl | simp [foldl_imageOk, apply_ite State.imageOk, apply_ite Prod.snd, apply_ite Prod.fst]
@[simp] theorem startUrgent_draws (trigger : Nat) (s : State) : (startUrgent trigger s).draws = s.draws := by
  unfold startUrgent
  (repeat' split) <;> first | rfl | simp [foldl_draws, apply_ite State.draws, apply_ite Prod.snd, apply_ite Prod.fst]
@[simp] theorem startUrgent_out (trigger : Nat) (s : State) : (startUrgent trigger s).out = s.out := by
  unfold startUrgent
  (repeat' split) <;> first | rfl | simp [foldl_out, apply_ite State.out, apply_ite Prod.snd, apply_ite Prod.fst]
@[simp] theorem startUrgent_pending (trigger : Nat) (s : State) : (startUrgent trigger s).pending = s.pending := by
  unfold startUrgent
  (repeat' split) <;> first | rfl | simp [foldl_pending, apply_ite State.pending, apply_ite Prod.snd, apply_ite Prod.fst]
@[simp] theorem armWatchdogs_sys (s : State) : (armWatchdogs s).sys = s.sys := by
  unfold armWatchdogs
  (repeat' split) <;> first | rfl | simp [foldl_sys, apply_ite State.sys, apply_ite Prod.snd, apply_ite Prod.fst]
@[simp] theorem armWatchdogs_clk (s : State) : (armWatchdogs s).clk = s.clk := by
  unfold armWatchdogs
  (repeat' split) <;> first | rfl | simp [foldl_clk, apply_ite State.clk, apply_ite Prod.snd, apply_ite Prod.fst]
@[simp] theorem armWatchdogs_tks (s : State) : (armWatchdogs s).tks = s.tks := by
  unfold armWatchdogs
  (repeat' split) <;> first | rfl | simp [foldl_tks, apply_ite State.tks, apply_ite Prod.snd, apply_ite Prod.fst]
@[simp] theorem armWatchdogs_tim (s : State) : (armWatchdogs s).tim = s.tim := by
  unfold armWatchdogs
  (repeat' split) <;> first | rfl | simp [foldl_tim, apply_ite State.tim, apply_ite Prod.snd, apply_ite Prod.fst]
@[simp] theorem armWatchdogs_gnb (s : State) : (armWatchdogs s).gnb = s.gnb := by
  unfold armWatchdogs
  (repeat' split) <;> first | rfl | simp [foldl_gnb, apply_ite State.gnb, apply_ite Prod.snd, apply_ite Prod.fst]
@[simp] theorem armWatchdogs_dfc (s : State) : (armWatchdogs s).dfc = s.dfc := by
  unfold armWatchdogs
  (repeat' split) <;> first | rfl | simp [foldl_dfc, apply_ite State.dfc, apply_ite Prod.snd, apply_ite Prod.fst]
@[simp] theorem armWatchdogs_str (s : State) : (armWatchdogs s).str = s.str := by
  unfold armWatchdogs
  (repeat' split) <;> first | rfl | simp [foldl_str, apply_ite State.str, apply_ite Prod.snd, apply_ite Prod.fst]
@[simp] theorem armWatchdogs_fus (s : State) : (armWatchdogs s).fus = s.fus := by
  unfold armWatchdogs
  (repeat' split) <;> first | rfl | simp [foldl_fus, apply_ite State.fus, apply_ite Prod.snd, apply_ite Prod.fst]
@[simp] theorem armWatchdogs_evr (s : State) : (armWatchdogs s).evr = s.evr := by
  unfold armWatchdogs
  (repeat' split) <;> first | rfl | simp [foldl_evr, apply_ite State.evr, apply_ite Prod.snd, apply_ite Prod.fst]
@[simp] theorem armWatchdogs_rtc (s : State) : (armWatchdogs s).rtc = s.rtc := by
  unfold armWatchdogs
  (repeat' split) <;> first | rfl | simp [foldl_rtc, apply_ite State.rtc, apply_ite Prod.snd, apply_ite Prod.fst]
@[simp] theorem armWatchdogs_boot (s : State) : (armWatchdogs s).boot = s.boot := by
  unfold armWatchdogs
  (repeat' split) <;> first | rfl | simp [foldl_boot, apply_ite State.boot, apply_ite Prod.snd, apply_ite Prod.fst]
@[simp] theorem armWatchdogs_pin (s : State) : (armWatchdogs s).pin = s.pin := by
  unfold armWatchdogs
  (repeat' split) <;> first | rfl | simp [foldl_pin, apply_ite State.pin, apply_ite Prod.snd, apply_ite Prod.fst]
@[simp] theorem armWatchdogs_mspi (s : State) : (armWatchdogs s).mspi = s.mspi := by
  unfold armWatchdogs
  (repeat' split) <;> first | rfl | simp [foldl_mspi, apply_ite State.mspi, apply_ite Prod.snd, apply_ite Prod.fst]
@[simp] theorem armWatchdogs_twn (s : State) : (armWatchdogs s).twn = s.twn := by
  unfold armWatchdogs
  (repeat' split) <;> first | rfl | simp [foldl_twn, apply_ite State.twn, apply_ite Prod.snd, apply_ite Prod.fst]
@[simp] theorem armWatchdogs_pcl (s : State) : (armWatchdogs s).pcl = s.pcl := by
  unfold armWatchdogs
  (repeat' split) <;> first | rfl | simp [foldl_pcl, apply_ite State.pcl, apply_ite Prod.snd, apply_ite Prod.fst]
@[simp] theorem armWatchdogs_als (s : State) : (armWatchdogs s).als = s.als := by
  unfold armWatchdogs
  (repeat' split) <;> first | rfl | simp [foldl_als, apply_ite State.als, apply_ite Prod.snd, apply_ite Prod.fst]
@[simp] theorem armWatchdogs_srv (s : State) : (armWatchdogs s).srv = s.srv := by
  unfold armWatchdogs
  (repeat' split) <;> first | rfl | simp [foldl_srv, apply_ite State.srv, apply_ite Prod.snd, apply_ite Prod.fst]
@[simp] theorem armWatchdogs_mbcs (s : State) : (armWatchdogs s).mbcs = s.mbcs := by
  unfold armWatchdogs
  (repeat' split) <;> first | rfl | simp [foldl_mbcs, apply_ite State.mbcs, apply_ite Prod.snd, apply_ite Prod.fst]
@[simp] theorem armWatchdogs_bus (s : State) : (armWatchdogs s).bus = s.bus := by
  unfold armWatchdogs
  (repeat' split) <;> first | rfl | simp [foldl_bus, apply_ite State.bus, apply_ite Prod.snd, apply_ite Prod.fst]
@[simp] theorem armWatchdogs_net (s : State) : (armWatchdogs s).net = s.net := by
  unfold armWatchdogs
  (repeat' split) <;> first | rfl | simp [foldl_net, apply_ite State.net, apply_ite Prod.snd, apply_ite Prod.fst]
@[simp] theorem armWatchdogs_pim (s : State) : (armWatchdogs s).pim = s.pim := by
  unfold armWatchdogs
  (repeat' split) <;> first | rfl | simp [foldl_pim, apply_ite State.pim, apply_ite Prod.snd, apply_ite Prod.fst]
@[simp] theorem armWatchdogs_flash (s : State) : (armWatchdogs s).flash = s.flash := by
  unfold armWatchdogs
  (repeat' split) <;> first | rfl | simp [foldl_flash, apply_ite State.flash, apply_ite Prod.snd, apply_ite Prod.fst]
@[simp] theorem armWatchdogs_image (s : State) : (armWatchdogs s).image = s.image := by
  unfold armWatchdogs
  (repeat' split) <;> first | rfl | simp [foldl_image, apply_ite State.image, apply_ite Prod.snd, apply_ite Prod.fst]
@[simp] theorem armWatchdogs_imageOk (s : State) : (armWatchdogs s).imageOk = s.imageOk := by
  unfold armWatchdogs
  (repeat' split) <;> first | rfl | simp [foldl_imageOk, apply_ite State.imageOk, apply_ite Prod.snd, apply_ite Prod.fst]
@[simp] theorem armWatchdogs_draws (s : State) : (armWatchdogs s).draws = s.draws := by
  unfold armWatchdogs
  (repeat' split) <;> first | rfl | simp [foldl_draws, apply_ite State.draws, apply_ite Prod.snd, apply_ite Prod.fst]
@[simp] theorem armWatchdogs_out (s : State) : (armWatchdogs s).out = s.out := by
  unfold armWatchdogs
  (repeat' split) <;> first | rfl | simp [foldl_out, apply_ite State.out, apply_ite Prod.snd, apply_ite Prod.fst]
@[simp] theorem armWatchdogs_pending (s : State) : (armWatchdogs s).pending = s.pending := by
  unfold armWatchdogs
  (repeat' split) <;> first | rfl | simp [foldl_pending, apply_ite State.pending, apply_ite Prod.snd, apply_ite Prod.fst]
@[simp] theorem enterFailed_clk (cause : Nat) (s : State) : (enterFailed cause s).clk = s.clk := by
  unfold enterFailed
  (repeat' split) <;> first | rfl | simp [foldl_clk, apply_ite State.clk, apply_ite Prod.snd, apply_ite Prod.fst]
@[simp] theorem enterFailed_tks (cause : Nat) (s : State) : (enterFailed cause s).tks = s.tks := by
  unfold enterFailed
  (repeat' split) <;> first | rfl | simp [foldl_tks, apply_ite State.tks, apply_ite Prod.snd, apply_ite Prod.fst]
@[simp] theorem enterFailed_gnb (cause : Nat) (s : State) : (enterFailed cause s).gnb = s.gnb := by
  unfold enterFailed
  (repeat' split) <;> first | rfl | simp [foldl_gnb, apply_ite State.gnb, apply_ite Prod.snd, apply_ite Prod.fst]
@[simp] theorem enterFailed_dfc (cause : Nat) (s : State) : (enterFailed cause s).dfc = s.dfc := by
  unfold enterFailed
  (repeat' split) <;> first | rfl | simp [foldl_dfc, apply_ite State.dfc, apply_ite Prod.snd, apply_ite Prod.fst]
@[simp] theorem enterFailed_str (cause : Nat) (s : State) : (enterFailed cause s).str = s.str := by
  unfold enterFailed
  (repeat' split) <;> first | rfl | simp [foldl_str, apply_ite State.str, apply_ite Prod.snd, apply_ite Prod.fst]
@[simp] theorem enterFailed_fus (cause : Nat) (s : State) : (enterFailed cause s).fus = s.fus := by
  unfold enterFailed
  (repeat' split) <;> first | rfl | simp [foldl_fus, apply_ite State.fus, apply_ite Prod.snd, apply_ite Prod.fst]
@[simp] theorem enterFailed_boot (cause : Nat) (s : State) : (enterFailed cause s).boot = s.boot := by
  unfold enterFailed
  (repeat' split) <;> first | rfl | simp [foldl_boot, apply_ite State.boot, apply_ite Prod.snd, apply_ite Prod.fst]
@[simp] theorem enterFailed_pin (cause : Nat) (s : State) : (enterFailed cause s).pin = s.pin := by
  unfold enterFailed
  (repeat' split) <;> first | rfl | simp [foldl_pin, apply_ite State.pin, apply_ite Prod.snd, apply_ite Prod.fst]
@[simp] theorem enterFailed_mspi (cause : Nat) (s : State) : (enterFailed cause s).mspi = s.mspi := by
  unfold enterFailed
  (repeat' split) <;> first | rfl | simp [foldl_mspi, apply_ite State.mspi, apply_ite Prod.snd, apply_ite Prod.fst]
@[simp] theorem enterFailed_twn (cause : Nat) (s : State) : (enterFailed cause s).twn = s.twn := by
  unfold enterFailed
  (repeat' split) <;> first | rfl | simp [foldl_twn, apply_ite State.twn, apply_ite Prod.snd, apply_ite Prod.fst]
@[simp] theorem enterFailed_pcl (cause : Nat) (s : State) : (enterFailed cause s).pcl = s.pcl := by
  unfold enterFailed
  (repeat' split) <;> first | rfl | simp [foldl_pcl, apply_ite State.pcl, apply_ite Prod.snd, apply_ite Prod.fst]
@[simp] theorem enterFailed_als (cause : Nat) (s : State) : (enterFailed cause s).als = s.als := by
  unfold enterFailed
  (repeat' split) <;> first | rfl | simp [foldl_als, apply_ite State.als, apply_ite Prod.snd, apply_ite Prod.fst]
@[simp] theorem enterFailed_srv (cause : Nat) (s : State) : (enterFailed cause s).srv = s.srv := by
  unfold enterFailed
  (repeat' split) <;> first | rfl | simp [foldl_srv, apply_ite State.srv, apply_ite Prod.snd, apply_ite Prod.fst]
@[simp] theorem enterFailed_bus (cause : Nat) (s : State) : (enterFailed cause s).bus = s.bus := by
  unfold enterFailed
  (repeat' split) <;> first | rfl | simp [foldl_bus, apply_ite State.bus, apply_ite Prod.snd, apply_ite Prod.fst]
@[simp] theorem enterFailed_flash (cause : Nat) (s : State) : (enterFailed cause s).flash = s.flash := by
  unfold enterFailed
  (repeat' split) <;> first | rfl | simp [foldl_flash, apply_ite State.flash, apply_ite Prod.snd, apply_ite Prod.fst]
@[simp] theorem enterFailed_image (cause : Nat) (s : State) : (enterFailed cause s).image = s.image := by
  unfold enterFailed
  (repeat' split) <;> first | rfl | simp [foldl_image, apply_ite State.image, apply_ite Prod.snd, apply_ite Prod.fst]
@[simp] theorem enterFailed_imageOk (cause : Nat) (s : State) : (enterFailed cause s).imageOk = s.imageOk := by
  unfold enterFailed
  (repeat' split) <;> first | rfl | simp [foldl_imageOk, apply_ite State.imageOk, apply_ite Prod.snd, apply_ite Prod.fst]
@[simp] theorem enterFailed_draws (cause : Nat) (s : State) : (enterFailed cause s).draws = s.draws := by
  unfold enterFailed
  (repeat' split) <;> first | rfl | simp [foldl_draws, apply_ite State.draws, apply_ite Prod.snd, apply_ite Prod.fst]
@[simp] theorem enterFailed_pending (cause : Nat) (s : State) : (enterFailed cause s).pending = s.pending := by
  unfold enterFailed
  (repeat' split) <;> first | rfl | simp [foldl_pending, apply_ite State.pending, apply_ite Prod.snd, apply_ite Prod.fst]
@[simp] theorem outputsOff_clk (fid : Nat) (s : State) : (outputsOff fid s).clk = s.clk := by
  unfold outputsOff
  (repeat' split) <;> first | rfl | simp [foldl_clk, apply_ite State.clk, apply_ite Prod.snd, apply_ite Prod.fst]
@[simp] theorem outputsOff_tks (fid : Nat) (s : State) : (outputsOff fid s).tks = s.tks := by
  unfold outputsOff
  (repeat' split) <;> first | rfl | simp [foldl_tks, apply_ite State.tks, apply_ite Prod.snd, apply_ite Prod.fst]
@[simp] theorem outputsOff_gnb (fid : Nat) (s : State) : (outputsOff fid s).gnb = s.gnb := by
  unfold outputsOff
  (repeat' split) <;> first | rfl | simp [foldl_gnb, apply_ite State.gnb, apply_ite Prod.snd, apply_ite Prod.fst]
@[simp] theorem outputsOff_dfc (fid : Nat) (s : State) : (outputsOff fid s).dfc = s.dfc := by
  unfold outputsOff
  (repeat' split) <;> first | rfl | simp [foldl_dfc, apply_ite State.dfc, apply_ite Prod.snd, apply_ite Prod.fst]
@[simp] theorem outputsOff_str (fid : Nat) (s : State) : (outputsOff fid s).str = s.str := by
  unfold outputsOff
  (repeat' split) <;> first | rfl | simp [foldl_str, apply_ite State.str, apply_ite Prod.snd, apply_ite Prod.fst]
@[simp] theorem outputsOff_fus (fid : Nat) (s : State) : (outputsOff fid s).fus = s.fus := by
  unfold outputsOff
  (repeat' split) <;> first | rfl | simp [foldl_fus, apply_ite State.fus, apply_ite Prod.snd, apply_ite Prod.fst]
@[simp] theorem outputsOff_boot (fid : Nat) (s : State) : (outputsOff fid s).boot = s.boot := by
  unfold outputsOff
  (repeat' split) <;> first | rfl | simp [foldl_boot, apply_ite State.boot, apply_ite Prod.snd, apply_ite Prod.fst]
@[simp] theorem outputsOff_pin (fid : Nat) (s : State) : (outputsOff fid s).pin = s.pin := by
  unfold outputsOff
  (repeat' split) <;> first | rfl | simp [foldl_pin, apply_ite State.pin, apply_ite Prod.snd, apply_ite Prod.fst]
@[simp] theorem outputsOff_mspi (fid : Nat) (s : State) : (outputsOff fid s).mspi = s.mspi := by
  unfold outputsOff
  (repeat' split) <;> first | rfl | simp [foldl_mspi, apply_ite State.mspi, apply_ite Prod.snd, apply_ite Prod.fst]
@[simp] theorem outputsOff_twn (fid : Nat) (s : State) : (outputsOff fid s).twn = s.twn := by
  unfold outputsOff
  (repeat' split) <;> first | rfl | simp [foldl_twn, apply_ite State.twn, apply_ite Prod.snd, apply_ite Prod.fst]
@[simp] theorem outputsOff_pcl (fid : Nat) (s : State) : (outputsOff fid s).pcl = s.pcl := by
  unfold outputsOff
  (repeat' split) <;> first | rfl | simp [foldl_pcl, apply_ite State.pcl, apply_ite Prod.snd, apply_ite Prod.fst]
@[simp] theorem outputsOff_als (fid : Nat) (s : State) : (outputsOff fid s).als = s.als := by
  unfold outputsOff
  (repeat' split) <;> first | rfl | simp [foldl_als, apply_ite State.als, apply_ite Prod.snd, apply_ite Prod.fst]
@[simp] theorem outputsOff_srv (fid : Nat) (s : State) : (outputsOff fid s).srv = s.srv := by
  unfold outputsOff
  (repeat' split) <;> first | rfl | simp [foldl_srv, apply_ite State.srv, apply_ite Prod.snd, apply_ite Prod.fst]
@[simp] theorem outputsOff_bus (fid : Nat) (s : State) : (outputsOff fid s).bus = s.bus := by
  unfold outputsOff
  (repeat' split) <;> first | rfl | simp [foldl_bus, apply_ite State.bus, apply_ite Prod.snd, apply_ite Prod.fst]
@[simp] theorem outputsOff_flash (fid : Nat) (s : State) : (outputsOff fid s).flash = s.flash := by
  unfold outputsOff
  (repeat' split) <;> first | rfl | simp [foldl_flash, apply_ite State.flash, apply_ite Prod.snd, apply_ite Prod.fst]
@[simp] theorem outputsOff_image (fid : Nat) (s : State) : (outputsOff fid s).image = s.image := by
  unfold outputsOff
  (repeat' split) <;> first | rfl | simp [foldl_image, apply_ite State.image, apply_ite Prod.snd, apply_ite Prod.fst]
@[simp] theorem outputsOff_imageOk (fid : Nat) (s : State) : (outputsOff fid s).imageOk = s.imageOk := by
  unfold outputsOff
  (repeat' split) <;> first | rfl | simp [foldl_imageOk, apply_ite State.imageOk, apply_ite Prod.snd, apply_ite Prod.fst]
@[simp] theorem outputsOff_draws (fid : Nat) (s : State) : (outputsOff fid s).draws = s.draws := by
  unfold outputsOff
  (repeat' split) <;> first | rfl | simp [foldl_draws, apply_ite State.draws, apply_ite Prod.snd, apply_ite Prod.fst]
@[simp] theorem outputsOff_pending (fid : Nat) (s : State) : (outputsOff fid s).pending = s.pending := by
  unfold outputsOff
  (repeat' split) <;> first | rfl | simp [foldl_pending, apply_ite State.pending, apply_ite Prod.snd, apply_ite Prod.fst]
@[simp] theorem raiseFault_clk (fid : Nat) (s : State) : (raiseFault fid s).clk = s.clk := by
  unfold raiseFault
  (repeat' split) <;> first | rfl | simp [foldl_clk, apply_ite State.clk, apply_ite Prod.snd, apply_ite Prod.fst]
@[simp] theorem raiseFault_tks (fid : Nat) (s : State) : (raiseFault fid s).tks = s.tks := by
  unfold raiseFault
  (repeat' split) <;> first | rfl | simp [foldl_tks, apply_ite State.tks, apply_ite Prod.snd, apply_ite Prod.fst]
@[simp] theorem raiseFault_gnb (fid : Nat) (s : State) : (raiseFault fid s).gnb = s.gnb := by
  unfold raiseFault
  (repeat' split) <;> first | rfl | simp [foldl_gnb, apply_ite State.gnb, apply_ite Prod.snd, apply_ite Prod.fst]
@[simp] theorem raiseFault_dfc (fid : Nat) (s : State) : (raiseFault fid s).dfc = s.dfc := by
  unfold raiseFault
  (repeat' split) <;> first | rfl | simp [foldl_dfc, apply_ite State.dfc, apply_ite Prod.snd, apply_ite Prod.fst]
@[simp] theorem raiseFault_str (fid : Nat) (s : State) : (raiseFault fid s).str = s.str := by
  unfold raiseFault
  (repeat' split) <;> first | rfl | simp [foldl_str, apply_ite State.str, apply_ite Prod.snd, apply_ite Prod.fst]
@[simp] theorem raiseFault_fus (fid : Nat) (s : State) : (raiseFault fid s).fus = s.fus := by
  unfold raiseFault
  (repeat' split) <;> first | rfl | simp [foldl_fus, apply_ite State.fus, apply_ite Prod.snd, apply_ite Prod.fst]
@[simp] theorem raiseFault_boot (fid : Nat) (s : State) : (raiseFault fid s).boot = s.boot := by
  unfold raiseFault
  (repeat' split) <;> first | rfl | simp [foldl_boot, apply_ite State.boot, apply_ite Prod.snd, apply_ite Prod.fst]
@[simp] theorem raiseFault_pin (fid : Nat) (s : State) : (raiseFault fid s).pin = s.pin := by
  unfold raiseFault
  (repeat' split) <;> first | rfl | simp [foldl_pin, apply_ite State.pin, apply_ite Prod.snd, apply_ite Prod.fst]
@[simp] theorem raiseFault_mspi (fid : Nat) (s : State) : (raiseFault fid s).mspi = s.mspi := by
  unfold raiseFault
  (repeat' split) <;> first | rfl | simp [foldl_mspi, apply_ite State.mspi, apply_ite Prod.snd, apply_ite Prod.fst]
@[simp] theorem raiseFault_pcl (fid : Nat) (s : State) : (raiseFault fid s).pcl = s.pcl := by
  unfold raiseFault
  (repeat' split) <;> first | rfl | simp [foldl_pcl, apply_ite State.pcl, apply_ite Prod.snd, apply_ite Prod.fst]
@[simp] theorem raiseFault_als (fid : Nat) (s : State) : (raiseFault fid s).als = s.als := by
  unfold raiseFault
  (repeat' split) <;> first | rfl | simp [foldl_als, apply_ite State.als, apply_ite Prod.snd, apply_ite Prod.fst]
@[simp] theorem raiseFault_srv (fid : Nat) (s : State) : (raiseFault fid s).srv = s.srv := by
  unfold raiseFault
  (repeat' split) <;> first | rfl | simp [foldl_srv, apply_ite State.srv, apply_ite Prod.snd, apply_ite Prod.fst]
@[simp] theorem raiseFault_bus (fid : Nat) (s : State) : (raiseFault fid s).bus = s.bus := by
  unfold raiseFault
  (repeat' split) <;> first | rfl | simp [foldl_bus, apply_ite State.bus, apply_ite Prod.snd, apply_ite Prod.fst]
@[simp] theorem raiseFault_flash (fid : Nat) (s : State) : (raiseFault fid s).flash = s.flash := by
  unfold raiseFault
  (repeat' split) <;> first | rfl | simp [foldl_flash, apply_ite State.flash, apply_ite Prod.snd, apply_ite Prod.fst]
@[simp] theorem raiseFault_image (fid : Nat) (s : State) : (raiseFault fid s).image = s.image := by
  unfold raiseFault
  (repeat' split) <;> first | rfl | simp [foldl_image, apply_ite State.image, apply_ite Prod.snd, apply_ite Prod.fst]
@[simp] theorem raiseFault_imageOk (fid : Nat) (s : State) : (raiseFault fid s).imageOk = s.imageOk := by
  unfold raiseFault
  (repeat' split) <;> first | rfl | simp [foldl_imageOk, apply_ite State.imageOk, apply_ite Prod.snd, apply_ite Prod.fst]
@[simp] theorem raiseFault_draws (fid : Nat) (s : State) : (raiseFault fid s).draws = s.draws := by
  unfold raiseFault
  (repeat' split) <;> first | rfl | simp [foldl_draws, apply_ite State.draws, apply_ite Prod.snd, apply_ite Prod.fst]
@[simp] theorem raiseFault_pending (fid : Nat) (s : State) : (raiseFault fid s).pending = s.pending := by
  unfold raiseFault
  (repeat' split) <;> first | rfl | simp [foldl_pending, apply_ite State.pending, apply_ite Prod.snd, apply_ite Prod.fst]
@[simp] theorem clearFault_sys (fid : Nat) (s : State) : (clearFault fid s).sys = s.sys := by
  unfold clearFault
  (repeat' split) <;> first | rfl | simp [foldl_sys, apply_ite State.sys, apply_ite Prod.snd, apply_ite Prod.fst]
@[simp] theorem clearFault_clk (fid : Nat) (s : State) : (clearFault fid s).clk = s.clk := by
  unfold clearFault
  (repeat' split) <;> first | rfl | simp [foldl_clk, apply_ite State.clk, apply_ite Prod.snd, apply_ite Prod.fst]
@[simp] theorem clearFault_tks (fid : Nat) (s : State) : (clearFault fid s).tks = s.tks := by
  unfold clearFault
  (repeat' split) <;> first | rfl | simp [foldl_tks, apply_ite State.tks, apply_ite Prod.snd, apply_ite Prod.fst]
@[simp] theorem clearFault_tim (fid : Nat) (s : State) : (clearFault fid s).tim = s.tim := by
  unfold clearFault
  (repeat' split) <;> first | rfl | simp [foldl_tim, apply_ite State.tim, apply_ite Prod.snd, apply_ite Prod.fst]
@[simp] theorem clearFault_gnb (fid : Nat) (s : State) : (clearFault fid s).gnb = s.gnb := by
  unfold clearFault
  (repeat' split) <;> first | rfl | simp [foldl_gnb, apply_ite State.gnb, apply_ite Prod.snd, apply_ite Prod.fst]
@[simp] theorem clearFault_dfc (fid : Nat) (s : State) : (clearFault fid s).dfc = s.dfc := by
  unfold clearFault
  (repeat' split) <;> first | rfl | simp [foldl_dfc, apply_ite State.dfc, apply_ite Prod.snd, apply_ite Prod.fst]
@[simp] theorem clearFault_str (fid : Nat) (s : State) : (clearFault fid s).str = s.str := by
  unfold clearFault
  (repeat' split) <;> first | rfl | simp [foldl_str, apply_ite State.str, apply_ite Prod.snd, apply_ite Prod.fst]
@[simp] theorem clearFault_fus (fid : Nat) (s : State) : (clearFault fid s).fus = s.fus := by
  unfold clearFault
  (repeat' split) <;> first | rfl | simp [foldl_fus, apply_ite State.fus, apply_ite Prod.snd, apply_ite Prod.fst]
@[simp] theorem clearFault_evr (fid : Nat) (s : State) : (clearFault fid s).evr = s.evr := by
  unfold clearFault
  (repeat' split) <;> first | rfl | simp [foldl_evr, apply_ite State.evr, apply_ite Prod.snd, apply_ite Prod.fst]
@[simp] theorem clearFault_rtc (fid : Nat) (s : State) : (clearFault fid s).rtc = s.rtc := by
  unfold clearFault
  (repeat' split) <;> first | rfl | simp [foldl_rtc, apply_ite State.rtc, apply_ite Prod.snd, apply_ite Prod.fst]
@[simp] theorem clearFault_boot (fid : Nat) (s : State) : (clearFault fid s).boot = s.boot := by
  unfold clearFault
  (repeat' split) <;> first | rfl | simp [foldl_boot, apply_ite State.boot, apply_ite Prod.snd, apply_ite Prod.fst]
@[simp] theorem clearFault_pin (fid : Nat) (s : State) : (clearFault fid s).pin = s.pin := by
  unfold clearFault
  (repeat' split) <;> first | rfl | simp [foldl_pin, apply_ite State.pin, apply_ite Prod.snd, apply_ite Prod.fst]
@[simp] theorem clearFault_mspi (fid : Nat) (s : State) : (clearFault fid s).mspi = s.mspi := by
  unfold clearFault
  (repeat' split) <;> first | rfl | simp [foldl_mspi, apply_ite State.mspi, apply_ite Prod.snd, apply_ite Prod.fst]
@[simp] theorem clearFault_twn (fid : Nat) (s : State) : (clearFault fid s).twn = s.twn := by
  unfold clearFault
  (repeat' split) <;> first | rfl | simp [foldl_twn, apply_ite State.twn, apply_ite Prod.snd, apply_ite Prod.fst]
@[simp] theorem clearFault_pcl (fid : Nat) (s : State) : (clearFault fid s).pcl = s.pcl := by
  unfold clearFault
  (repeat' split) <;> first | rfl | simp [foldl_pcl, apply_ite State.pcl, apply_ite Prod.snd, apply_ite Prod.fst]
@[simp] theorem clearFault_als (fid : Nat) (s : State) : (clearFault fid s).als = s.als := by
  unfold clearFault
  (repeat' split) <;> first | rfl | simp [foldl_als, apply_ite State.als, apply_ite Prod.snd, apply_ite Prod.fst]
@[simp] theorem clearFault_srv (fid : Nat) (s : State) : (clearFault fid s).srv = s.srv := by
  unfold clearFault
  (repeat' split) <;> first | rfl | simp [foldl_srv, apply_ite State.srv, apply_ite Prod.snd, apply_ite Prod.fst]
@[simp] theorem clearFault_mbcs (fid : Nat) (s : State) : (clearFault fid s).mbcs = s.mbcs := by
  unfold clearFault
  (repeat' split) <;> first | rfl | simp [foldl_mbcs, apply_ite State.mbcs, apply_ite Prod.snd, apply_ite Prod.fst]
@[simp] theorem clearFault_bus (fid : Nat) (s : State) : (clearFault fid s).bus = s.bus := by
  unfold clearFault
  (repeat' split) <;> first | rfl | simp [foldl_bus, apply_ite State.bus, apply_ite Prod.snd, apply_ite Prod.fst]
@[simp] theorem clearFault_net (fid : Nat) (s : State) : (clearFault fid s).net = s.net := by
  unfold clearFault
  (repeat' split) <;> first | rfl | simp [foldl_net, apply_ite State.net, apply_ite Prod.snd, apply_ite Prod.fst]
@[simp] theorem clearFault_pim (fid : Nat) (s : State) : (clearFault fid s).pim = s.pim := by
  unfold clearFault
  (repeat' split) <;> first | rfl | simp [foldl_pim, apply_ite State.pim, apply_ite Prod.snd, apply_ite Prod.fst]
@[simp] theorem clearFault_flash (fid : Nat) (s : State) : (clearFault fid s).flash = s.flash := by
  unfold clearFault
  (repeat' split) <;> first | rfl | simp [foldl_flash, apply_ite State.flash, apply_ite Prod.snd, apply_ite Prod.fst]
@[simp] theorem clearFault_image (fid : Nat) (s : State) : (clearFault fid s).image = s.image := by
  unfold clearFault
  (repeat' split) <;> first | rfl | simp [foldl_image, apply_ite State.image, apply_ite Prod.snd, apply_ite Prod.fst]
@[simp] theorem clearFault_imageOk (fid : Nat) (s : State) : (clearFault fid s).imageOk = s.imageOk := by
  unfold clearFault
  (repeat' split) <;> first | rfl | simp [foldl_imageOk, apply_ite State.imageOk, apply_ite Prod.snd, apply_ite Prod.fst]
@[simp] theorem clearFault_draws (fid : Nat) (s : State) : (clearFault fid s).draws = s.draws := by
  unfold clearFault
  (repeat' split) <;> first | rfl | simp [foldl_draws, apply_ite State.draws, apply_ite Prod.snd, apply_ite Prod.fst]
@[simp] theorem clearFault_out (fid : Nat) (s : State) : (clearFault fid s).out = s.out := by
  unfold clearFault
  (repeat' split) <;> first | rfl | simp [foldl_out, apply_ite State.out, apply_ite Prod.snd, apply_ite Prod.fst]
@[simp] theorem clearFault_pending (fid : Nat) (s : State) : (clearFault fid s).pending = s.pending := by
  unfold clearFault
  (repeat' split) <;> first | rfl | simp [foldl_pending, apply_ite State.pending, apply_ite Prod.snd, apply_ite Prod.fst]
@[simp] theorem freezeMaster_sys (m cause : Nat) (write : Bool) (detail : Word) (s : State) : (freezeMaster m cause write detail s).sys = s.sys := by
  unfold freezeMaster
  (repeat' split) <;> first | rfl | simp [foldl_sys, apply_ite State.sys, apply_ite Prod.snd, apply_ite Prod.fst]
@[simp] theorem freezeMaster_clk (m cause : Nat) (write : Bool) (detail : Word) (s : State) : (freezeMaster m cause write detail s).clk = s.clk := by
  unfold freezeMaster
  (repeat' split) <;> first | rfl | simp [foldl_clk, apply_ite State.clk, apply_ite Prod.snd, apply_ite Prod.fst]
@[simp] theorem freezeMaster_tks (m cause : Nat) (write : Bool) (detail : Word) (s : State) : (freezeMaster m cause write detail s).tks = s.tks := by
  unfold freezeMaster
  (repeat' split) <;> first | rfl | simp [foldl_tks, apply_ite State.tks, apply_ite Prod.snd, apply_ite Prod.fst]
@[simp] theorem freezeMaster_tim (m cause : Nat) (write : Bool) (detail : Word) (s : State) : (freezeMaster m cause write detail s).tim = s.tim := by
  unfold freezeMaster
  (repeat' split) <;> first | rfl | simp [foldl_tim, apply_ite State.tim, apply_ite Prod.snd, apply_ite Prod.fst]
@[simp] theorem freezeMaster_gnb (m cause : Nat) (write : Bool) (detail : Word) (s : State) : (freezeMaster m cause write detail s).gnb = s.gnb := by
  unfold freezeMaster
  (repeat' split) <;> first | rfl | simp [foldl_gnb, apply_ite State.gnb, apply_ite Prod.snd, apply_ite Prod.fst]
@[simp] theorem freezeMaster_dfc (m cause : Nat) (write : Bool) (detail : Word) (s : State) : (freezeMaster m cause write detail s).dfc = s.dfc := by
  unfold freezeMaster
  (repeat' split) <;> first | rfl | simp [foldl_dfc, apply_ite State.dfc, apply_ite Prod.snd, apply_ite Prod.fst]
@[simp] theorem freezeMaster_str (m cause : Nat) (write : Bool) (detail : Word) (s : State) : (freezeMaster m cause write detail s).str = s.str := by
  unfold freezeMaster
  (repeat' split) <;> first | rfl | simp [foldl_str, apply_ite State.str, apply_ite Prod.snd, apply_ite Prod.fst]
@[simp] theorem freezeMaster_fus (m cause : Nat) (write : Bool) (detail : Word) (s : State) : (freezeMaster m cause write detail s).fus = s.fus := by
  unfold freezeMaster
  (repeat' split) <;> first | rfl | simp [foldl_fus, apply_ite State.fus, apply_ite Prod.snd, apply_ite Prod.fst]
@[simp] theorem freezeMaster_rtc (m cause : Nat) (write : Bool) (detail : Word) (s : State) : (freezeMaster m cause write detail s).rtc = s.rtc := by
  unfold freezeMaster
  (repeat' split) <;> first | rfl | simp [foldl_rtc, apply_ite State.rtc, apply_ite Prod.snd, apply_ite Prod.fst]
@[simp] theorem freezeMaster_boot (m cause : Nat) (write : Bool) (detail : Word) (s : State) : (freezeMaster m cause write detail s).boot = s.boot := by
  unfold freezeMaster
  (repeat' split) <;> first | rfl | simp [foldl_boot, apply_ite State.boot, apply_ite Prod.snd, apply_ite Prod.fst]
@[simp] theorem freezeMaster_pin (m cause : Nat) (write : Bool) (detail : Word) (s : State) : (freezeMaster m cause write detail s).pin = s.pin := by
  unfold freezeMaster
  (repeat' split) <;> first | rfl | simp [foldl_pin, apply_ite State.pin, apply_ite Prod.snd, apply_ite Prod.fst]
@[simp] theorem freezeMaster_mspi (m cause : Nat) (write : Bool) (detail : Word) (s : State) : (freezeMaster m cause write detail s).mspi = s.mspi := by
  unfold freezeMaster
  (repeat' split) <;> first | rfl | simp [foldl_mspi, apply_ite State.mspi, apply_ite Prod.snd, apply_ite Prod.fst]
@[simp] theorem freezeMaster_twn (m cause : Nat) (write : Bool) (detail : Word) (s : State) : (freezeMaster m cause write detail s).twn = s.twn := by
  unfold freezeMaster
  (repeat' split) <;> first | rfl | simp [foldl_twn, apply_ite State.twn, apply_ite Prod.snd, apply_ite Prod.fst]
@[simp] theorem freezeMaster_pcl (m cause : Nat) (write : Bool) (detail : Word) (s : State) : (freezeMaster m cause write detail s).pcl = s.pcl := by
  unfold freezeMaster
  (repeat' split) <;> first | rfl | simp [foldl_pcl, apply_ite State.pcl, apply_ite Prod.snd, apply_ite Prod.fst]
@[simp] theorem freezeMaster_als (m cause : Nat) (write : Bool) (detail : Word) (s : State) : (freezeMaster m cause write detail s).als = s.als := by
  unfold freezeMaster
  (repeat' split) <;> first | rfl | simp [foldl_als, apply_ite State.als, apply_ite Prod.snd, apply_ite Prod.fst]
@[simp] theorem freezeMaster_srv (m cause : Nat) (write : Bool) (detail : Word) (s : State) : (freezeMaster m cause write detail s).srv = s.srv := by
  unfold freezeMaster
  (repeat' split) <;> first | rfl | simp [foldl_srv, apply_ite State.srv, apply_ite Prod.snd, apply_ite Prod.fst]
@[simp] theorem freezeMaster_mbcs (m cause : Nat) (write : Bool) (detail : Word) (s : State) : (freezeMaster m cause write detail s).mbcs = s.mbcs := by
  unfold freezeMaster
  (repeat' split) <;> first | rfl | simp [foldl_mbcs, apply_ite State.mbcs, apply_ite Prod.snd, apply_ite Prod.fst]
@[simp] theorem freezeMaster_bus (m cause : Nat) (write : Bool) (detail : Word) (s : State) : (freezeMaster m cause write detail s).bus = s.bus := by
  unfold freezeMaster
  (repeat' split) <;> first | rfl | simp [foldl_bus, apply_ite State.bus, apply_ite Prod.snd, apply_ite Prod.fst]
@[simp] theorem freezeMaster_net (m cause : Nat) (write : Bool) (detail : Word) (s : State) : (freezeMaster m cause write detail s).net = s.net := by
  unfold freezeMaster
  (repeat' split) <;> first | rfl | simp [foldl_net, apply_ite State.net, apply_ite Prod.snd, apply_ite Prod.fst]
@[simp] theorem freezeMaster_pim (m cause : Nat) (write : Bool) (detail : Word) (s : State) : (freezeMaster m cause write detail s).pim = s.pim := by
  unfold freezeMaster
  (repeat' split) <;> first | rfl | simp [foldl_pim, apply_ite State.pim, apply_ite Prod.snd, apply_ite Prod.fst]
@[simp] theorem freezeMaster_flash (m cause : Nat) (write : Bool) (detail : Word) (s : State) : (freezeMaster m cause write detail s).flash = s.flash := by
  unfold freezeMaster
  (repeat' split) <;> first | rfl | simp [foldl_flash, apply_ite State.flash, apply_ite Prod.snd, apply_ite Prod.fst]
@[simp] theorem freezeMaster_image (m cause : Nat) (write : Bool) (detail : Word) (s : State) : (freezeMaster m cause write detail s).image = s.image := by
  unfold freezeMaster
  (repeat' split) <;> first | rfl | simp [foldl_image, apply_ite State.image, apply_ite Prod.snd, apply_ite Prod.fst]
@[simp] theorem freezeMaster_imageOk (m cause : Nat) (write : Bool) (detail : Word) (s : State) : (freezeMaster m cause write detail s).imageOk = s.imageOk := by
  unfold freezeMaster
  (repeat' split) <;> first | rfl | simp [foldl_imageOk, apply_ite State.imageOk, apply_ite Prod.snd, apply_ite Prod.fst]
@[simp] theorem freezeMaster_draws (m cause : Nat) (write : Bool) (detail : Word) (s : State) : (freezeMaster m cause write detail s).draws = s.draws := by
  unfold freezeMaster
  (repeat' split) <;> first | rfl | simp [foldl_draws, apply_ite State.draws, apply_ite Prod.snd, apply_ite Prod.fst]
@[simp] theorem freezeMaster_out (m cause : Nat) (write : Bool) (detail : Word) (s : State) : (freezeMaster m cause write detail s).out = s.out := by
  unfold freezeMaster
  (repeat' split) <;> first | rfl | simp [foldl_out, apply_ite State.out, apply_ite Prod.snd, apply_ite Prod.fst]
@[simp] theorem freezeMaster_pending (m cause : Nat) (write : Bool) (detail : Word) (s : State) : (freezeMaster m cause write detail s).pending = s.pending := by
  unfold freezeMaster
  (repeat' split) <;> first | rfl | simp [foldl_pending, apply_ite State.pending, apply_ite Prod.snd, apply_ite Prod.fst]
@[simp] theorem freezeFault_clk (fid m cause : Nat) (write : Bool) (detail : Word) (s : State) : (freezeFault fid m cause write detail s).clk = s.clk := by
  unfold freezeFault
  (repeat' split) <;> first | rfl | simp [foldl_clk, apply_ite State.clk, apply_ite Prod.snd, apply_ite Prod.fst]
@[simp] theorem freezeFault_tks (fid m cause : Nat) (write : Bool) (detail : Word) (s : State) : (freezeFault fid m cause write detail s).tks = s.tks := by
  unfold freezeFault
  (repeat' split) <;> first | rfl | simp [foldl_tks, apply_ite State.tks, apply_ite Prod.snd, apply_ite Prod.fst]
@[simp] theorem freezeFault_gnb (fid m cause : Nat) (write : Bool) (detail : Word) (s : State) : (freezeFault fid m cause write detail s).gnb = s.gnb := by
  unfold freezeFault
  (repeat' split) <;> first | rfl | simp [foldl_gnb, apply_ite State.gnb, apply_ite Prod.snd, apply_ite Prod.fst]
@[simp] theorem freezeFault_dfc (fid m cause : Nat) (write : Bool) (detail : Word) (s : State) : (freezeFault fid m cause write detail s).dfc = s.dfc := by
  unfold freezeFault
  (repeat' split) <;> first | rfl | simp [foldl_dfc, apply_ite State.dfc, apply_ite Prod.snd, apply_ite Prod.fst]
@[simp] theorem freezeFault_str (fid m cause : Nat) (write : Bool) (detail : Word) (s : State) : (freezeFault fid m cause write detail s).str = s.str := by
  unfold freezeFault
  (repeat' split) <;> first | rfl | simp [foldl_str, apply_ite State.str, apply_ite Prod.snd, apply_ite Prod.fst]
@[simp] theorem freezeFault_fus (fid m cause : Nat) (write : Bool) (detail : Word) (s : State) : (freezeFault fid m cause write detail s).fus = s.fus := by
  unfold freezeFault
  (repeat' split) <;> first | rfl | simp [foldl_fus, apply_ite State.fus, apply_ite Prod.snd, apply_ite Prod.fst]
@[simp] theorem freezeFault_boot (fid m cause : Nat) (write : Bool) (detail : Word) (s : State) : (freezeFault fid m cause write detail s).boot = s.boot := by
  unfold freezeFault
  (repeat' split) <;> first | rfl | simp [foldl_boot, apply_ite State.boot, apply_ite Prod.snd, apply_ite Prod.fst]
@[simp] theorem freezeFault_pin (fid m cause : Nat) (write : Bool) (detail : Word) (s : State) : (freezeFault fid m cause write detail s).pin = s.pin := by
  unfold freezeFault
  (repeat' split) <;> first | rfl | simp [foldl_pin, apply_ite State.pin, apply_ite Prod.snd, apply_ite Prod.fst]
@[simp] theorem freezeFault_mspi (fid m cause : Nat) (write : Bool) (detail : Word) (s : State) : (freezeFault fid m cause write detail s).mspi = s.mspi := by
  unfold freezeFault
  (repeat' split) <;> first | rfl | simp [foldl_mspi, apply_ite State.mspi, apply_ite Prod.snd, apply_ite Prod.fst]
@[simp] theorem freezeFault_pcl (fid m cause : Nat) (write : Bool) (detail : Word) (s : State) : (freezeFault fid m cause write detail s).pcl = s.pcl := by
  unfold freezeFault
  (repeat' split) <;> first | rfl | simp [foldl_pcl, apply_ite State.pcl, apply_ite Prod.snd, apply_ite Prod.fst]
@[simp] theorem freezeFault_als (fid m cause : Nat) (write : Bool) (detail : Word) (s : State) : (freezeFault fid m cause write detail s).als = s.als := by
  unfold freezeFault
  (repeat' split) <;> first | rfl | simp [foldl_als, apply_ite State.als, apply_ite Prod.snd, apply_ite Prod.fst]
@[simp] theorem freezeFault_srv (fid m cause : Nat) (write : Bool) (detail : Word) (s : State) : (freezeFault fid m cause write detail s).srv = s.srv := by
  unfold freezeFault
  (repeat' split) <;> first | rfl | simp [foldl_srv, apply_ite State.srv, apply_ite Prod.snd, apply_ite Prod.fst]
@[simp] theorem freezeFault_bus (fid m cause : Nat) (write : Bool) (detail : Word) (s : State) : (freezeFault fid m cause write detail s).bus = s.bus := by
  unfold freezeFault
  (repeat' split) <;> first | rfl | simp [foldl_bus, apply_ite State.bus, apply_ite Prod.snd, apply_ite Prod.fst]
@[simp] theorem freezeFault_flash (fid m cause : Nat) (write : Bool) (detail : Word) (s : State) : (freezeFault fid m cause write detail s).flash = s.flash := by
  unfold freezeFault
  (repeat' split) <;> first | rfl | simp [foldl_flash, apply_ite State.flash, apply_ite Prod.snd, apply_ite Prod.fst]
@[simp] theorem freezeFault_image (fid m cause : Nat) (write : Bool) (detail : Word) (s : State) : (freezeFault fid m cause write detail s).image = s.image := by
  unfold freezeFault
  (repeat' split) <;> first | rfl | simp [foldl_image, apply_ite State.image, apply_ite Prod.snd, apply_ite Prod.fst]
@[simp] theorem freezeFault_imageOk (fid m cause : Nat) (write : Bool) (detail : Word) (s : State) : (freezeFault fid m cause write detail s).imageOk = s.imageOk := by
  unfold freezeFault
  (repeat' split) <;> first | rfl | simp [foldl_imageOk, apply_ite State.imageOk, apply_ite Prod.snd, apply_ite Prod.fst]
@[simp] theorem freezeFault_draws (fid m cause : Nat) (write : Bool) (detail : Word) (s : State) : (freezeFault fid m cause write detail s).draws = s.draws := by
  unfold freezeFault
  (repeat' split) <;> first | rfl | simp [foldl_draws, apply_ite State.draws, apply_ite Prod.snd, apply_ite Prod.fst]
@[simp] theorem freezeFault_pending (fid m cause : Nat) (write : Bool) (detail : Word) (s : State) : (freezeFault fid m cause write detail s).pending = s.pending := by
  unfold freezeFault
  (repeat' split) <;> first | rfl | simp [foldl_pending, apply_ite State.pending, apply_ite Prod.snd, apply_ite Prod.fst]
@[simp] theorem quietly_sys (f : State → State) (s : State) (hf : ∀ s, (f s).sys = s.sys) : (quietly f s).sys = s.sys := by
  unfold quietly
  (repeat' split) <;> first | rfl | simp [*, foldl_sys, apply_ite State.sys, apply_ite Prod.snd, apply_ite Prod.fst]
@[simp] theorem quietly_clk (f : State → State) (s : State) (hf : ∀ s, (f s).clk = s.clk) : (quietly f s).clk = s.clk := by
  unfold quietly
  (repeat' split) <;> first | rfl | simp [*, foldl_clk, apply_ite State.clk, apply_ite Prod.snd, apply_ite Prod.fst]
@[simp] theorem quietly_tks (f : State → State) (s : State) (hf : ∀ s, (f s).tks = s.tks) : (quietly f s).tks = s.tks := by
  unfold quietly
  (repeat' split) <;> first | rfl | simp [*, foldl_tks, apply_ite State.tks, apply_ite Prod.snd, apply_ite Prod.fst]
@[simp] theorem quietly_tim (f : State → State) (s : State) (hf : ∀ s, (f s).tim = s.tim) : (quietly f s).tim = s.tim := by
  unfold quietly
  (repeat' split) <;> first | rfl | simp [*, foldl_tim, apply_ite State.tim, apply_ite Prod.snd, apply_ite Prod.fst]
@[simp] theorem quietly_gnb (f : State → State) (s : State) (hf : ∀ s, (f s).gnb = s.gnb) : (quietly f s).gnb = s.gnb := by
  unfold quietly
  (repeat' split) <;> first | rfl | simp [*, foldl_gnb, apply_ite State.gnb, apply_ite Prod.snd, apply_ite Prod.fst]
@[simp] theorem quietly_dfc (f : State → State) (s : State) (hf : ∀ s, (f s).dfc = s.dfc) : (quietly f s).dfc = s.dfc := by
  unfold quietly
  (repeat' split) <;> first | rfl | simp [*, foldl_dfc, apply_ite State.dfc, apply_ite Prod.snd, apply_ite Prod.fst]
@[simp] theorem quietly_str (f : State → State) (s : State) (hf : ∀ s, (f s).str = s.str) : (quietly f s).str = s.str := by
  unfold quietly
  (repeat' split) <;> first | rfl | simp [*, foldl_str, apply_ite State.str, apply_ite Prod.snd, apply_ite Prod.fst]
@[simp] theorem quietly_fus (f : State → State) (s : State) (hf : ∀ s, (f s).fus = s.fus) : (quietly f s).fus = s.fus := by
  unfold quietly
  (repeat' split) <;> first | rfl | simp [*, foldl_fus, apply_ite State.fus, apply_ite Prod.snd, apply_ite Prod.fst]
@[simp] theorem quietly_saf (f : State → State) (s : State) (hf : ∀ s, (f s).saf = s.saf) : (quietly f s).saf = s.saf := by
  unfold quietly
  (repeat' split) <;> first | rfl | simp [*, foldl_saf, apply_ite State.saf, apply_ite Prod.snd, apply_ite Prod.fst]
@[simp] theorem quietly_evr (f : State → State) (s : State) (hf : ∀ s, (f s).evr = s.evr) : (quietly f s).evr = s.evr := by
  unfold quietly
  (repeat' split) <;> first | rfl | simp [*, foldl_evr, apply_ite State.evr, apply_ite Prod.snd, apply_ite Prod.fst]
@[simp] theorem quietly_rtc (f : State → State) (s : State) (hf : ∀ s, (f s).rtc = s.rtc) : (quietly f s).rtc = s.rtc := by
  unfold quietly
  (repeat' split) <;> first | rfl | simp [*, foldl_rtc, apply_ite State.rtc, apply_ite Prod.snd, apply_ite Prod.fst]
@[simp] theorem quietly_boot (f : State → State) (s : State) (hf : ∀ s, (f s).boot = s.boot) : (quietly f s).boot = s.boot := by
  unfold quietly
  (repeat' split) <;> first | rfl | simp [*, foldl_boot, apply_ite State.boot, apply_ite Prod.snd, apply_ite Prod.fst]
@[simp] theorem quietly_pin (f : State → State) (s : State) (hf : ∀ s, (f s).pin = s.pin) : (quietly f s).pin = s.pin := by
  unfold quietly
  (repeat' split) <;> first | rfl | simp [*, foldl_pin, apply_ite State.pin, apply_ite Prod.snd, apply_ite Prod.fst]
@[simp] theorem quietly_mspi (f : State → State) (s : State) (hf : ∀ s, (f s).mspi = s.mspi) : (quietly f s).mspi = s.mspi := by
  unfold quietly
  (repeat' split) <;> first | rfl | simp [*, foldl_mspi, apply_ite State.mspi, apply_ite Prod.snd, apply_ite Prod.fst]
@[simp] theorem quietly_twn (f : State → State) (s : State) (hf : ∀ s, (f s).twn = s.twn) : (quietly f s).twn = s.twn := by
  unfold quietly
  (repeat' split) <;> first | rfl | simp [*, foldl_twn, apply_ite State.twn, apply_ite Prod.snd, apply_ite Prod.fst]
@[simp] theorem quietly_pcl (f : State → State) (s : State) (hf : ∀ s, (f s).pcl = s.pcl) : (quietly f s).pcl = s.pcl := by
  unfold quietly
  (repeat' split) <;> first | rfl | simp [*, foldl_pcl, apply_ite State.pcl, apply_ite Prod.snd, apply_ite Prod.fst]
@[simp] theorem quietly_als (f : State → State) (s : State) (hf : ∀ s, (f s).als = s.als) : (quietly f s).als = s.als := by
  unfold quietly
  (repeat' split) <;> first | rfl | simp [*, foldl_als, apply_ite State.als, apply_ite Prod.snd, apply_ite Prod.fst]
@[simp] theorem quietly_srv (f : State → State) (s : State) (hf : ∀ s, (f s).srv = s.srv) : (quietly f s).srv = s.srv := by
  unfold quietly
  (repeat' split) <;> first | rfl | simp [*, foldl_srv, apply_ite State.srv, apply_ite Prod.snd, apply_ite Prod.fst]
@[simp] theorem quietly_mbcs (f : State → State) (s : State) (hf : ∀ s, (f s).mbcs = s.mbcs) : (quietly f s).mbcs = s.mbcs := by
  unfold quietly
  (repeat' split) <;> first | rfl | simp [*, foldl_mbcs, apply_ite State.mbcs, apply_ite Prod.snd, apply_ite Prod.fst]
@[simp] theorem quietly_bus (f : State → State) (s : State) (hf : ∀ s, (f s).bus = s.bus) : (quietly f s).bus = s.bus := by
  unfold quietly
  (repeat' split) <;> first | rfl | simp [*, foldl_bus, apply_ite State.bus, apply_ite Prod.snd, apply_ite Prod.fst]
@[simp] theorem quietly_net (f : State → State) (s : State) (hf : ∀ s, (f s).net = s.net) : (quietly f s).net = s.net := by
  unfold quietly
  (repeat' split) <;> first | rfl | simp [*, foldl_net, apply_ite State.net, apply_ite Prod.snd, apply_ite Prod.fst]
@[simp] theorem quietly_pim (f : State → State) (s : State) (hf : ∀ s, (f s).pim = s.pim) : (quietly f s).pim = s.pim := by
  unfold quietly
  (repeat' split) <;> first | rfl | simp [*, foldl_pim, apply_ite State.pim, apply_ite Prod.snd, apply_ite Prod.fst]
@[simp] theorem quietly_flash (f : State → State) (s : State) (hf : ∀ s, (f s).flash = s.flash) : (quietly f s).flash = s.flash := by
  unfold quietly
  (repeat' split) <;> first | rfl | simp [*, foldl_flash, apply_ite State.flash, apply_ite Prod.snd, apply_ite Prod.fst]
@[simp] theorem quietly_image (f : State → State) (s : State) (hf : ∀ s, (f s).image = s.image) : (quietly f s).image = s.image := by
  unfold quietly
  (repeat' split) <;> first | rfl | simp [*, foldl_image, apply_ite State.image, apply_ite Prod.snd, apply_ite Prod.fst]
@[simp] theorem quietly_imageOk (f : State → State) (s : State) (hf : ∀ s, (f s).imageOk = s.imageOk) : (quietly f s).imageOk = s.imageOk := by
  unfold quietly
  (repeat' split) <;> first | rfl | simp [*, foldl_imageOk, apply_ite State.imageOk, apply_ite Prod.snd, apply_ite Prod.fst]
@[simp] theorem quietly_draws (f : State → State) (s : State) (hf : ∀ s, (f s).draws = s.draws) : (quietly f s).draws = s.draws := by
  unfold quietly
  (repeat' split) <;> first | rfl | simp [*, foldl_draws, apply_ite State.draws, apply_ite Prod.snd, apply_ite Prod.fst]
@[simp] theorem quietly_out (f : State → State) (s : State) (hf : ∀ s, (f s).out = s.out) : (quietly f s).out = s.out := by
  unfold quietly
  (repeat' split) <;> first | rfl | simp [*, foldl_out, apply_ite State.out, apply_ite Prod.snd, apply_ite Prod.fst]
@[simp] theorem quietly_pending (f : State → State) (s : State) (hf : ∀ s, (f s).pending = s.pending) : (quietly f s).pending = s.pending := by
  unfold quietly
  (repeat' split) <;> first | rfl | simp [*, foldl_pending, apply_ite State.pending, apply_ite Prod.snd, apply_ite Prod.fst]
@[simp] theorem inTick_sys (f : State → State) (s : State) (hf : ∀ s, (f s).sys = s.sys) : (inTick f s).sys = s.sys := by
  unfold inTick
  (repeat' split) <;> first | rfl | simp [*, foldl_sys, apply_ite State.sys, apply_ite Prod.snd, apply_ite Prod.fst]
@[simp] theorem inTick_clk (f : State → State) (s : State) (hf : ∀ s, (f s).clk = s.clk) : (inTick f s).clk = s.clk := by
  unfold inTick
  (repeat' split) <;> first | rfl | simp [*, foldl_clk, apply_ite State.clk, apply_ite Prod.snd, apply_ite Prod.fst]
@[simp] theorem inTick_tks (f : State → State) (s : State) (hf : ∀ s, (f s).tks = s.tks) : (inTick f s).tks = s.tks := by
  unfold inTick
  (repeat' split) <;> first | rfl | simp [*, foldl_tks, apply_ite State.tks, apply_ite Prod.snd, apply_ite Prod.fst]
@[simp] theorem inTick_tim (f : State → State) (s : State) (hf : ∀ s, (f s).tim = s.tim) : (inTick f s).tim = s.tim := by
  unfold inTick
  (repeat' split) <;> first | rfl | simp [*, foldl_tim, apply_ite State.tim, apply_ite Prod.snd, apply_ite Prod.fst]
@[simp] theorem inTick_gnb (f : State → State) (s : State) (hf : ∀ s, (f s).gnb = s.gnb) : (inTick f s).gnb = s.gnb := by
  unfold inTick
  (repeat' split) <;> first | rfl | simp [*, foldl_gnb, apply_ite State.gnb, apply_ite Prod.snd, apply_ite Prod.fst]
@[simp] theorem inTick_dfc (f : State → State) (s : State) (hf : ∀ s, (f s).dfc = s.dfc) : (inTick f s).dfc = s.dfc := by
  unfold inTick
  (repeat' split) <;> first | rfl | simp [*, foldl_dfc, apply_ite State.dfc, apply_ite Prod.snd, apply_ite Prod.fst]
@[simp] theorem inTick_str (f : State → State) (s : State) (hf : ∀ s, (f s).str = s.str) : (inTick f s).str = s.str := by
  unfold inTick
  (repeat' split) <;> first | rfl | simp [*, foldl_str, apply_ite State.str, apply_ite Prod.snd, apply_ite Prod.fst]
@[simp] theorem inTick_fus (f : State → State) (s : State) (hf : ∀ s, (f s).fus = s.fus) : (inTick f s).fus = s.fus := by
  unfold inTick
  (repeat' split) <;> first | rfl | simp [*, foldl_fus, apply_ite State.fus, apply_ite Prod.snd, apply_ite Prod.fst]
@[simp] theorem inTick_saf (f : State → State) (s : State) (hf : ∀ s, (f s).saf = s.saf) : (inTick f s).saf = s.saf := by
  unfold inTick
  (repeat' split) <;> first | rfl | simp [*, foldl_saf, apply_ite State.saf, apply_ite Prod.snd, apply_ite Prod.fst]
@[simp] theorem inTick_evr (f : State → State) (s : State) (hf : ∀ s, (f s).evr = s.evr) : (inTick f s).evr = s.evr := by
  unfold inTick
  (repeat' split) <;> first | rfl | simp [*, foldl_evr, apply_ite State.evr, apply_ite Prod.snd, apply_ite Prod.fst]
@[simp] theorem inTick_rtc (f : State → State) (s : State) (hf : ∀ s, (f s).rtc = s.rtc) : (inTick f s).rtc = s.rtc := by
  unfold inTick
  (repeat' split) <;> first | rfl | simp [*, foldl_rtc, apply_ite State.rtc, apply_ite Prod.snd, apply_ite Prod.fst]
@[simp] theorem inTick_boot (f : State → State) (s : State) (hf : ∀ s, (f s).boot = s.boot) : (inTick f s).boot = s.boot := by
  unfold inTick
  (repeat' split) <;> first | rfl | simp [*, foldl_boot, apply_ite State.boot, apply_ite Prod.snd, apply_ite Prod.fst]
@[simp] theorem inTick_pin (f : State → State) (s : State) (hf : ∀ s, (f s).pin = s.pin) : (inTick f s).pin = s.pin := by
  unfold inTick
  (repeat' split) <;> first | rfl | simp [*, foldl_pin, apply_ite State.pin, apply_ite Prod.snd, apply_ite Prod.fst]
@[simp] theorem inTick_mspi (f : State → State) (s : State) (hf : ∀ s, (f s).mspi = s.mspi) : (inTick f s).mspi = s.mspi := by
  unfold inTick
  (repeat' split) <;> first | rfl | simp [*, foldl_mspi, apply_ite State.mspi, apply_ite Prod.snd, apply_ite Prod.fst]
@[simp] theorem inTick_twn (f : State → State) (s : State) (hf : ∀ s, (f s).twn = s.twn) : (inTick f s).twn = s.twn := by
  unfold inTick
  (repeat' split) <;> first | rfl | simp [*, foldl_twn, apply_ite State.twn, apply_ite Prod.snd, apply_ite Prod.fst]
@[simp] theorem inTick_pcl (f : State → State) (s : State) (hf : ∀ s, (f s).pcl = s.pcl) : (inTick f s).pcl = s.pcl := by
  unfold inTick
  (repeat' split) <;> first | rfl | simp [*, foldl_pcl, apply_ite State.pcl, apply_ite Prod.snd, apply_ite Prod.fst]
@[simp] theorem inTick_als (f : State → State) (s : State) (hf : ∀ s, (f s).als = s.als) : (inTick f s).als = s.als := by
  unfold inTick
  (repeat' split) <;> first | rfl | simp [*, foldl_als, apply_ite State.als, apply_ite Prod.snd, apply_ite Prod.fst]
@[simp] theorem inTick_srv (f : State → State) (s : State) (hf : ∀ s, (f s).srv = s.srv) : (inTick f s).srv = s.srv := by
  unfold inTick
  (repeat' split) <;> first | rfl | simp [*, foldl_srv, apply_ite State.srv, apply_ite Prod.snd, apply_ite Prod.fst]
@[simp] theorem inTick_mbcs (f : State → State) (s : State) (hf : ∀ s, (f s).mbcs = s.mbcs) : (inTick f s).mbcs = s.mbcs := by
  unfold inTick
  (repeat' split) <;> first | rfl | simp [*, foldl_mbcs, apply_ite State.mbcs, apply_ite Prod.snd, apply_ite Prod.fst]
@[simp] theorem inTick_bus (f : State → State) (s : State) (hf : ∀ s, (f s).bus = s.bus) : (inTick f s).bus = s.bus := by
  unfold inTick
  (repeat' split) <;> first | rfl | simp [*, foldl_bus, apply_ite State.bus, apply_ite Prod.snd, apply_ite Prod.fst]
@[simp] theorem inTick_net (f : State → State) (s : State) (hf : ∀ s, (f s).net = s.net) : (inTick f s).net = s.net := by
  unfold inTick
  (repeat' split) <;> first | rfl | simp [*, foldl_net, apply_ite State.net, apply_ite Prod.snd, apply_ite Prod.fst]
@[simp] theorem inTick_pim (f : State → State) (s : State) (hf : ∀ s, (f s).pim = s.pim) : (inTick f s).pim = s.pim := by
  unfold inTick
  (repeat' split) <;> first | rfl | simp [*, foldl_pim, apply_ite State.pim, apply_ite Prod.snd, apply_ite Prod.fst]
@[simp] theorem inTick_flash (f : State → State) (s : State) (hf : ∀ s, (f s).flash = s.flash) : (inTick f s).flash = s.flash := by
  unfold inTick
  (repeat' split) <;> first | rfl | simp [*, foldl_flash, apply_ite State.flash, apply_ite Prod.snd, apply_ite Prod.fst]
@[simp] theorem inTick_image (f : State → State) (s : State) (hf : ∀ s, (f s).image = s.image) : (inTick f s).image = s.image := by
  unfold inTick
  (repeat' split) <;> first | rfl | simp [*, foldl_image, apply_ite State.image, apply_ite Prod.snd, apply_ite Prod.fst]
@[simp] theorem inTick_imageOk (f : State → State) (s : State) (hf : ∀ s, (f s).imageOk = s.imageOk) : (inTick f s).imageOk = s.imageOk := by
  unfold inTick
  (repeat' split) <;> first | rfl | simp [*, foldl_imageOk, apply_ite State.imageOk, apply_ite Prod.snd, apply_ite Prod.fst]
@[simp] theorem inTick_draws (f : State → State) (s : State) (hf : ∀ s, (f s).draws = s.draws) : (inTick f s).draws = s.draws := by
  unfold inTick
  (repeat' split) <;> first | rfl | simp [*, foldl_draws, apply_ite State.draws, apply_ite Prod.snd, apply_ite Prod.fst]
@[simp] theorem inTick_out (f : State → State) (s : State) (hf : ∀ s, (f s).out = s.out) : (inTick f s).out = s.out := by
  unfold inTick
  (repeat' split) <;> first | rfl | simp [*, foldl_out, apply_ite State.out, apply_ite Prod.snd, apply_ite Prod.fst]
@[simp] theorem inTick_pending (f : State → State) (s : State) (hf : ∀ s, (f s).pending = s.pending) : (inTick f s).pending = s.pending := by
  unfold inTick
  (repeat' split) <;> first | rfl | simp [*, foldl_pending, apply_ite State.pending, apply_ite Prod.snd, apply_ite Prod.fst]
@[simp] theorem confirmActive_sys (request : Nat) (s : State) : (confirmActive request s).2.sys = s.sys := by
  unfold confirmActive
  (repeat' split) <;> first | rfl | simp [foldl_sys, apply_ite State.sys, apply_ite Prod.snd, apply_ite Prod.fst]
@[simp] theorem confirmActive_clk (request : Nat) (s : State) : (confirmActive request s).2.clk = s.clk := by
  unfold confirmActive
  (repeat' split) <;> first | rfl | simp [foldl_clk, apply_ite State.clk, apply_ite Prod.snd, apply_ite Prod.fst]
@[simp] theorem confirmActive_tks (request : Nat) (s : State) : (confirmActive request s).2.tks = s.tks := by
  unfold confirmActive
  (repeat' split) <;> first | rfl | simp [foldl_tks, apply_ite State.tks, apply_ite Prod.snd, apply_ite Prod.fst]
@[simp] theorem confirmActive_tim (request : Nat) (s : State) : (confirmActive request s).2.tim = s.tim := by
  unfold confirmActive
  (repeat' split) <;> first | rfl | simp [foldl_tim, apply_ite State.tim, apply_ite Prod.snd, apply_ite Prod.fst]
@[simp] theorem confirmActive_gnb (request : Nat) (s : State) : (confirmActive request s).2.gnb = s.gnb := by
  unfold confirmActive
  (repeat' split) <;> first | rfl | simp [foldl_gnb, apply_ite State.gnb, apply_ite Prod.snd, apply_ite Prod.fst]
@[simp] theorem confirmActive_dfc (request : Nat) (s : State) : (confirmActive request s).2.dfc = s.dfc := by
  unfold confirmActive
  (repeat' split) <;> first | rfl | simp [foldl_dfc, apply_ite State.dfc, apply_ite Prod.snd, apply_ite Prod.fst]
@[simp] theorem confirmActive_str (request : Nat) (s : State) : (confirmActive request s).2.str = s.str := by
  unfold confirmActive
  (repeat' split) <;> first | rfl | simp [foldl_str, apply_ite State.str, apply_ite Prod.snd, apply_ite Prod.fst]
@[simp] theorem confirmActive_fus (request : Nat) (s : State) : (confirmActive request s).2.fus = s.fus := by
  unfold confirmActive
  (repeat' split) <;> first | rfl | simp [foldl_fus, apply_ite State.fus, apply_ite Prod.snd, apply_ite Prod.fst]
@[simp] theorem confirmActive_rtc (request : Nat) (s : State) : (confirmActive request s).2.rtc = s.rtc := by
  unfold confirmActive
  (repeat' split) <;> first | rfl | simp [foldl_rtc, apply_ite State.rtc, apply_ite Prod.snd, apply_ite Prod.fst]
@[simp] theorem confirmActive_boot (request : Nat) (s : State) : (confirmActive request s).2.boot = s.boot := by
  unfold confirmActive
  (repeat' split) <;> first | rfl | simp [foldl_boot, apply_ite State.boot, apply_ite Prod.snd, apply_ite Prod.fst]
@[simp] theorem confirmActive_pin (request : Nat) (s : State) : (confirmActive request s).2.pin = s.pin := by
  unfold confirmActive
  (repeat' split) <;> first | rfl | simp [foldl_pin, apply_ite State.pin, apply_ite Prod.snd, apply_ite Prod.fst]
@[simp] theorem confirmActive_mspi (request : Nat) (s : State) : (confirmActive request s).2.mspi = s.mspi := by
  unfold confirmActive
  (repeat' split) <;> first | rfl | simp [foldl_mspi, apply_ite State.mspi, apply_ite Prod.snd, apply_ite Prod.fst]
@[simp] theorem confirmActive_twn (request : Nat) (s : State) : (confirmActive request s).2.twn = s.twn := by
  unfold confirmActive
  (repeat' split) <;> first | rfl | simp [foldl_twn, apply_ite State.twn, apply_ite Prod.snd, apply_ite Prod.fst]
@[simp] theorem confirmActive_pcl (request : Nat) (s : State) : (confirmActive request s).2.pcl = s.pcl := by
  unfold confirmActive
  (repeat' split) <;> first | rfl | simp [foldl_pcl, apply_ite State.pcl, apply_ite Prod.snd, apply_ite Prod.fst]
@[simp] theorem confirmActive_als (request : Nat) (s : State) : (confirmActive request s).2.als = s.als := by
  unfold confirmActive
  (repeat' split) <;> first | rfl | simp [foldl_als, apply_ite State.als, apply_ite Prod.snd, apply_ite Prod.fst]
@[simp] theorem confirmActive_srv (request : Nat) (s : State) : (confirmActive request s).2.srv = s.srv := by
  unfold confirmActive
  (repeat' split) <;> first | rfl | simp [foldl_srv, apply_ite State.srv, apply_ite Prod.snd, apply_ite Prod.fst]
@[simp] theorem confirmActive_mbcs (request : Nat) (s : State) : (confirmActive request s).2.mbcs = s.mbcs := by
  unfold confirmActive
  (repeat' split) <;> first | rfl | simp [foldl_mbcs, apply_ite State.mbcs, apply_ite Prod.snd, apply_ite Prod.fst]
@[simp] theorem confirmActive_bus (request : Nat) (s : State) : (confirmActive request s).2.bus = s.bus := by
  unfold confirmActive
  (repeat' split) <;> first | rfl | simp [foldl_bus, apply_ite State.bus, apply_ite Prod.snd, apply_ite Prod.fst]
@[simp] theorem confirmActive_net (request : Nat) (s : State) : (confirmActive request s).2.net = s.net := by
  unfold confirmActive
  (repeat' split) <;> first | rfl | simp [foldl_net, apply_ite State.net, apply_ite Prod.snd, apply_ite Prod.fst]
@[simp] theorem confirmActive_pim (request : Nat) (s : State) : (confirmActive request s).2.pim = s.pim := by
  unfold confirmActive
  (repeat' split) <;> first | rfl | simp [foldl_pim, apply_ite State.pim, apply_ite Prod.snd, apply_ite Prod.fst]
@[simp] theorem confirmActive_flash (request : Nat) (s : State) : (confirmActive request s).2.flash = s.flash := by
  unfold confirmActive
  (repeat' split) <;> first | rfl | simp [foldl_flash, apply_ite State.flash, apply_ite Prod.snd, apply_ite Prod.fst]
@[simp] theorem confirmActive_image (request : Nat) (s : State) : (confirmActive request s).2.image = s.image := by
  unfold confirmActive
  (repeat' split) <;> first | rfl | simp [foldl_image, apply_ite State.image, apply_ite Prod.snd, apply_ite Prod.fst]
@[simp] theorem confirmActive_imageOk (request : Nat) (s : State) : (confirmActive request s).2.imageOk = s.imageOk := by
  unfold confirmActive
  (repeat' split) <;> first | rfl | simp [foldl_imageOk, apply_ite State.imageOk, apply_ite Prod.snd, apply_ite Prod.fst]
@[simp] theorem confirmActive_draws (request : Nat) (s : State) : (confirmActive request s).2.draws = s.draws := by
  unfold confirmActive
  (repeat' split) <;> first | rfl | simp [foldl_draws, apply_ite State.draws, apply_ite Prod.snd, apply_ite Prod.fst]
@[simp] theorem confirmActive_out (request : Nat) (s : State) : (confirmActive request s).2.out = s.out := by
  unfold confirmActive
  (repeat' split) <;> first | rfl | simp [foldl_out, apply_ite State.out, apply_ite Prod.snd, apply_ite Prod.fst]
@[simp] theorem confirmActive_pending (request : Nat) (s : State) : (confirmActive request s).2.pending = s.pending := by
  unfold confirmActive
  (repeat' split) <;> first | rfl | simp [foldl_pending, apply_ite State.pending, apply_ite Prod.snd, apply_ite Prod.fst]

theorem foldl_saf_spOk {α : Type} (g : State → α → State) (h : ∀ s x, (g s x).saf.spOk = s.saf.spOk) : ∀ (l : List α) (s : State), (l.foldl g s).saf.spOk = s.saf.spOk
  | [], _ => rfl
  | x :: xs, s => by rw [List.foldl_cons, foldl_saf_spOk g h xs, h]

theorem foldl_saf_safeOk {α : Type} (g : State → α → State) (h : ∀ s x, (g s x).saf.safeOk = s.saf.safeOk) : ∀ (l : List α) (s : State), (l.foldl g s).saf.safeOk = s.saf.safeOk
  | [], _ => rfl
  | x :: xs, s => by rw [List.foldl_cons, foldl_saf_safeOk g h xs, h]

theorem foldl_saf_claimsLocked {α : Type} (g : State → α → State) (h : ∀ s x, (g s x).saf.claimsLocked = s.saf.claimsLocked) : ∀ (l : List α) (s : State), (l.foldl g s).saf.claimsLocked = s.saf.claimsLocked
  | [], _ => rfl
  | x :: xs, s => by rw [List.foldl_cons, foldl_saf_claimsLocked g h xs, h]

theorem foldl_saf_fwLocked {α : Type} (g : State → α → State) (h : ∀ s x, (g s x).saf.fwLocked = s.saf.fwLocked) : ∀ (l : List α) (s : State), (l.foldl g s).saf.fwLocked = s.saf.fwLocked
  | [], _ => rfl
  | x :: xs, s => by rw [List.foldl_cons, foldl_saf_fwLocked g h xs, h]

theorem foldl_saf_s1Passed {α : Type} (g : State → α → State) (h : ∀ s x, (g s x).saf.s1Passed = s.saf.s1Passed) : ∀ (l : List α) (s : State), (l.foldl g s).saf.s1Passed = s.saf.s1Passed
  | [], _ => rfl
  | x :: xs, s => by rw [List.foldl_cons, foldl_saf_s1Passed g h xs, h]

theorem foldl_saf_checker {α : Type} (g : State → α → State) (h : ∀ s x, (g s x).saf.checker = s.saf.checker) : ∀ (l : List α) (s : State), (l.foldl g s).saf.checker = s.saf.checker
  | [], _ => rfl
  | x :: xs, s => by rw [List.foldl_cons, foldl_saf_checker g h xs, h]

theorem foldl_saf_keepAlive {α : Type} (g : State → α → State) (h : ∀ s x, (g s x).saf.keepAlive = s.saf.keepAlive) : ∀ (l : List α) (s : State), (l.foldl g s).saf.keepAlive = s.saf.keepAlive
  | [], _ => rfl
  | x :: xs, s => by rw [List.foldl_cons, foldl_saf_keepAlive g h xs, h]

theorem foldl_saf_gatePwm {α : Type} (g : State → α → State) (h : ∀ s x, (g s x).saf.gatePwm = s.saf.gatePwm) : ∀ (l : List α) (s : State), (l.foldl g s).saf.gatePwm = s.saf.gatePwm
  | [], _ => rfl
  | x :: xs, s => by rw [List.foldl_cons, foldl_saf_gatePwm g h xs, h]

theorem foldl_saf_gateMbc {α : Type} (g : State → α → State) (h : ∀ s x, (g s x).saf.gateMbc = s.saf.gateMbc) : ∀ (l : List α) (s : State), (l.foldl g s).saf.gateMbc = s.saf.gateMbc
  | [], _ => rfl
  | x :: xs, s => by rw [List.foldl_cons, foldl_saf_gateMbc g h xs, h]

theorem foldl_saf_gatePdiv {α : Type} (g : State → α → State) (h : ∀ s x, (g s x).saf.gatePdiv = s.saf.gatePdiv) : ∀ (l : List α) (s : State), (l.foldl g s).saf.gatePdiv = s.saf.gatePdiv
  | [], _ => rfl
  | x :: xs, s => by rw [List.foldl_cons, foldl_saf_gatePdiv g h xs, h]

theorem foldl_saf_gateSync {α : Type} (g : State → α → State) (h : ∀ s x, (g s x).saf.gateSync = s.saf.gateSync) : ∀ (l : List α) (s : State), (l.foldl g s).saf.gateSync = s.saf.gateSync
  | [], _ => rfl
  | x :: xs, s => by rw [List.foldl_cons, foldl_saf_gateSync g h xs, h]

theorem foldl_saf_mbcClosing {α : Type} (g : State → α → State) (h : ∀ s x, (g s x).saf.mbcClosing = s.saf.mbcClosing) : ∀ (l : List α) (s : State), (l.foldl g s).saf.mbcClosing = s.saf.mbcClosing
  | [], _ => rfl
  | x :: xs, s => by rw [List.foldl_cons, foldl_saf_mbcClosing g h xs, h]

theorem foldl_saf_outenDrive {α : Type} (g : State → α → State) (h : ∀ s x, (g s x).saf.outenDrive = s.saf.outenDrive) : ∀ (l : List α) (s : State), (l.foldl g s).saf.outenDrive = s.saf.outenDrive
  | [], _ => rfl
  | x :: xs, s => by rw [List.foldl_cons, foldl_saf_outenDrive g h xs, h]

theorem foldl_saf_outenHeld {α : Type} (g : State → α → State) (h : ∀ s x, (g s x).saf.outenHeld = s.saf.outenHeld) : ∀ (l : List α) (s : State), (l.foldl g s).saf.outenHeld = s.saf.outenHeld
  | [], _ => rfl
  | x :: xs, s => by rw [List.foldl_cons, foldl_saf_outenHeld g h xs, h]

theorem foldl_saf_frozen {α : Type} (g : State → α → State) (h : ∀ s x, (g s x).saf.frozen = s.saf.frozen) : ∀ (l : List α) (s : State), (l.foldl g s).saf.frozen = s.saf.frozen
  | [], _ => rfl
  | x :: xs, s => by rw [List.foldl_cons, foldl_saf_frozen g h xs, h]

theorem foldl_saf_freeze {α : Type} (g : State → α → State) (h : ∀ s x, (g s x).saf.freeze = s.saf.freeze) : ∀ (l : List α) (s : State), (l.foldl g s).saf.freeze = s.saf.freeze
  | [], _ => rfl
  | x :: xs, s => by rw [List.foldl_cons, foldl_saf_freeze g h xs, h]

theorem foldl_saf_present {α : Type} (g : State → α → State) (h : ∀ s x, (g s x).saf.present = s.saf.present) : ∀ (l : List α) (s : State), (l.foldl g s).saf.present = s.saf.present
  | [], _ => rfl
  | x :: xs, s => by rw [List.foldl_cons, foldl_saf_present g h xs, h]

theorem foldl_saf_latch {α : Type} (g : State → α → State) (h : ∀ s x, (g s x).saf.latch = s.saf.latch) : ∀ (l : List α) (s : State), (l.foldl g s).saf.latch = s.saf.latch
  | [], _ => rfl
  | x :: xs, s => by rw [List.foldl_cons, foldl_saf_latch g h xs, h]

theorem foldl_saf_unack {α : Type} (g : State → α → State) (h : ∀ s x, (g s x).saf.unack = s.saf.unack) : ∀ (l : List α) (s : State), (l.foldl g s).saf.unack = s.saf.unack
  | [], _ => rfl
  | x :: xs, s => by rw [List.foldl_cons, foldl_saf_unack g h xs, h]

theorem foldl_saf_raised {α : Type} (g : State → α → State) (h : ∀ s x, (g s x).saf.raised = s.saf.raised) : ∀ (l : List α) (s : State), (l.foldl g s).saf.raised = s.saf.raised
  | [], _ => rfl
  | x :: xs, s => by rw [List.foldl_cons, foldl_saf_raised g h xs, h]

theorem foldl_saf_roleConfirmed {α : Type} (g : State → α → State) (h : ∀ s x, (g s x).saf.roleConfirmed = s.saf.roleConfirmed) : ∀ (l : List α) (s : State), (l.foldl g s).saf.roleConfirmed = s.saf.roleConfirmed
  | [], _ => rfl
  | x :: xs, s => by rw [List.foldl_cons, foldl_saf_roleConfirmed g h xs, h]

theorem foldl_saf_roleCause {α : Type} (g : State → α → State) (h : ∀ s x, (g s x).saf.roleCause = s.saf.roleCause) : ∀ (l : List α) (s : State), (l.foldl g s).saf.roleCause = s.saf.roleCause
  | [], _ => rfl
  | x :: xs, s => by rw [List.foldl_cons, foldl_saf_roleCause g h xs, h]

theorem foldl_saf_roleRefusals {α : Type} (g : State → α → State) (h : ∀ s x, (g s x).saf.roleRefusals = s.saf.roleRefusals) : ∀ (l : List α) (s : State), (l.foldl g s).saf.roleRefusals = s.saf.roleRefusals
  | [], _ => rfl
  | x :: xs, s => by rw [List.foldl_cons, foldl_saf_roleRefusals g h xs, h]

theorem foldl_saf_vmon {α : Type} (g : State → α → State) (h : ∀ s x, (g s x).saf.vmon = s.saf.vmon) : ∀ (l : List α) (s : State), (l.foldl g s).saf.vmon = s.saf.vmon
  | [], _ => rfl
  | x :: xs, s => by rw [List.foldl_cons, foldl_saf_vmon g h xs, h]

theorem foldl_saf_tempBand {α : Type} (g : State → α → State) (h : ∀ s x, (g s x).saf.tempBand = s.saf.tempBand) : ∀ (l : List α) (s : State), (l.foldl g s).saf.tempBand = s.saf.tempBand
  | [], _ => rfl
  | x :: xs, s => by rw [List.foldl_cons, foldl_saf_tempBand g h xs, h]

theorem foldl_saf_tj {α : Type} (g : State → α → State) (h : ∀ s x, (g s x).saf.tj = s.saf.tj) : ∀ (l : List α) (s : State), (l.foldl g s).saf.tj = s.saf.tj
  | [], _ => rfl
  | x :: xs, s => by rw [List.foldl_cons, foldl_saf_tj g h xs, h]

theorem foldl_saf_pfailLow {α : Type} (g : State → α → State) (h : ∀ s x, (g s x).saf.pfailLow = s.saf.pfailLow) : ∀ (l : List α) (s : State), (l.foldl g s).saf.pfailLow = s.saf.pfailLow
  | [], _ => rfl
  | x :: xs, s => by rw [List.foldl_cons, foldl_saf_pfailLow g h xs, h]

theorem foldl_saf_pfailRoseUp {α : Type} (g : State → α → State) (h : ∀ s x, (g s x).saf.pfailRoseUp = s.saf.pfailRoseUp) : ∀ (l : List α) (s : State), (l.foldl g s).saf.pfailRoseUp = s.saf.pfailRoseUp
  | [], _ => rfl
  | x :: xs, s => by rw [List.foldl_cons, foldl_saf_pfailRoseUp g h xs, h]

theorem foldl_saf_wdg {α : Type} (g : State → α → State) (h : ∀ s x, (g s x).saf.wdg = s.saf.wdg) : ∀ (l : List α) (s : State), (l.foldl g s).saf.wdg = s.saf.wdg
  | [], _ => rfl
  | x :: xs, s => by rw [List.foldl_cons, foldl_saf_wdg g h xs, h]

theorem foldl_sys_state {α : Type} (g : State → α → State) (h : ∀ s x, (g s x).sys.state = s.sys.state) : ∀ (l : List α) (s : State), (l.foldl g s).sys.state = s.sys.state
  | [], _ => rfl
  | x :: xs, s => by rw [List.foldl_cons, foldl_sys_state g h xs, h]

theorem foldl_sys_level {α : Type} (g : State → α → State) (h : ∀ s x, (g s x).sys.level = s.sys.level) : ∀ (l : List α) (s : State), (l.foldl g s).sys.level = s.sys.level
  | [], _ => rfl
  | x :: xs, s => by rw [List.foldl_cons, foldl_sys_level g h xs, h]

theorem foldl_sys_levelNext {α : Type} (g : State → α → State) (h : ∀ s x, (g s x).sys.levelNext = s.sys.levelNext) : ∀ (l : List α) (s : State), (l.foldl g s).sys.levelNext = s.sys.levelNext
  | [], _ => rfl
  | x :: xs, s => by rw [List.foldl_cons, foldl_sys_levelNext g h xs, h]

theorem foldl_sys_healthSeq {α : Type} (g : State → α → State) (h : ∀ s x, (g s x).sys.healthSeq = s.sys.healthSeq) : ∀ (l : List α) (s : State), (l.foldl g s).sys.healthSeq = s.sys.healthSeq
  | [], _ => rfl
  | x :: xs, s => by rw [List.foldl_cons, foldl_sys_healthSeq g h xs, h]

theorem foldl_sys_eccUncorr {α : Type} (g : State → α → State) (h : ∀ s x, (g s x).sys.eccUncorr = s.sys.eccUncorr) : ∀ (l : List α) (s : State), (l.foldl g s).sys.eccUncorr = s.sys.eccUncorr
  | [], _ => rfl
  | x :: xs, s => by rw [List.foldl_cons, foldl_sys_eccUncorr g h xs, h]

theorem foldl_sys_eccCorrCnt {α : Type} (g : State → α → State) (h : ∀ s x, (g s x).sys.eccCorrCnt = s.sys.eccCorrCnt) : ∀ (l : List α) (s : State), (l.foldl g s).sys.eccCorrCnt = s.sys.eccCorrCnt
  | [], _ => rfl
  | x :: xs, s => by rw [List.foldl_cons, foldl_sys_eccCorrCnt g h xs, h]

theorem foldl_sys_eccUncorrAddr {α : Type} (g : State → α → State) (h : ∀ s x, (g s x).sys.eccUncorrAddr = s.sys.eccUncorrAddr) : ∀ (l : List α) (s : State), (l.foldl g s).sys.eccUncorrAddr = s.sys.eccUncorrAddr
  | [], _ => rfl
  | x :: xs, s => by rw [List.foldl_cons, foldl_sys_eccUncorrAddr g h xs, h]

theorem foldl_sys_scrubAddr {α : Type} (g : State → α → State) (h : ∀ s x, (g s x).sys.scrubAddr = s.sys.scrubAddr) : ∀ (l : List α) (s : State), (l.foldl g s).sys.scrubAddr = s.sys.scrubAddr
  | [], _ => rfl
  | x :: xs, s => by rw [List.foldl_cons, foldl_sys_scrubAddr g h xs, h]

theorem foldl_sys_eccMarks {α : Type} (g : State → α → State) (h : ∀ s x, (g s x).sys.eccMarks = s.sys.eccMarks) : ∀ (l : List α) (s : State), (l.foldl g s).sys.eccMarks = s.sys.eccMarks
  | [], _ => rfl
  | x :: xs, s => by rw [List.foldl_cons, foldl_sys_eccMarks g h xs, h]

@[simp] theorem driveOuten_saf_spOk (b : Bool) (s : State) : (driveOuten b s).saf.spOk = s.saf.spOk := by
  unfold driveOuten
  (repeat' split) <;> first | rfl | simp [foldl_saf_spOk, apply_ite State.saf, apply_ite Saf.spOk, apply_ite Prod.snd, apply_ite Prod.fst]
@[simp] theorem driveOuten_saf_safeOk (b : Bool) (s : State) : (driveOuten b s).saf.safeOk = s.saf.safeOk := by
  unfold driveOuten
  (repeat' split) <;> first | rfl | simp [foldl_saf_safeOk, apply_ite State.saf, apply_ite Saf.safeOk, apply_ite Prod.snd, apply_ite Prod.fst]
@[simp] theorem driveOuten_saf_claimsLocked (b : Bool) (s : State) : (driveOuten b s).saf.claimsLocked = s.saf.claimsLocked := by
  unfold driveOuten
  (repeat' split) <;> first | rfl | simp [foldl_saf_claimsLocked, apply_ite State.saf, apply_ite Saf.claimsLocked, apply_ite Prod.snd, apply_ite Prod.fst]
@[simp] theorem driveOuten_saf_fwLocked (b : Bool) (s : State) : (driveOuten b s).saf.fwLocked = s.saf.fwLocked := by
  unfold driveOuten
  (repeat' split) <;> first | rfl | simp [foldl_saf_fwLocked, apply_ite State.saf, apply_ite Saf.fwLocked, apply_ite Prod.snd, apply_ite Prod.fst]
@[simp] theorem driveOuten_saf_s1Passed (b : Bool) (s : State) : (driveOuten b s).saf.s1Passed = s.saf.s1Passed := by
  unfold driveOuten
  (repeat' split) <;> first | rfl | simp [foldl_saf_s1Passed, apply_ite State.saf, apply_ite Saf.s1Passed, apply_ite Prod.snd, apply_ite Prod.fst]
@[simp] theorem driveOuten_saf_checker (b : Bool) (s : State) : (driveOuten b s).saf.checker = s.saf.checker := by
  unfold driveOuten
  (repeat' split) <;> first | rfl | simp [foldl_saf_checker, apply_ite State.saf, apply_ite Saf.checker, apply_ite Prod.snd, apply_ite Prod.fst]
@[simp] theorem driveOuten_saf_keepAlive (b : Bool) (s : State) : (driveOuten b s).saf.keepAlive = s.saf.keepAlive := by
  unfold driveOuten
  (repeat' split) <;> first | rfl | simp [foldl_saf_keepAlive, apply_ite State.saf, apply_ite Saf.keepAlive, apply_ite Prod.snd, apply_ite Prod.fst]
@[simp] theorem driveOuten_saf_gatePwm (b : Bool) (s : State) : (driveOuten b s).saf.gatePwm = s.saf.gatePwm := by
  unfold driveOuten
  (repeat' split) <;> first | rfl | simp [foldl_saf_gatePwm, apply_ite State.saf, apply_ite Saf.gatePwm, apply_ite Prod.snd, apply_ite Prod.fst]
@[simp] theorem driveOuten_saf_gateMbc (b : Bool) (s : State) : (driveOuten b s).saf.gateMbc = s.saf.gateMbc := by
  unfold driveOuten
  (repeat' split) <;> first | rfl | simp [foldl_saf_gateMbc, apply_ite State.saf, apply_ite Saf.gateMbc, apply_ite Prod.snd, apply_ite Prod.fst]
@[simp] theorem driveOuten_saf_gatePdiv (b : Bool) (s : State) : (driveOuten b s).saf.gatePdiv = s.saf.gatePdiv := by
  unfold driveOuten
  (repeat' split) <;> first | rfl | simp [foldl_saf_gatePdiv, apply_ite State.saf, apply_ite Saf.gatePdiv, apply_ite Prod.snd, apply_ite Prod.fst]
@[simp] theorem driveOuten_saf_gateSync (b : Bool) (s : State) : (driveOuten b s).saf.gateSync = s.saf.gateSync := by
  unfold driveOuten
  (repeat' split) <;> first | rfl | simp [foldl_saf_gateSync, apply_ite State.saf, apply_ite Saf.gateSync, apply_ite Prod.snd, apply_ite Prod.fst]
@[simp] theorem driveOuten_saf_mbcClosing (b : Bool) (s : State) : (driveOuten b s).saf.mbcClosing = s.saf.mbcClosing := by
  unfold driveOuten
  (repeat' split) <;> first | rfl | simp [foldl_saf_mbcClosing, apply_ite State.saf, apply_ite Saf.mbcClosing, apply_ite Prod.snd, apply_ite Prod.fst]
@[simp] theorem driveOuten_saf_outenHeld (b : Bool) (s : State) : (driveOuten b s).saf.outenHeld = s.saf.outenHeld := by
  unfold driveOuten
  (repeat' split) <;> first | rfl | simp [foldl_saf_outenHeld, apply_ite State.saf, apply_ite Saf.outenHeld, apply_ite Prod.snd, apply_ite Prod.fst]
@[simp] theorem driveOuten_saf_frozen (b : Bool) (s : State) : (driveOuten b s).saf.frozen = s.saf.frozen := by
  unfold driveOuten
  (repeat' split) <;> first | rfl | simp [foldl_saf_frozen, apply_ite State.saf, apply_ite Saf.frozen, apply_ite Prod.snd, apply_ite Prod.fst]
@[simp] theorem driveOuten_saf_freeze (b : Bool) (s : State) : (driveOuten b s).saf.freeze = s.saf.freeze := by
  unfold driveOuten
  (repeat' split) <;> first | rfl | simp [foldl_saf_freeze, apply_ite State.saf, apply_ite Saf.freeze, apply_ite Prod.snd, apply_ite Prod.fst]
@[simp] theorem driveOuten_saf_latch (b : Bool) (s : State) : (driveOuten b s).saf.latch = s.saf.latch := by
  unfold driveOuten
  (repeat' split) <;> first | rfl | simp [foldl_saf_latch, apply_ite State.saf, apply_ite Saf.latch, apply_ite Prod.snd, apply_ite Prod.fst]
@[simp] theorem driveOuten_saf_unack (b : Bool) (s : State) : (driveOuten b s).saf.unack = s.saf.unack := by
  unfold driveOuten
  (repeat' split) <;> first | rfl | simp [foldl_saf_unack, apply_ite State.saf, apply_ite Saf.unack, apply_ite Prod.snd, apply_ite Prod.fst]
@[simp] theorem driveOuten_saf_raised (b : Bool) (s : State) : (driveOuten b s).saf.raised = s.saf.raised := by
  unfold driveOuten
  (repeat' split) <;> first | rfl | simp [foldl_saf_raised, apply_ite State.saf, apply_ite Saf.raised, apply_ite Prod.snd, apply_ite Prod.fst]
@[simp] theorem driveOuten_saf_roleConfirmed (b : Bool) (s : State) : (driveOuten b s).saf.roleConfirmed = s.saf.roleConfirmed := by
  unfold driveOuten
  (repeat' split) <;> first | rfl | simp [foldl_saf_roleConfirmed, apply_ite State.saf, apply_ite Saf.roleConfirmed, apply_ite Prod.snd, apply_ite Prod.fst]
@[simp] theorem driveOuten_saf_roleCause (b : Bool) (s : State) : (driveOuten b s).saf.roleCause = s.saf.roleCause := by
  unfold driveOuten
  (repeat' split) <;> first | rfl | simp [foldl_saf_roleCause, apply_ite State.saf, apply_ite Saf.roleCause, apply_ite Prod.snd, apply_ite Prod.fst]
@[simp] theorem driveOuten_saf_roleRefusals (b : Bool) (s : State) : (driveOuten b s).saf.roleRefusals = s.saf.roleRefusals := by
  unfold driveOuten
  (repeat' split) <;> first | rfl | simp [foldl_saf_roleRefusals, apply_ite State.saf, apply_ite Saf.roleRefusals, apply_ite Prod.snd, apply_ite Prod.fst]
@[simp] theorem driveOuten_saf_vmon (b : Bool) (s : State) : (driveOuten b s).saf.vmon = s.saf.vmon := by
  unfold driveOuten
  (repeat' split) <;> first | rfl | simp [foldl_saf_vmon, apply_ite State.saf, apply_ite Saf.vmon, apply_ite Prod.snd, apply_ite Prod.fst]
@[simp] theorem driveOuten_saf_tempBand (b : Bool) (s : State) : (driveOuten b s).saf.tempBand = s.saf.tempBand := by
  unfold driveOuten
  (repeat' split) <;> first | rfl | simp [foldl_saf_tempBand, apply_ite State.saf, apply_ite Saf.tempBand, apply_ite Prod.snd, apply_ite Prod.fst]
@[simp] theorem driveOuten_saf_tj (b : Bool) (s : State) : (driveOuten b s).saf.tj = s.saf.tj := by
  unfold driveOuten
  (repeat' split) <;> first | rfl | simp [foldl_saf_tj, apply_ite State.saf, apply_ite Saf.tj, apply_ite Prod.snd, apply_ite Prod.fst]
@[simp] theorem driveOuten_saf_pfailLow (b : Bool) (s : State) : (driveOuten b s).saf.pfailLow = s.saf.pfailLow := by
  unfold driveOuten
  (repeat' split) <;> first | rfl | simp [foldl_saf_pfailLow, apply_ite State.saf, apply_ite Saf.pfailLow, apply_ite Prod.snd, apply_ite Prod.fst]
@[simp] theorem driveOuten_saf_pfailRoseUp (b : Bool) (s : State) : (driveOuten b s).saf.pfailRoseUp = s.saf.pfailRoseUp := by
  unfold driveOuten
  (repeat' split) <;> first | rfl | simp [foldl_saf_pfailRoseUp, apply_ite State.saf, apply_ite Saf.pfailRoseUp, apply_ite Prod.snd, apply_ite Prod.fst]
@[simp] theorem driveOuten_saf_wdg (b : Bool) (s : State) : (driveOuten b s).saf.wdg = s.saf.wdg := by
  unfold driveOuten
  (repeat' split) <;> first | rfl | simp [foldl_saf_wdg, apply_ite State.saf, apply_ite Saf.wdg, apply_ite Prod.snd, apply_ite Prod.fst]
@[simp] theorem openGates_saf_spOk (s : State) : (openGates s).saf.spOk = s.saf.spOk := by
  unfold openGates
  (repeat' split) <;> first | rfl | simp [foldl_saf_spOk, apply_ite State.saf, apply_ite Saf.spOk, apply_ite Prod.snd, apply_ite Prod.fst]
@[simp] theorem openGates_saf_safeOk (s : State) : (openGates s).saf.safeOk = s.saf.safeOk := by
  unfold openGates
  (repeat' split) <;> first | rfl | simp [foldl_saf_safeOk, apply_ite State.saf, apply_ite Saf.safeOk, apply_ite Prod.snd, apply_ite Prod.fst]
@[simp] theorem openGates_saf_claimsLocked (s : State) : (openGates s).saf.claimsLocked = s.saf.claimsLocked := by
  unfold openGates
  (repeat' split) <;> first | rfl | simp [foldl_saf_claimsLocked, apply_ite State.saf, apply_ite Saf.claimsLocked, apply_ite Prod.snd, apply_ite Prod.fst]
@[simp] theorem openGates_saf_fwLocked (s : State) : (openGates s).saf.fwLocked = s.saf.fwLocked := by
  unfold openGates
  (repeat' split) <;> first | rfl | simp [foldl_saf_fwLocked, apply_ite State.saf, apply_ite Saf.fwLocked, apply_ite Prod.snd, apply_ite Prod.fst]
@[simp] theorem openGates_saf_s1Passed (s : State) : (openGates s).saf.s1Passed = s.saf.s1Passed := by
  unfold openGates
  (repeat' split) <;> first | rfl | simp [foldl_saf_s1Passed, apply_ite State.saf, apply_ite Saf.s1Passed, apply_ite Prod.snd, apply_ite Prod.fst]
@[simp] theorem openGates_saf_checker (s : State) : (openGates s).saf.checker = s.saf.checker := by
  unfold openGates
  (repeat' split) <;> first | rfl | simp [foldl_saf_checker, apply_ite State.saf, apply_ite Saf.checker, apply_ite Prod.snd, apply_ite Prod.fst]
@[simp] theorem openGates_saf_outenHeld (s : State) : (openGates s).saf.outenHeld = s.saf.outenHeld := by
  unfold openGates
  (repeat' split) <;> first | rfl | simp [foldl_saf_outenHeld, apply_ite State.saf, apply_ite Saf.outenHeld, apply_ite Prod.snd, apply_ite Prod.fst]
@[simp] theorem openGates_saf_frozen (s : State) : (openGates s).saf.frozen = s.saf.frozen := by
  unfold openGates
  (repeat' split) <;> first | rfl | simp [foldl_saf_frozen, apply_ite State.saf, apply_ite Saf.frozen, apply_ite Prod.snd, apply_ite Prod.fst]
@[simp] theorem openGates_saf_freeze (s : State) : (openGates s).saf.freeze = s.saf.freeze := by
  unfold openGates
  (repeat' split) <;> first | rfl | simp [foldl_saf_freeze, apply_ite State.saf, apply_ite Saf.freeze, apply_ite Prod.snd, apply_ite Prod.fst]
@[simp] theorem openGates_saf_latch (s : State) : (openGates s).saf.latch = s.saf.latch := by
  unfold openGates
  (repeat' split) <;> first | rfl | simp [foldl_saf_latch, apply_ite State.saf, apply_ite Saf.latch, apply_ite Prod.snd, apply_ite Prod.fst]
@[simp] theorem openGates_saf_unack (s : State) : (openGates s).saf.unack = s.saf.unack := by
  unfold openGates
  (repeat' split) <;> first | rfl | simp [foldl_saf_unack, apply_ite State.saf, apply_ite Saf.unack, apply_ite Prod.snd, apply_ite Prod.fst]
@[simp] theorem openGates_saf_raised (s : State) : (openGates s).saf.raised = s.saf.raised := by
  unfold openGates
  (repeat' split) <;> first | rfl | simp [foldl_saf_raised, apply_ite State.saf, apply_ite Saf.raised, apply_ite Prod.snd, apply_ite Prod.fst]
@[simp] theorem openGates_saf_roleConfirmed (s : State) : (openGates s).saf.roleConfirmed = s.saf.roleConfirmed := by
  unfold openGates
  (repeat' split) <;> first | rfl | simp [foldl_saf_roleConfirmed, apply_ite State.saf, apply_ite Saf.roleConfirmed, apply_ite Prod.snd, apply_ite Prod.fst]
@[simp] theorem openGates_saf_roleCause (s : State) : (openGates s).saf.roleCause = s.saf.roleCause := by
  unfold openGates
  (repeat' split) <;> first | rfl | simp [foldl_saf_roleCause, apply_ite State.saf, apply_ite Saf.roleCause, apply_ite Prod.snd, apply_ite Prod.fst]
@[simp] theorem openGates_saf_roleRefusals (s : State) : (openGates s).saf.roleRefusals = s.saf.roleRefusals := by
  unfold openGates
  (repeat' split) <;> first | rfl | simp [foldl_saf_roleRefusals, apply_ite State.saf, apply_ite Saf.roleRefusals, apply_ite Prod.snd, apply_ite Prod.fst]
@[simp] theorem openGates_saf_vmon (s : State) : (openGates s).saf.vmon = s.saf.vmon := by
  unfold openGates
  (repeat' split) <;> first | rfl | simp [foldl_saf_vmon, apply_ite State.saf, apply_ite Saf.vmon, apply_ite Prod.snd, apply_ite Prod.fst]
@[simp] theorem openGates_saf_tempBand (s : State) : (openGates s).saf.tempBand = s.saf.tempBand := by
  unfold openGates
  (repeat' split) <;> first | rfl | simp [foldl_saf_tempBand, apply_ite State.saf, apply_ite Saf.tempBand, apply_ite Prod.snd, apply_ite Prod.fst]
@[simp] theorem openGates_saf_tj (s : State) : (openGates s).saf.tj = s.saf.tj := by
  unfold openGates
  (repeat' split) <;> first | rfl | simp [foldl_saf_tj, apply_ite State.saf, apply_ite Saf.tj, apply_ite Prod.snd, apply_ite Prod.fst]
@[simp] theorem openGates_saf_pfailLow (s : State) : (openGates s).saf.pfailLow = s.saf.pfailLow := by
  unfold openGates
  (repeat' split) <;> first | rfl | simp [foldl_saf_pfailLow, apply_ite State.saf, apply_ite Saf.pfailLow, apply_ite Prod.snd, apply_ite Prod.fst]
@[simp] theorem openGates_saf_pfailRoseUp (s : State) : (openGates s).saf.pfailRoseUp = s.saf.pfailRoseUp := by
  unfold openGates
  (repeat' split) <;> first | rfl | simp [foldl_saf_pfailRoseUp, apply_ite State.saf, apply_ite Saf.pfailRoseUp, apply_ite Prod.snd, apply_ite Prod.fst]
@[simp] theorem openGates_saf_wdg (s : State) : (openGates s).saf.wdg = s.saf.wdg := by
  unfold openGates
  (repeat' split) <;> first | rfl | simp [foldl_saf_wdg, apply_ite State.saf, apply_ite Saf.wdg, apply_ite Prod.snd, apply_ite Prod.fst]
@[simp] theorem closeGates_saf_spOk (sending : BitVec 8) (s : State) : (closeGates sending s).saf.spOk = s.saf.spOk := by
  unfold closeGates
  (repeat' split) <;> first | rfl | simp [foldl_saf_spOk, apply_ite State.saf, apply_ite Saf.spOk, apply_ite Prod.snd, apply_ite Prod.fst]
@[simp] theorem closeGates_saf_safeOk (sending : BitVec 8) (s : State) : (closeGates sending s).saf.safeOk = s.saf.safeOk := by
  unfold closeGates
  (repeat' split) <;> first | rfl | simp [foldl_saf_safeOk, apply_ite State.saf, apply_ite Saf.safeOk, apply_ite Prod.snd, apply_ite Prod.fst]
@[simp] theorem closeGates_saf_claimsLocked (sending : BitVec 8) (s : State) : (closeGates sending s).saf.claimsLocked = s.saf.claimsLocked := by
  unfold closeGates
  (repeat' split) <;> first | rfl | simp [foldl_saf_claimsLocked, apply_ite State.saf, apply_ite Saf.claimsLocked, apply_ite Prod.snd, apply_ite Prod.fst]
@[simp] theorem closeGates_saf_fwLocked (sending : BitVec 8) (s : State) : (closeGates sending s).saf.fwLocked = s.saf.fwLocked := by
  unfold closeGates
  (repeat' split) <;> first | rfl | simp [foldl_saf_fwLocked, apply_ite State.saf, apply_ite Saf.fwLocked, apply_ite Prod.snd, apply_ite Prod.fst]
@[simp] theorem closeGates_saf_s1Passed (sending : BitVec 8) (s : State) : (closeGates sending s).saf.s1Passed = s.saf.s1Passed := by
  unfold closeGates
  (repeat' split) <;> first | rfl | simp [foldl_saf_s1Passed, apply_ite State.saf, apply_ite Saf.s1Passed, apply_ite Prod.snd, apply_ite Prod.fst]
@[simp] theorem closeGates_saf_checker (sending : BitVec 8) (s : State) : (closeGates sending s).saf.checker = s.saf.checker := by
  unfold closeGates
  (repeat' split) <;> first | rfl | simp [foldl_saf_checker, apply_ite State.saf, apply_ite Saf.checker, apply_ite Prod.snd, apply_ite Prod.fst]
@[simp] theorem closeGates_saf_keepAlive (sending : BitVec 8) (s : State) : (closeGates sending s).saf.keepAlive = s.saf.keepAlive := by
  unfold closeGates
  (repeat' split) <;> first | rfl | simp [foldl_saf_keepAlive, apply_ite State.saf, apply_ite Saf.keepAlive, apply_ite Prod.snd, apply_ite Prod.fst]
@[simp] theorem closeGates_saf_outenHeld (sending : BitVec 8) (s : State) : (closeGates sending s).saf.outenHeld = s.saf.outenHeld := by
  unfold closeGates
  (repeat' split) <;> first | rfl | simp [foldl_saf_outenHeld, apply_ite State.saf, apply_ite Saf.outenHeld, apply_ite Prod.snd, apply_ite Prod.fst]
@[simp] theorem closeGates_saf_frozen (sending : BitVec 8) (s : State) : (closeGates sending s).saf.frozen = s.saf.frozen := by
  unfold closeGates
  (repeat' split) <;> first | rfl | simp [foldl_saf_frozen, apply_ite State.saf, apply_ite Saf.frozen, apply_ite Prod.snd, apply_ite Prod.fst]
@[simp] theorem closeGates_saf_freeze (sending : BitVec 8) (s : State) : (closeGates sending s).saf.freeze = s.saf.freeze := by
  unfold closeGates
  (repeat' split) <;> first | rfl | simp [foldl_saf_freeze, apply_ite State.saf, apply_ite Saf.freeze, apply_ite Prod.snd, apply_ite Prod.fst]
@[simp] theorem closeGates_saf_latch (sending : BitVec 8) (s : State) : (closeGates sending s).saf.latch = s.saf.latch := by
  unfold closeGates
  (repeat' split) <;> first | rfl | simp [foldl_saf_latch, apply_ite State.saf, apply_ite Saf.latch, apply_ite Prod.snd, apply_ite Prod.fst]
@[simp] theorem closeGates_saf_unack (sending : BitVec 8) (s : State) : (closeGates sending s).saf.unack = s.saf.unack := by
  unfold closeGates
  (repeat' split) <;> first | rfl | simp [foldl_saf_unack, apply_ite State.saf, apply_ite Saf.unack, apply_ite Prod.snd, apply_ite Prod.fst]
@[simp] theorem closeGates_saf_raised (sending : BitVec 8) (s : State) : (closeGates sending s).saf.raised = s.saf.raised := by
  unfold closeGates
  (repeat' split) <;> first | rfl | simp [foldl_saf_raised, apply_ite State.saf, apply_ite Saf.raised, apply_ite Prod.snd, apply_ite Prod.fst]
@[simp] theorem closeGates_saf_roleCause (sending : BitVec 8) (s : State) : (closeGates sending s).saf.roleCause = s.saf.roleCause := by
  unfold closeGates
  (repeat' split) <;> first | rfl | simp [foldl_saf_roleCause, apply_ite State.saf, apply_ite Saf.roleCause, apply_ite Prod.snd, apply_ite Prod.fst]
@[simp] theorem closeGates_saf_roleRefusals (sending : BitVec 8) (s : State) : (closeGates sending s).saf.roleRefusals = s.saf.roleRefusals := by
  unfold closeGates
  (repeat' split) <;> first | rfl | simp [foldl_saf_roleRefusals, apply_ite State.saf, apply_ite Saf.roleRefusals, apply_ite Prod.snd, apply_ite Prod.fst]
@[simp] theorem closeGates_saf_vmon (sending : BitVec 8) (s : State) : (closeGates sending s).saf.vmon = s.saf.vmon := by
  unfold closeGates
  (repeat' split) <;> first | rfl | simp [foldl_saf_vmon, apply_ite State.saf, apply_ite Saf.vmon, apply_ite Prod.snd, apply_ite Prod.fst]
@[simp] theorem closeGates_saf_tempBand (sending : BitVec 8) (s : State) : (closeGates sending s).saf.tempBand = s.saf.tempBand := by
  unfold closeGates
  (repeat' split) <;> first | rfl | simp [foldl_saf_tempBand, apply_ite State.saf, apply_ite Saf.tempBand, apply_ite Prod.snd, apply_ite Prod.fst]
@[simp] theorem closeGates_saf_tj (sending : BitVec 8) (s : State) : (closeGates sending s).saf.tj = s.saf.tj := by
  unfold closeGates
  (repeat' split) <;> first | rfl | simp [foldl_saf_tj, apply_ite State.saf, apply_ite Saf.tj, apply_ite Prod.snd, apply_ite Prod.fst]
@[simp] theorem closeGates_saf_pfailLow (sending : BitVec 8) (s : State) : (closeGates sending s).saf.pfailLow = s.saf.pfailLow := by
  unfold closeGates
  (repeat' split) <;> first | rfl | simp [foldl_saf_pfailLow, apply_ite State.saf, apply_ite Saf.pfailLow, apply_ite Prod.snd, apply_ite Prod.fst]
@[simp] theorem closeGates_saf_pfailRoseUp (sending : BitVec 8) (s : State) : (closeGates sending s).saf.pfailRoseUp = s.saf.pfailRoseUp := by
  unfold closeGates
  (repeat' split) <;> first | rfl | simp [foldl_saf_pfailRoseUp, apply_ite State.saf, apply_ite Saf.pfailRoseUp, apply_ite Prod.snd, apply_ite Prod.fst]
@[simp] theorem closeGates_saf_wdg (sending : BitVec 8) (s : State) : (closeGates sending s).saf.wdg = s.saf.wdg := by
  unfold closeGates
  (repeat' split) <;> first | rfl | simp [foldl_saf_wdg, apply_ite State.saf, apply_ite Saf.wdg, apply_ite Prod.snd, apply_ite Prod.fst]
@[simp] theorem cutGates_saf_spOk (s : State) : (cutGates s).saf.spOk = s.saf.spOk := by
  unfold cutGates
  (repeat' split) <;> first | rfl | simp [foldl_saf_spOk, apply_ite State.saf, apply_ite Saf.spOk, apply_ite Prod.snd, apply_ite Prod.fst]
@[simp] theorem cutGates_saf_safeOk (s : State) : (cutGates s).saf.safeOk = s.saf.safeOk := by
  unfold cutGates
  (repeat' split) <;> first | rfl | simp [foldl_saf_safeOk, apply_ite State.saf, apply_ite Saf.safeOk, apply_ite Prod.snd, apply_ite Prod.fst]
@[simp] theorem cutGates_saf_claimsLocked (s : State) : (cutGates s).saf.claimsLocked = s.saf.claimsLocked := by
  unfold cutGates
  (repeat' split) <;> first | rfl | simp [foldl_saf_claimsLocked, apply_ite State.saf, apply_ite Saf.claimsLocked, apply_ite Prod.snd, apply_ite Prod.fst]
@[simp] theorem cutGates_saf_fwLocked (s : State) : (cutGates s).saf.fwLocked = s.saf.fwLocked := by
  unfold cutGates
  (repeat' split) <;> first | rfl | simp [foldl_saf_fwLocked, apply_ite State.saf, apply_ite Saf.fwLocked, apply_ite Prod.snd, apply_ite Prod.fst]
@[simp] theorem cutGates_saf_s1Passed (s : State) : (cutGates s).saf.s1Passed = s.saf.s1Passed := by
  unfold cutGates
  (repeat' split) <;> first | rfl | simp [foldl_saf_s1Passed, apply_ite State.saf, apply_ite Saf.s1Passed, apply_ite Prod.snd, apply_ite Prod.fst]
@[simp] theorem cutGates_saf_checker (s : State) : (cutGates s).saf.checker = s.saf.checker := by
  unfold cutGates
  (repeat' split) <;> first | rfl | simp [foldl_saf_checker, apply_ite State.saf, apply_ite Saf.checker, apply_ite Prod.snd, apply_ite Prod.fst]
@[simp] theorem cutGates_saf_outenHeld (s : State) : (cutGates s).saf.outenHeld = s.saf.outenHeld := by
  unfold cutGates
  (repeat' split) <;> first | rfl | simp [foldl_saf_outenHeld, apply_ite State.saf, apply_ite Saf.outenHeld, apply_ite Prod.snd, apply_ite Prod.fst]
@[simp] theorem cutGates_saf_frozen (s : State) : (cutGates s).saf.frozen = s.saf.frozen := by
  unfold cutGates
  (repeat' split) <;> first | rfl | simp [foldl_saf_frozen, apply_ite State.saf, apply_ite Saf.frozen, apply_ite Prod.snd, apply_ite Prod.fst]
@[simp] theorem cutGates_saf_freeze (s : State) : (cutGates s).saf.freeze = s.saf.freeze := by
  unfold cutGates
  (repeat' split) <;> first | rfl | simp [foldl_saf_freeze, apply_ite State.saf, apply_ite Saf.freeze, apply_ite Prod.snd, apply_ite Prod.fst]
@[simp] theorem cutGates_saf_latch (s : State) : (cutGates s).saf.latch = s.saf.latch := by
  unfold cutGates
  (repeat' split) <;> first | rfl | simp [foldl_saf_latch, apply_ite State.saf, apply_ite Saf.latch, apply_ite Prod.snd, apply_ite Prod.fst]
@[simp] theorem cutGates_saf_unack (s : State) : (cutGates s).saf.unack = s.saf.unack := by
  unfold cutGates
  (repeat' split) <;> first | rfl | simp [foldl_saf_unack, apply_ite State.saf, apply_ite Saf.unack, apply_ite Prod.snd, apply_ite Prod.fst]
@[simp] theorem cutGates_saf_raised (s : State) : (cutGates s).saf.raised = s.saf.raised := by
  unfold cutGates
  (repeat' split) <;> first | rfl | simp [foldl_saf_raised, apply_ite State.saf, apply_ite Saf.raised, apply_ite Prod.snd, apply_ite Prod.fst]
@[simp] theorem cutGates_saf_roleCause (s : State) : (cutGates s).saf.roleCause = s.saf.roleCause := by
  unfold cutGates
  (repeat' split) <;> first | rfl | simp [foldl_saf_roleCause, apply_ite State.saf, apply_ite Saf.roleCause, apply_ite Prod.snd, apply_ite Prod.fst]
@[simp] theorem cutGates_saf_roleRefusals (s : State) : (cutGates s).saf.roleRefusals = s.saf.roleRefusals := by
  unfold cutGates
  (repeat' split) <;> first | rfl | simp [foldl_saf_roleRefusals, apply_ite State.saf, apply_ite Saf.roleRefusals, apply_ite Prod.snd, apply_ite Prod.fst]
@[simp] theorem cutGates_saf_vmon (s : State) : (cutGates s).saf.vmon = s.saf.vmon := by
  unfold cutGates
  (repeat' split) <;> first | rfl | simp [foldl_saf_vmon, apply_ite State.saf, apply_ite Saf.vmon, apply_ite Prod.snd, apply_ite Prod.fst]
@[simp] theorem cutGates_saf_tempBand (s : State) : (cutGates s).saf.tempBand = s.saf.tempBand := by
  unfold cutGates
  (repeat' split) <;> first | rfl | simp [foldl_saf_tempBand, apply_ite State.saf, apply_ite Saf.tempBand, apply_ite Prod.snd, apply_ite Prod.fst]
@[simp] theorem cutGates_saf_tj (s : State) : (cutGates s).saf.tj = s.saf.tj := by
  unfold cutGates
  (repeat' split) <;> first | rfl | simp [foldl_saf_tj, apply_ite State.saf, apply_ite Saf.tj, apply_ite Prod.snd, apply_ite Prod.fst]
@[simp] theorem cutGates_saf_pfailLow (s : State) : (cutGates s).saf.pfailLow = s.saf.pfailLow := by
  unfold cutGates
  (repeat' split) <;> first | rfl | simp [foldl_saf_pfailLow, apply_ite State.saf, apply_ite Saf.pfailLow, apply_ite Prod.snd, apply_ite Prod.fst]
@[simp] theorem cutGates_saf_pfailRoseUp (s : State) : (cutGates s).saf.pfailRoseUp = s.saf.pfailRoseUp := by
  unfold cutGates
  (repeat' split) <;> first | rfl | simp [foldl_saf_pfailRoseUp, apply_ite State.saf, apply_ite Saf.pfailRoseUp, apply_ite Prod.snd, apply_ite Prod.fst]
@[simp] theorem cutGates_saf_wdg (s : State) : (cutGates s).saf.wdg = s.saf.wdg := by
  unfold cutGates
  (repeat' split) <;> first | rfl | simp [foldl_saf_wdg, apply_ite State.saf, apply_ite Saf.wdg, apply_ite Prod.snd, apply_ite Prod.fst]
@[simp] theorem enterState_sys_level (new : DevState) (cause : Nat) (s : State) : (enterState new cause s).sys.level = s.sys.level := by
  unfold enterState
  (repeat' split) <;> first | rfl | simp [foldl_sys_level, apply_ite State.sys, apply_ite Sys.level, apply_ite Prod.snd, apply_ite Prod.fst]
@[simp] theorem enterState_sys_levelNext (new : DevState) (cause : Nat) (s : State) : (enterState new cause s).sys.levelNext = s.sys.levelNext := by
  unfold enterState
  (repeat' split) <;> first | rfl | simp [foldl_sys_levelNext, apply_ite State.sys, apply_ite Sys.levelNext, apply_ite Prod.snd, apply_ite Prod.fst]
@[simp] theorem enterState_sys_healthSeq (new : DevState) (cause : Nat) (s : State) : (enterState new cause s).sys.healthSeq = s.sys.healthSeq := by
  unfold enterState
  (repeat' split) <;> first | rfl | simp [foldl_sys_healthSeq, apply_ite State.sys, apply_ite Sys.healthSeq, apply_ite Prod.snd, apply_ite Prod.fst]
@[simp] theorem enterState_sys_eccUncorr (new : DevState) (cause : Nat) (s : State) : (enterState new cause s).sys.eccUncorr = s.sys.eccUncorr := by
  unfold enterState
  (repeat' split) <;> first | rfl | simp [foldl_sys_eccUncorr, apply_ite State.sys, apply_ite Sys.eccUncorr, apply_ite Prod.snd, apply_ite Prod.fst]
@[simp] theorem enterState_sys_eccCorrCnt (new : DevState) (cause : Nat) (s : State) : (enterState new cause s).sys.eccCorrCnt = s.sys.eccCorrCnt := by
  unfold enterState
  (repeat' split) <;> first | rfl | simp [foldl_sys_eccCorrCnt, apply_ite State.sys, apply_ite Sys.eccCorrCnt, apply_ite Prod.snd, apply_ite Prod.fst]
@[simp] theorem enterState_sys_eccUncorrAddr (new : DevState) (cause : Nat) (s : State) : (enterState new cause s).sys.eccUncorrAddr = s.sys.eccUncorrAddr := by
  unfold enterState
  (repeat' split) <;> first | rfl | simp [foldl_sys_eccUncorrAddr, apply_ite State.sys, apply_ite Sys.eccUncorrAddr, apply_ite Prod.snd, apply_ite Prod.fst]
@[simp] theorem enterState_sys_scrubAddr (new : DevState) (cause : Nat) (s : State) : (enterState new cause s).sys.scrubAddr = s.sys.scrubAddr := by
  unfold enterState
  (repeat' split) <;> first | rfl | simp [foldl_sys_scrubAddr, apply_ite State.sys, apply_ite Sys.scrubAddr, apply_ite Prod.snd, apply_ite Prod.fst]
@[simp] theorem enterState_sys_eccMarks (new : DevState) (cause : Nat) (s : State) : (enterState new cause s).sys.eccMarks = s.sys.eccMarks := by
  unfold enterState
  (repeat' split) <;> first | rfl | simp [foldl_sys_eccMarks, apply_ite State.sys, apply_ite Sys.eccMarks, apply_ite Prod.snd, apply_ite Prod.fst]
@[simp] theorem armWatchdogs_saf_spOk (s : State) : (armWatchdogs s).saf.spOk = s.saf.spOk := by
  unfold armWatchdogs
  (repeat' split) <;> first | rfl | simp [foldl_saf_spOk, apply_ite State.saf, apply_ite Saf.spOk, apply_ite Prod.snd, apply_ite Prod.fst]
@[simp] theorem armWatchdogs_saf_safeOk (s : State) : (armWatchdogs s).saf.safeOk = s.saf.safeOk := by
  unfold armWatchdogs
  (repeat' split) <;> first | rfl | simp [foldl_saf_safeOk, apply_ite State.saf, apply_ite Saf.safeOk, apply_ite Prod.snd, apply_ite Prod.fst]
@[simp] theorem armWatchdogs_saf_claimsLocked (s : State) : (armWatchdogs s).saf.claimsLocked = s.saf.claimsLocked := by
  unfold armWatchdogs
  (repeat' split) <;> first | rfl | simp [foldl_saf_claimsLocked, apply_ite State.saf, apply_ite Saf.claimsLocked, apply_ite Prod.snd, apply_ite Prod.fst]
@[simp] theorem armWatchdogs_saf_fwLocked (s : State) : (armWatchdogs s).saf.fwLocked = s.saf.fwLocked := by
  unfold armWatchdogs
  (repeat' split) <;> first | rfl | simp [foldl_saf_fwLocked, apply_ite State.saf, apply_ite Saf.fwLocked, apply_ite Prod.snd, apply_ite Prod.fst]
@[simp] theorem armWatchdogs_saf_s1Passed (s : State) : (armWatchdogs s).saf.s1Passed = s.saf.s1Passed := by
  unfold armWatchdogs
  (repeat' split) <;> first | rfl | simp [foldl_saf_s1Passed, apply_ite State.saf, apply_ite Saf.s1Passed, apply_ite Prod.snd, apply_ite Prod.fst]
@[simp] theorem armWatchdogs_saf_checker (s : State) : (armWatchdogs s).saf.checker = s.saf.checker := by
  unfold armWatchdogs
  (repeat' split) <;> first | rfl | simp [foldl_saf_checker, apply_ite State.saf, apply_ite Saf.checker, apply_ite Prod.snd, apply_ite Prod.fst]
@[simp] theorem armWatchdogs_saf_keepAlive (s : State) : (armWatchdogs s).saf.keepAlive = s.saf.keepAlive := by
  unfold armWatchdogs
  (repeat' split) <;> first | rfl | simp [foldl_saf_keepAlive, apply_ite State.saf, apply_ite Saf.keepAlive, apply_ite Prod.snd, apply_ite Prod.fst]
@[simp] theorem armWatchdogs_saf_gatePwm (s : State) : (armWatchdogs s).saf.gatePwm = s.saf.gatePwm := by
  unfold armWatchdogs
  (repeat' split) <;> first | rfl | simp [foldl_saf_gatePwm, apply_ite State.saf, apply_ite Saf.gatePwm, apply_ite Prod.snd, apply_ite Prod.fst]
@[simp] theorem armWatchdogs_saf_gateMbc (s : State) : (armWatchdogs s).saf.gateMbc = s.saf.gateMbc := by
  unfold armWatchdogs
  (repeat' split) <;> first | rfl | simp [foldl_saf_gateMbc, apply_ite State.saf, apply_ite Saf.gateMbc, apply_ite Prod.snd, apply_ite Prod.fst]
@[simp] theorem armWatchdogs_saf_gatePdiv (s : State) : (armWatchdogs s).saf.gatePdiv = s.saf.gatePdiv := by
  unfold armWatchdogs
  (repeat' split) <;> first | rfl | simp [foldl_saf_gatePdiv, apply_ite State.saf, apply_ite Saf.gatePdiv, apply_ite Prod.snd, apply_ite Prod.fst]
@[simp] theorem armWatchdogs_saf_gateSync (s : State) : (armWatchdogs s).saf.gateSync = s.saf.gateSync := by
  unfold armWatchdogs
  (repeat' split) <;> first | rfl | simp [foldl_saf_gateSync, apply_ite State.saf, apply_ite Saf.gateSync, apply_ite Prod.snd, apply_ite Prod.fst]
@[simp] theorem armWatchdogs_saf_mbcClosing (s : State) : (armWatchdogs s).saf.mbcClosing = s.saf.mbcClosing := by
  unfold armWatchdogs
  (repeat' split) <;> first | rfl | simp [foldl_saf_mbcClosing, apply_ite State.saf, apply_ite Saf.mbcClosing, apply_ite Prod.snd, apply_ite Prod.fst]
@[simp] theorem armWatchdogs_saf_outenDrive (s : State) : (armWatchdogs s).saf.outenDrive = s.saf.outenDrive := by
  unfold armWatchdogs
  (repeat' split) <;> first | rfl | simp [foldl_saf_outenDrive, apply_ite State.saf, apply_ite Saf.outenDrive, apply_ite Prod.snd, apply_ite Prod.fst]
@[simp] theorem armWatchdogs_saf_outenHeld (s : State) : (armWatchdogs s).saf.outenHeld = s.saf.outenHeld := by
  unfold armWatchdogs
  (repeat' split) <;> first | rfl | simp [foldl_saf_outenHeld, apply_ite State.saf, apply_ite Saf.outenHeld, apply_ite Prod.snd, apply_ite Prod.fst]
@[simp] theorem armWatchdogs_saf_frozen (s : State) : (armWatchdogs s).saf.frozen = s.saf.frozen := by
  unfold armWatchdogs
  (repeat' split) <;> first | rfl | simp [foldl_saf_frozen, apply_ite State.saf, apply_ite Saf.frozen, apply_ite Prod.snd, apply_ite Prod.fst]
@[simp] theorem armWatchdogs_saf_freeze (s : State) : (armWatchdogs s).saf.freeze = s.saf.freeze := by
  unfold armWatchdogs
  (repeat' split) <;> first | rfl | simp [foldl_saf_freeze, apply_ite State.saf, apply_ite Saf.freeze, apply_ite Prod.snd, apply_ite Prod.fst]
@[simp] theorem armWatchdogs_saf_present (s : State) : (armWatchdogs s).saf.present = s.saf.present := by
  unfold armWatchdogs
  (repeat' split) <;> first | rfl | simp [foldl_saf_present, apply_ite State.saf, apply_ite Saf.present, apply_ite Prod.snd, apply_ite Prod.fst]
@[simp] theorem armWatchdogs_saf_latch (s : State) : (armWatchdogs s).saf.latch = s.saf.latch := by
  unfold armWatchdogs
  (repeat' split) <;> first | rfl | simp [foldl_saf_latch, apply_ite State.saf, apply_ite Saf.latch, apply_ite Prod.snd, apply_ite Prod.fst]
@[simp] theorem armWatchdogs_saf_unack (s : State) : (armWatchdogs s).saf.unack = s.saf.unack := by
  unfold armWatchdogs
  (repeat' split) <;> first | rfl | simp [foldl_saf_unack, apply_ite State.saf, apply_ite Saf.unack, apply_ite Prod.snd, apply_ite Prod.fst]
@[simp] theorem armWatchdogs_saf_raised (s : State) : (armWatchdogs s).saf.raised = s.saf.raised := by
  unfold armWatchdogs
  (repeat' split) <;> first | rfl | simp [foldl_saf_raised, apply_ite State.saf, apply_ite Saf.raised, apply_ite Prod.snd, apply_ite Prod.fst]
@[simp] theorem armWatchdogs_saf_roleConfirmed (s : State) : (armWatchdogs s).saf.roleConfirmed = s.saf.roleConfirmed := by
  unfold armWatchdogs
  (repeat' split) <;> first | rfl | simp [foldl_saf_roleConfirmed, apply_ite State.saf, apply_ite Saf.roleConfirmed, apply_ite Prod.snd, apply_ite Prod.fst]
@[simp] theorem armWatchdogs_saf_roleCause (s : State) : (armWatchdogs s).saf.roleCause = s.saf.roleCause := by
  unfold armWatchdogs
  (repeat' split) <;> first | rfl | simp [foldl_saf_roleCause, apply_ite State.saf, apply_ite Saf.roleCause, apply_ite Prod.snd, apply_ite Prod.fst]
@[simp] theorem armWatchdogs_saf_roleRefusals (s : State) : (armWatchdogs s).saf.roleRefusals = s.saf.roleRefusals := by
  unfold armWatchdogs
  (repeat' split) <;> first | rfl | simp [foldl_saf_roleRefusals, apply_ite State.saf, apply_ite Saf.roleRefusals, apply_ite Prod.snd, apply_ite Prod.fst]
@[simp] theorem armWatchdogs_saf_vmon (s : State) : (armWatchdogs s).saf.vmon = s.saf.vmon := by
  unfold armWatchdogs
  (repeat' split) <;> first | rfl | simp [foldl_saf_vmon, apply_ite State.saf, apply_ite Saf.vmon, apply_ite Prod.snd, apply_ite Prod.fst]
@[simp] theorem armWatchdogs_saf_tempBand (s : State) : (armWatchdogs s).saf.tempBand = s.saf.tempBand := by
  unfold armWatchdogs
  (repeat' split) <;> first | rfl | simp [foldl_saf_tempBand, apply_ite State.saf, apply_ite Saf.tempBand, apply_ite Prod.snd, apply_ite Prod.fst]
@[simp] theorem armWatchdogs_saf_tj (s : State) : (armWatchdogs s).saf.tj = s.saf.tj := by
  unfold armWatchdogs
  (repeat' split) <;> first | rfl | simp [foldl_saf_tj, apply_ite State.saf, apply_ite Saf.tj, apply_ite Prod.snd, apply_ite Prod.fst]
@[simp] theorem armWatchdogs_saf_pfailLow (s : State) : (armWatchdogs s).saf.pfailLow = s.saf.pfailLow := by
  unfold armWatchdogs
  (repeat' split) <;> first | rfl | simp [foldl_saf_pfailLow, apply_ite State.saf, apply_ite Saf.pfailLow, apply_ite Prod.snd, apply_ite Prod.fst]
@[simp] theorem armWatchdogs_saf_pfailRoseUp (s : State) : (armWatchdogs s).saf.pfailRoseUp = s.saf.pfailRoseUp := by
  unfold armWatchdogs
  (repeat' split) <;> first | rfl | simp [foldl_saf_pfailRoseUp, apply_ite State.saf, apply_ite Saf.pfailRoseUp, apply_ite Prod.snd, apply_ite Prod.fst]
@[simp] theorem enterFailed_saf_spOk (cause : Nat) (s : State) : (enterFailed cause s).saf.spOk = s.saf.spOk := by
  unfold enterFailed
  (repeat' split) <;> first | rfl | simp [foldl_saf_spOk, apply_ite State.saf, apply_ite Saf.spOk, apply_ite Prod.snd, apply_ite Prod.fst]
@[simp] theorem enterFailed_saf_safeOk (cause : Nat) (s : State) : (enterFailed cause s).saf.safeOk = s.saf.safeOk := by
  unfold enterFailed
  (repeat' split) <;> first | rfl | simp [foldl_saf_safeOk, apply_ite State.saf, apply_ite Saf.safeOk, apply_ite Prod.snd, apply_ite Prod.fst]
@[simp] theorem enterFailed_saf_claimsLocked (cause : Nat) (s : State) : (enterFailed cause s).saf.claimsLocked = s.saf.claimsLocked := by
  unfold enterFailed
  (repeat' split) <;> first | rfl | simp [foldl_saf_claimsLocked, apply_ite State.saf, apply_ite Saf.claimsLocked, apply_ite Prod.snd, apply_ite Prod.fst]
@[simp] theorem enterFailed_saf_fwLocked (cause : Nat) (s : State) : (enterFailed cause s).saf.fwLocked = s.saf.fwLocked := by
  unfold enterFailed
  (repeat' split) <;> first | rfl | simp [foldl_saf_fwLocked, apply_ite State.saf, apply_ite Saf.fwLocked, apply_ite Prod.snd, apply_ite Prod.fst]
@[simp] theorem enterFailed_saf_s1Passed (cause : Nat) (s : State) : (enterFailed cause s).saf.s1Passed = s.saf.s1Passed := by
  unfold enterFailed
  (repeat' split) <;> first | rfl | simp [foldl_saf_s1Passed, apply_ite State.saf, apply_ite Saf.s1Passed, apply_ite Prod.snd, apply_ite Prod.fst]
@[simp] theorem enterFailed_saf_checker (cause : Nat) (s : State) : (enterFailed cause s).saf.checker = s.saf.checker := by
  unfold enterFailed
  (repeat' split) <;> first | rfl | simp [foldl_saf_checker, apply_ite State.saf, apply_ite Saf.checker, apply_ite Prod.snd, apply_ite Prod.fst]
@[simp] theorem enterFailed_saf_keepAlive (cause : Nat) (s : State) : (enterFailed cause s).saf.keepAlive = s.saf.keepAlive := by
  unfold enterFailed
  (repeat' split) <;> first | rfl | simp [foldl_saf_keepAlive, apply_ite State.saf, apply_ite Saf.keepAlive, apply_ite Prod.snd, apply_ite Prod.fst]
@[simp] theorem enterFailed_saf_gatePwm (cause : Nat) (s : State) : (enterFailed cause s).saf.gatePwm = s.saf.gatePwm := by
  unfold enterFailed
  (repeat' split) <;> first | rfl | simp [foldl_saf_gatePwm, apply_ite State.saf, apply_ite Saf.gatePwm, apply_ite Prod.snd, apply_ite Prod.fst]
@[simp] theorem enterFailed_saf_gateMbc (cause : Nat) (s : State) : (enterFailed cause s).saf.gateMbc = s.saf.gateMbc := by
  unfold enterFailed
  (repeat' split) <;> first | rfl | simp [foldl_saf_gateMbc, apply_ite State.saf, apply_ite Saf.gateMbc, apply_ite Prod.snd, apply_ite Prod.fst]
@[simp] theorem enterFailed_saf_gatePdiv (cause : Nat) (s : State) : (enterFailed cause s).saf.gatePdiv = s.saf.gatePdiv := by
  unfold enterFailed
  (repeat' split) <;> first | rfl | simp [foldl_saf_gatePdiv, apply_ite State.saf, apply_ite Saf.gatePdiv, apply_ite Prod.snd, apply_ite Prod.fst]
@[simp] theorem enterFailed_saf_gateSync (cause : Nat) (s : State) : (enterFailed cause s).saf.gateSync = s.saf.gateSync := by
  unfold enterFailed
  (repeat' split) <;> first | rfl | simp [foldl_saf_gateSync, apply_ite State.saf, apply_ite Saf.gateSync, apply_ite Prod.snd, apply_ite Prod.fst]
@[simp] theorem enterFailed_saf_mbcClosing (cause : Nat) (s : State) : (enterFailed cause s).saf.mbcClosing = s.saf.mbcClosing := by
  unfold enterFailed
  (repeat' split) <;> first | rfl | simp [foldl_saf_mbcClosing, apply_ite State.saf, apply_ite Saf.mbcClosing, apply_ite Prod.snd, apply_ite Prod.fst]
@[simp] theorem enterFailed_saf_outenDrive (cause : Nat) (s : State) : (enterFailed cause s).saf.outenDrive = s.saf.outenDrive := by
  unfold enterFailed
  (repeat' split) <;> first | rfl | simp [foldl_saf_outenDrive, apply_ite State.saf, apply_ite Saf.outenDrive, apply_ite Prod.snd, apply_ite Prod.fst]
@[simp] theorem enterFailed_saf_outenHeld (cause : Nat) (s : State) : (enterFailed cause s).saf.outenHeld = s.saf.outenHeld := by
  unfold enterFailed
  (repeat' split) <;> first | rfl | simp [foldl_saf_outenHeld, apply_ite State.saf, apply_ite Saf.outenHeld, apply_ite Prod.snd, apply_ite Prod.fst]
@[simp] theorem enterFailed_saf_frozen (cause : Nat) (s : State) : (enterFailed cause s).saf.frozen = s.saf.frozen := by
  unfold enterFailed
  (repeat' split) <;> first | rfl | simp [foldl_saf_frozen, apply_ite State.saf, apply_ite Saf.frozen, apply_ite Prod.snd, apply_ite Prod.fst]
@[simp] theorem enterFailed_saf_freeze (cause : Nat) (s : State) : (enterFailed cause s).saf.freeze = s.saf.freeze := by
  unfold enterFailed
  (repeat' split) <;> first | rfl | simp [foldl_saf_freeze, apply_ite State.saf, apply_ite Saf.freeze, apply_ite Prod.snd, apply_ite Prod.fst]
@[simp] theorem enterFailed_saf_present (cause : Nat) (s : State) : (enterFailed cause s).saf.present = s.saf.present := by
  unfold enterFailed
  (repeat' split) <;> first | rfl | simp [foldl_saf_present, apply_ite State.saf, apply_ite Saf.present, apply_ite Prod.snd, apply_ite Prod.fst]
@[simp] theorem enterFailed_saf_latch (cause : Nat) (s : State) : (enterFailed cause s).saf.latch = s.saf.latch := by
  unfold enterFailed
  (repeat' split) <;> first | rfl | simp [foldl_saf_latch, apply_ite State.saf, apply_ite Saf.latch, apply_ite Prod.snd, apply_ite Prod.fst]
@[simp] theorem enterFailed_saf_unack (cause : Nat) (s : State) : (enterFailed cause s).saf.unack = s.saf.unack := by
  unfold enterFailed
  (repeat' split) <;> first | rfl | simp [foldl_saf_unack, apply_ite State.saf, apply_ite Saf.unack, apply_ite Prod.snd, apply_ite Prod.fst]
@[simp] theorem enterFailed_saf_raised (cause : Nat) (s : State) : (enterFailed cause s).saf.raised = s.saf.raised := by
  unfold enterFailed
  (repeat' split) <;> first | rfl | simp [foldl_saf_raised, apply_ite State.saf, apply_ite Saf.raised, apply_ite Prod.snd, apply_ite Prod.fst]
@[simp] theorem enterFailed_saf_roleConfirmed (cause : Nat) (s : State) : (enterFailed cause s).saf.roleConfirmed = s.saf.roleConfirmed := by
  unfold enterFailed
  (repeat' split) <;> first | rfl | simp [foldl_saf_roleConfirmed, apply_ite State.saf, apply_ite Saf.roleConfirmed, apply_ite Prod.snd, apply_ite Prod.fst]
@[simp] theorem enterFailed_saf_roleCause (cause : Nat) (s : State) : (enterFailed cause s).saf.roleCause = s.saf.roleCause := by
  unfold enterFailed
  (repeat' split) <;> first | rfl | simp [foldl_saf_roleCause, apply_ite State.saf, apply_ite Saf.roleCause, apply_ite Prod.snd, apply_ite Prod.fst]
@[simp] theorem enterFailed_saf_roleRefusals (cause : Nat) (s : State) : (enterFailed cause s).saf.roleRefusals = s.saf.roleRefusals := by
  unfold enterFailed
  (repeat' split) <;> first | rfl | simp [foldl_saf_roleRefusals, apply_ite State.saf, apply_ite Saf.roleRefusals, apply_ite Prod.snd, apply_ite Prod.fst]
@[simp] theorem enterFailed_saf_vmon (cause : Nat) (s : State) : (enterFailed cause s).saf.vmon = s.saf.vmon := by
  unfold enterFailed
  (repeat' split) <;> first | rfl | simp [foldl_saf_vmon, apply_ite State.saf, apply_ite Saf.vmon, apply_ite Prod.snd, apply_ite Prod.fst]
@[simp] theorem enterFailed_saf_tempBand (cause : Nat) (s : State) : (enterFailed cause s).saf.tempBand = s.saf.tempBand := by
  unfold enterFailed
  (repeat' split) <;> first | rfl | simp [foldl_saf_tempBand, apply_ite State.saf, apply_ite Saf.tempBand, apply_ite Prod.snd, apply_ite Prod.fst]
@[simp] theorem enterFailed_saf_tj (cause : Nat) (s : State) : (enterFailed cause s).saf.tj = s.saf.tj := by
  unfold enterFailed
  (repeat' split) <;> first | rfl | simp [foldl_saf_tj, apply_ite State.saf, apply_ite Saf.tj, apply_ite Prod.snd, apply_ite Prod.fst]
@[simp] theorem enterFailed_saf_pfailLow (cause : Nat) (s : State) : (enterFailed cause s).saf.pfailLow = s.saf.pfailLow := by
  unfold enterFailed
  (repeat' split) <;> first | rfl | simp [foldl_saf_pfailLow, apply_ite State.saf, apply_ite Saf.pfailLow, apply_ite Prod.snd, apply_ite Prod.fst]
@[simp] theorem enterFailed_saf_pfailRoseUp (cause : Nat) (s : State) : (enterFailed cause s).saf.pfailRoseUp = s.saf.pfailRoseUp := by
  unfold enterFailed
  (repeat' split) <;> first | rfl | simp [foldl_saf_pfailRoseUp, apply_ite State.saf, apply_ite Saf.pfailRoseUp, apply_ite Prod.snd, apply_ite Prod.fst]
@[simp] theorem enterFailed_sys_healthSeq (cause : Nat) (s : State) : (enterFailed cause s).sys.healthSeq = s.sys.healthSeq := by
  unfold enterFailed
  (repeat' split) <;> first | rfl | simp [foldl_sys_healthSeq, apply_ite State.sys, apply_ite Sys.healthSeq, apply_ite Prod.snd, apply_ite Prod.fst]
@[simp] theorem enterFailed_sys_eccUncorr (cause : Nat) (s : State) : (enterFailed cause s).sys.eccUncorr = s.sys.eccUncorr := by
  unfold enterFailed
  (repeat' split) <;> first | rfl | simp [foldl_sys_eccUncorr, apply_ite State.sys, apply_ite Sys.eccUncorr, apply_ite Prod.snd, apply_ite Prod.fst]
@[simp] theorem enterFailed_sys_eccCorrCnt (cause : Nat) (s : State) : (enterFailed cause s).sys.eccCorrCnt = s.sys.eccCorrCnt := by
  unfold enterFailed
  (repeat' split) <;> first | rfl | simp [foldl_sys_eccCorrCnt, apply_ite State.sys, apply_ite Sys.eccCorrCnt, apply_ite Prod.snd, apply_ite Prod.fst]
@[simp] theorem enterFailed_sys_eccUncorrAddr (cause : Nat) (s : State) : (enterFailed cause s).sys.eccUncorrAddr = s.sys.eccUncorrAddr := by
  unfold enterFailed
  (repeat' split) <;> first | rfl | simp [foldl_sys_eccUncorrAddr, apply_ite State.sys, apply_ite Sys.eccUncorrAddr, apply_ite Prod.snd, apply_ite Prod.fst]
@[simp] theorem enterFailed_sys_scrubAddr (cause : Nat) (s : State) : (enterFailed cause s).sys.scrubAddr = s.sys.scrubAddr := by
  unfold enterFailed
  (repeat' split) <;> first | rfl | simp [foldl_sys_scrubAddr, apply_ite State.sys, apply_ite Sys.scrubAddr, apply_ite Prod.snd, apply_ite Prod.fst]
@[simp] theorem enterFailed_sys_eccMarks (cause : Nat) (s : State) : (enterFailed cause s).sys.eccMarks = s.sys.eccMarks := by
  unfold enterFailed
  (repeat' split) <;> first | rfl | simp [foldl_sys_eccMarks, apply_ite State.sys, apply_ite Sys.eccMarks, apply_ite Prod.snd, apply_ite Prod.fst]
@[simp] theorem outputsOff_saf_spOk (fid : Nat) (s : State) : (outputsOff fid s).saf.spOk = s.saf.spOk := by
  unfold outputsOff
  (repeat' split) <;> first | rfl | simp [foldl_saf_spOk, apply_ite State.saf, apply_ite Saf.spOk, apply_ite Prod.snd, apply_ite Prod.fst]
@[simp] theorem outputsOff_saf_safeOk (fid : Nat) (s : State) : (outputsOff fid s).saf.safeOk = s.saf.safeOk := by
  unfold outputsOff
  (repeat' split) <;> first | rfl | simp [foldl_saf_safeOk, apply_ite State.saf, apply_ite Saf.safeOk, apply_ite Prod.snd, apply_ite Prod.fst]
@[simp] theorem outputsOff_saf_claimsLocked (fid : Nat) (s : State) : (outputsOff fid s).saf.claimsLocked = s.saf.claimsLocked := by
  unfold outputsOff
  (repeat' split) <;> first | rfl | simp [foldl_saf_claimsLocked, apply_ite State.saf, apply_ite Saf.claimsLocked, apply_ite Prod.snd, apply_ite Prod.fst]
@[simp] theorem outputsOff_saf_fwLocked (fid : Nat) (s : State) : (outputsOff fid s).saf.fwLocked = s.saf.fwLocked := by
  unfold outputsOff
  (repeat' split) <;> first | rfl | simp [foldl_saf_fwLocked, apply_ite State.saf, apply_ite Saf.fwLocked, apply_ite Prod.snd, apply_ite Prod.fst]
@[simp] theorem outputsOff_saf_s1Passed (fid : Nat) (s : State) : (outputsOff fid s).saf.s1Passed = s.saf.s1Passed := by
  unfold outputsOff
  (repeat' split) <;> first | rfl | simp [foldl_saf_s1Passed, apply_ite State.saf, apply_ite Saf.s1Passed, apply_ite Prod.snd, apply_ite Prod.fst]
@[simp] theorem outputsOff_saf_checker (fid : Nat) (s : State) : (outputsOff fid s).saf.checker = s.saf.checker := by
  unfold outputsOff
  (repeat' split) <;> first | rfl | simp [foldl_saf_checker, apply_ite State.saf, apply_ite Saf.checker, apply_ite Prod.snd, apply_ite Prod.fst]
@[simp] theorem outputsOff_saf_outenHeld (fid : Nat) (s : State) : (outputsOff fid s).saf.outenHeld = s.saf.outenHeld := by
  unfold outputsOff
  (repeat' split) <;> first | rfl | simp [foldl_saf_outenHeld, apply_ite State.saf, apply_ite Saf.outenHeld, apply_ite Prod.snd, apply_ite Prod.fst]
@[simp] theorem outputsOff_saf_frozen (fid : Nat) (s : State) : (outputsOff fid s).saf.frozen = s.saf.frozen := by
  unfold outputsOff
  (repeat' split) <;> first | rfl | simp [foldl_saf_frozen, apply_ite State.saf, apply_ite Saf.frozen, apply_ite Prod.snd, apply_ite Prod.fst]
@[simp] theorem outputsOff_saf_freeze (fid : Nat) (s : State) : (outputsOff fid s).saf.freeze = s.saf.freeze := by
  unfold outputsOff
  (repeat' split) <;> first | rfl | simp [foldl_saf_freeze, apply_ite State.saf, apply_ite Saf.freeze, apply_ite Prod.snd, apply_ite Prod.fst]
@[simp] theorem outputsOff_saf_latch (fid : Nat) (s : State) : (outputsOff fid s).saf.latch = s.saf.latch := by
  unfold outputsOff
  (repeat' split) <;> first | rfl | simp [foldl_saf_latch, apply_ite State.saf, apply_ite Saf.latch, apply_ite Prod.snd, apply_ite Prod.fst]
@[simp] theorem outputsOff_saf_unack (fid : Nat) (s : State) : (outputsOff fid s).saf.unack = s.saf.unack := by
  unfold outputsOff
  (repeat' split) <;> first | rfl | simp [foldl_saf_unack, apply_ite State.saf, apply_ite Saf.unack, apply_ite Prod.snd, apply_ite Prod.fst]
@[simp] theorem outputsOff_saf_raised (fid : Nat) (s : State) : (outputsOff fid s).saf.raised = s.saf.raised := by
  unfold outputsOff
  (repeat' split) <;> first | rfl | simp [foldl_saf_raised, apply_ite State.saf, apply_ite Saf.raised, apply_ite Prod.snd, apply_ite Prod.fst]
@[simp] theorem outputsOff_saf_roleCause (fid : Nat) (s : State) : (outputsOff fid s).saf.roleCause = s.saf.roleCause := by
  unfold outputsOff
  (repeat' split) <;> first | rfl | simp [foldl_saf_roleCause, apply_ite State.saf, apply_ite Saf.roleCause, apply_ite Prod.snd, apply_ite Prod.fst]
@[simp] theorem outputsOff_saf_roleRefusals (fid : Nat) (s : State) : (outputsOff fid s).saf.roleRefusals = s.saf.roleRefusals := by
  unfold outputsOff
  (repeat' split) <;> first | rfl | simp [foldl_saf_roleRefusals, apply_ite State.saf, apply_ite Saf.roleRefusals, apply_ite Prod.snd, apply_ite Prod.fst]
@[simp] theorem outputsOff_saf_vmon (fid : Nat) (s : State) : (outputsOff fid s).saf.vmon = s.saf.vmon := by
  unfold outputsOff
  (repeat' split) <;> first | rfl | simp [foldl_saf_vmon, apply_ite State.saf, apply_ite Saf.vmon, apply_ite Prod.snd, apply_ite Prod.fst]
@[simp] theorem outputsOff_saf_tempBand (fid : Nat) (s : State) : (outputsOff fid s).saf.tempBand = s.saf.tempBand := by
  unfold outputsOff
  (repeat' split) <;> first | rfl | simp [foldl_saf_tempBand, apply_ite State.saf, apply_ite Saf.tempBand, apply_ite Prod.snd, apply_ite Prod.fst]
@[simp] theorem outputsOff_saf_tj (fid : Nat) (s : State) : (outputsOff fid s).saf.tj = s.saf.tj := by
  unfold outputsOff
  (repeat' split) <;> first | rfl | simp [foldl_saf_tj, apply_ite State.saf, apply_ite Saf.tj, apply_ite Prod.snd, apply_ite Prod.fst]
@[simp] theorem outputsOff_saf_pfailLow (fid : Nat) (s : State) : (outputsOff fid s).saf.pfailLow = s.saf.pfailLow := by
  unfold outputsOff
  (repeat' split) <;> first | rfl | simp [foldl_saf_pfailLow, apply_ite State.saf, apply_ite Saf.pfailLow, apply_ite Prod.snd, apply_ite Prod.fst]
@[simp] theorem outputsOff_saf_pfailRoseUp (fid : Nat) (s : State) : (outputsOff fid s).saf.pfailRoseUp = s.saf.pfailRoseUp := by
  unfold outputsOff
  (repeat' split) <;> first | rfl | simp [foldl_saf_pfailRoseUp, apply_ite State.saf, apply_ite Saf.pfailRoseUp, apply_ite Prod.snd, apply_ite Prod.fst]
@[simp] theorem outputsOff_sys_healthSeq (fid : Nat) (s : State) : (outputsOff fid s).sys.healthSeq = s.sys.healthSeq := by
  unfold outputsOff
  (repeat' split) <;> first | rfl | simp [foldl_sys_healthSeq, apply_ite State.sys, apply_ite Sys.healthSeq, apply_ite Prod.snd, apply_ite Prod.fst]
@[simp] theorem outputsOff_sys_eccUncorr (fid : Nat) (s : State) : (outputsOff fid s).sys.eccUncorr = s.sys.eccUncorr := by
  unfold outputsOff
  (repeat' split) <;> first | rfl | simp [foldl_sys_eccUncorr, apply_ite State.sys, apply_ite Sys.eccUncorr, apply_ite Prod.snd, apply_ite Prod.fst]
@[simp] theorem outputsOff_sys_eccCorrCnt (fid : Nat) (s : State) : (outputsOff fid s).sys.eccCorrCnt = s.sys.eccCorrCnt := by
  unfold outputsOff
  (repeat' split) <;> first | rfl | simp [foldl_sys_eccCorrCnt, apply_ite State.sys, apply_ite Sys.eccCorrCnt, apply_ite Prod.snd, apply_ite Prod.fst]
@[simp] theorem outputsOff_sys_eccUncorrAddr (fid : Nat) (s : State) : (outputsOff fid s).sys.eccUncorrAddr = s.sys.eccUncorrAddr := by
  unfold outputsOff
  (repeat' split) <;> first | rfl | simp [foldl_sys_eccUncorrAddr, apply_ite State.sys, apply_ite Sys.eccUncorrAddr, apply_ite Prod.snd, apply_ite Prod.fst]
@[simp] theorem outputsOff_sys_scrubAddr (fid : Nat) (s : State) : (outputsOff fid s).sys.scrubAddr = s.sys.scrubAddr := by
  unfold outputsOff
  (repeat' split) <;> first | rfl | simp [foldl_sys_scrubAddr, apply_ite State.sys, apply_ite Sys.scrubAddr, apply_ite Prod.snd, apply_ite Prod.fst]
@[simp] theorem outputsOff_sys_eccMarks (fid : Nat) (s : State) : (outputsOff fid s).sys.eccMarks = s.sys.eccMarks := by
  unfold outputsOff
  (repeat' split) <;> first | rfl | simp [foldl_sys_eccMarks, apply_ite State.sys, apply_ite Sys.eccMarks, apply_ite Prod.snd, apply_ite Prod.fst]
@[simp] theorem raiseFault_saf_spOk (fid : Nat) (s : State) : (raiseFault fid s).saf.spOk = s.saf.spOk := by
  unfold raiseFault
  (repeat' split) <;> first | rfl | simp [foldl_saf_spOk, apply_ite State.saf, apply_ite Saf.spOk, apply_ite Prod.snd, apply_ite Prod.fst]
@[simp] theorem raiseFault_saf_safeOk (fid : Nat) (s : State) : (raiseFault fid s).saf.safeOk = s.saf.safeOk := by
  unfold raiseFault
  (repeat' split) <;> first | rfl | simp [foldl_saf_safeOk, apply_ite State.saf, apply_ite Saf.safeOk, apply_ite Prod.snd, apply_ite Prod.fst]
@[simp] theorem raiseFault_saf_claimsLocked (fid : Nat) (s : State) : (raiseFault fid s).saf.claimsLocked = s.saf.claimsLocked := by
  unfold raiseFault
  (repeat' split) <;> first | rfl | simp [foldl_saf_claimsLocked, apply_ite State.saf, apply_ite Saf.claimsLocked, apply_ite Prod.snd, apply_ite Prod.fst]
@[simp] theorem raiseFault_saf_fwLocked (fid : Nat) (s : State) : (raiseFault fid s).saf.fwLocked = s.saf.fwLocked := by
  unfold raiseFault
  (repeat' split) <;> first | rfl | simp [foldl_saf_fwLocked, apply_ite State.saf, apply_ite Saf.fwLocked, apply_ite Prod.snd, apply_ite Prod.fst]
@[simp] theorem raiseFault_saf_s1Passed (fid : Nat) (s : State) : (raiseFault fid s).saf.s1Passed = s.saf.s1Passed := by
  unfold raiseFault
  (repeat' split) <;> first | rfl | simp [foldl_saf_s1Passed, apply_ite State.saf, apply_ite Saf.s1Passed, apply_ite Prod.snd, apply_ite Prod.fst]
@[simp] theorem raiseFault_saf_checker (fid : Nat) (s : State) : (raiseFault fid s).saf.checker = s.saf.checker := by
  unfold raiseFault
  (repeat' split) <;> first | rfl | simp [foldl_saf_checker, apply_ite State.saf, apply_ite Saf.checker, apply_ite Prod.snd, apply_ite Prod.fst]
@[simp] theorem raiseFault_saf_outenHeld (fid : Nat) (s : State) : (raiseFault fid s).saf.outenHeld = s.saf.outenHeld := by
  unfold raiseFault
  (repeat' split) <;> first | rfl | simp [foldl_saf_outenHeld, apply_ite State.saf, apply_ite Saf.outenHeld, apply_ite Prod.snd, apply_ite Prod.fst]
@[simp] theorem raiseFault_saf_frozen (fid : Nat) (s : State) : (raiseFault fid s).saf.frozen = s.saf.frozen := by
  unfold raiseFault
  (repeat' split) <;> first | rfl | simp [foldl_saf_frozen, apply_ite State.saf, apply_ite Saf.frozen, apply_ite Prod.snd, apply_ite Prod.fst]
@[simp] theorem raiseFault_saf_freeze (fid : Nat) (s : State) : (raiseFault fid s).saf.freeze = s.saf.freeze := by
  unfold raiseFault
  (repeat' split) <;> first | rfl | simp [foldl_saf_freeze, apply_ite State.saf, apply_ite Saf.freeze, apply_ite Prod.snd, apply_ite Prod.fst]
@[simp] theorem raiseFault_saf_roleCause (fid : Nat) (s : State) : (raiseFault fid s).saf.roleCause = s.saf.roleCause := by
  unfold raiseFault
  (repeat' split) <;> first | rfl | simp [foldl_saf_roleCause, apply_ite State.saf, apply_ite Saf.roleCause, apply_ite Prod.snd, apply_ite Prod.fst]
@[simp] theorem raiseFault_saf_roleRefusals (fid : Nat) (s : State) : (raiseFault fid s).saf.roleRefusals = s.saf.roleRefusals := by
  unfold raiseFault
  (repeat' split) <;> first | rfl | simp [foldl_saf_roleRefusals, apply_ite State.saf, apply_ite Saf.roleRefusals, apply_ite Prod.snd, apply_ite Prod.fst]
@[simp] theorem raiseFault_saf_vmon (fid : Nat) (s : State) : (raiseFault fid s).saf.vmon = s.saf.vmon := by
  unfold raiseFault
  (repeat' split) <;> first | rfl | simp [foldl_saf_vmon, apply_ite State.saf, apply_ite Saf.vmon, apply_ite Prod.snd, apply_ite Prod.fst]
@[simp] theorem raiseFault_saf_tempBand (fid : Nat) (s : State) : (raiseFault fid s).saf.tempBand = s.saf.tempBand := by
  unfold raiseFault
  (repeat' split) <;> first | rfl | simp [foldl_saf_tempBand, apply_ite State.saf, apply_ite Saf.tempBand, apply_ite Prod.snd, apply_ite Prod.fst]
@[simp] theorem raiseFault_saf_tj (fid : Nat) (s : State) : (raiseFault fid s).saf.tj = s.saf.tj := by
  unfold raiseFault
  (repeat' split) <;> first | rfl | simp [foldl_saf_tj, apply_ite State.saf, apply_ite Saf.tj, apply_ite Prod.snd, apply_ite Prod.fst]
@[simp] theorem raiseFault_saf_pfailLow (fid : Nat) (s : State) : (raiseFault fid s).saf.pfailLow = s.saf.pfailLow := by
  unfold raiseFault
  (repeat' split) <;> first | rfl | simp [foldl_saf_pfailLow, apply_ite State.saf, apply_ite Saf.pfailLow, apply_ite Prod.snd, apply_ite Prod.fst]
@[simp] theorem raiseFault_saf_pfailRoseUp (fid : Nat) (s : State) : (raiseFault fid s).saf.pfailRoseUp = s.saf.pfailRoseUp := by
  unfold raiseFault
  (repeat' split) <;> first | rfl | simp [foldl_saf_pfailRoseUp, apply_ite State.saf, apply_ite Saf.pfailRoseUp, apply_ite Prod.snd, apply_ite Prod.fst]
@[simp] theorem raiseFault_sys_healthSeq (fid : Nat) (s : State) : (raiseFault fid s).sys.healthSeq = s.sys.healthSeq := by
  unfold raiseFault
  (repeat' split) <;> first | rfl | simp [foldl_sys_healthSeq, apply_ite State.sys, apply_ite Sys.healthSeq, apply_ite Prod.snd, apply_ite Prod.fst]
@[simp] theorem raiseFault_sys_eccUncorr (fid : Nat) (s : State) : (raiseFault fid s).sys.eccUncorr = s.sys.eccUncorr := by
  unfold raiseFault
  (repeat' split) <;> first | rfl | simp [foldl_sys_eccUncorr, apply_ite State.sys, apply_ite Sys.eccUncorr, apply_ite Prod.snd, apply_ite Prod.fst]
@[simp] theorem raiseFault_sys_eccCorrCnt (fid : Nat) (s : State) : (raiseFault fid s).sys.eccCorrCnt = s.sys.eccCorrCnt := by
  unfold raiseFault
  (repeat' split) <;> first | rfl | simp [foldl_sys_eccCorrCnt, apply_ite State.sys, apply_ite Sys.eccCorrCnt, apply_ite Prod.snd, apply_ite Prod.fst]
@[simp] theorem raiseFault_sys_eccUncorrAddr (fid : Nat) (s : State) : (raiseFault fid s).sys.eccUncorrAddr = s.sys.eccUncorrAddr := by
  unfold raiseFault
  (repeat' split) <;> first | rfl | simp [foldl_sys_eccUncorrAddr, apply_ite State.sys, apply_ite Sys.eccUncorrAddr, apply_ite Prod.snd, apply_ite Prod.fst]
@[simp] theorem raiseFault_sys_scrubAddr (fid : Nat) (s : State) : (raiseFault fid s).sys.scrubAddr = s.sys.scrubAddr := by
  unfold raiseFault
  (repeat' split) <;> first | rfl | simp [foldl_sys_scrubAddr, apply_ite State.sys, apply_ite Sys.scrubAddr, apply_ite Prod.snd, apply_ite Prod.fst]
@[simp] theorem raiseFault_sys_eccMarks (fid : Nat) (s : State) : (raiseFault fid s).sys.eccMarks = s.sys.eccMarks := by
  unfold raiseFault
  (repeat' split) <;> first | rfl | simp [foldl_sys_eccMarks, apply_ite State.sys, apply_ite Sys.eccMarks, apply_ite Prod.snd, apply_ite Prod.fst]
@[simp] theorem clearFault_saf_spOk (fid : Nat) (s : State) : (clearFault fid s).saf.spOk = s.saf.spOk := by
  unfold clearFault
  (repeat' split) <;> first | rfl | simp [foldl_saf_spOk, apply_ite State.saf, apply_ite Saf.spOk, apply_ite Prod.snd, apply_ite Prod.fst]
@[simp] theorem clearFault_saf_safeOk (fid : Nat) (s : State) : (clearFault fid s).saf.safeOk = s.saf.safeOk := by
  unfold clearFault
  (repeat' split) <;> first | rfl | simp [foldl_saf_safeOk, apply_ite State.saf, apply_ite Saf.safeOk, apply_ite Prod.snd, apply_ite Prod.fst]
@[simp] theorem clearFault_saf_claimsLocked (fid : Nat) (s : State) : (clearFault fid s).saf.claimsLocked = s.saf.claimsLocked := by
  unfold clearFault
  (repeat' split) <;> first | rfl | simp [foldl_saf_claimsLocked, apply_ite State.saf, apply_ite Saf.claimsLocked, apply_ite Prod.snd, apply_ite Prod.fst]
@[simp] theorem clearFault_saf_fwLocked (fid : Nat) (s : State) : (clearFault fid s).saf.fwLocked = s.saf.fwLocked := by
  unfold clearFault
  (repeat' split) <;> first | rfl | simp [foldl_saf_fwLocked, apply_ite State.saf, apply_ite Saf.fwLocked, apply_ite Prod.snd, apply_ite Prod.fst]
@[simp] theorem clearFault_saf_s1Passed (fid : Nat) (s : State) : (clearFault fid s).saf.s1Passed = s.saf.s1Passed := by
  unfold clearFault
  (repeat' split) <;> first | rfl | simp [foldl_saf_s1Passed, apply_ite State.saf, apply_ite Saf.s1Passed, apply_ite Prod.snd, apply_ite Prod.fst]
@[simp] theorem clearFault_saf_checker (fid : Nat) (s : State) : (clearFault fid s).saf.checker = s.saf.checker := by
  unfold clearFault
  (repeat' split) <;> first | rfl | simp [foldl_saf_checker, apply_ite State.saf, apply_ite Saf.checker, apply_ite Prod.snd, apply_ite Prod.fst]
@[simp] theorem clearFault_saf_keepAlive (fid : Nat) (s : State) : (clearFault fid s).saf.keepAlive = s.saf.keepAlive := by
  unfold clearFault
  (repeat' split) <;> first | rfl | simp [foldl_saf_keepAlive, apply_ite State.saf, apply_ite Saf.keepAlive, apply_ite Prod.snd, apply_ite Prod.fst]
@[simp] theorem clearFault_saf_gatePwm (fid : Nat) (s : State) : (clearFault fid s).saf.gatePwm = s.saf.gatePwm := by
  unfold clearFault
  (repeat' split) <;> first | rfl | simp [foldl_saf_gatePwm, apply_ite State.saf, apply_ite Saf.gatePwm, apply_ite Prod.snd, apply_ite Prod.fst]
@[simp] theorem clearFault_saf_gateMbc (fid : Nat) (s : State) : (clearFault fid s).saf.gateMbc = s.saf.gateMbc := by
  unfold clearFault
  (repeat' split) <;> first | rfl | simp [foldl_saf_gateMbc, apply_ite State.saf, apply_ite Saf.gateMbc, apply_ite Prod.snd, apply_ite Prod.fst]
@[simp] theorem clearFault_saf_gatePdiv (fid : Nat) (s : State) : (clearFault fid s).saf.gatePdiv = s.saf.gatePdiv := by
  unfold clearFault
  (repeat' split) <;> first | rfl | simp [foldl_saf_gatePdiv, apply_ite State.saf, apply_ite Saf.gatePdiv, apply_ite Prod.snd, apply_ite Prod.fst]
@[simp] theorem clearFault_saf_gateSync (fid : Nat) (s : State) : (clearFault fid s).saf.gateSync = s.saf.gateSync := by
  unfold clearFault
  (repeat' split) <;> first | rfl | simp [foldl_saf_gateSync, apply_ite State.saf, apply_ite Saf.gateSync, apply_ite Prod.snd, apply_ite Prod.fst]
@[simp] theorem clearFault_saf_mbcClosing (fid : Nat) (s : State) : (clearFault fid s).saf.mbcClosing = s.saf.mbcClosing := by
  unfold clearFault
  (repeat' split) <;> first | rfl | simp [foldl_saf_mbcClosing, apply_ite State.saf, apply_ite Saf.mbcClosing, apply_ite Prod.snd, apply_ite Prod.fst]
@[simp] theorem clearFault_saf_outenDrive (fid : Nat) (s : State) : (clearFault fid s).saf.outenDrive = s.saf.outenDrive := by
  unfold clearFault
  (repeat' split) <;> first | rfl | simp [foldl_saf_outenDrive, apply_ite State.saf, apply_ite Saf.outenDrive, apply_ite Prod.snd, apply_ite Prod.fst]
@[simp] theorem clearFault_saf_outenHeld (fid : Nat) (s : State) : (clearFault fid s).saf.outenHeld = s.saf.outenHeld := by
  unfold clearFault
  (repeat' split) <;> first | rfl | simp [foldl_saf_outenHeld, apply_ite State.saf, apply_ite Saf.outenHeld, apply_ite Prod.snd, apply_ite Prod.fst]
@[simp] theorem clearFault_saf_frozen (fid : Nat) (s : State) : (clearFault fid s).saf.frozen = s.saf.frozen := by
  unfold clearFault
  (repeat' split) <;> first | rfl | simp [foldl_saf_frozen, apply_ite State.saf, apply_ite Saf.frozen, apply_ite Prod.snd, apply_ite Prod.fst]
@[simp] theorem clearFault_saf_freeze (fid : Nat) (s : State) : (clearFault fid s).saf.freeze = s.saf.freeze := by
  unfold clearFault
  (repeat' split) <;> first | rfl | simp [foldl_saf_freeze, apply_ite State.saf, apply_ite Saf.freeze, apply_ite Prod.snd, apply_ite Prod.fst]
@[simp] theorem clearFault_saf_latch (fid : Nat) (s : State) : (clearFault fid s).saf.latch = s.saf.latch := by
  unfold clearFault
  (repeat' split) <;> first | rfl | simp [foldl_saf_latch, apply_ite State.saf, apply_ite Saf.latch, apply_ite Prod.snd, apply_ite Prod.fst]
@[simp] theorem clearFault_saf_unack (fid : Nat) (s : State) : (clearFault fid s).saf.unack = s.saf.unack := by
  unfold clearFault
  (repeat' split) <;> first | rfl | simp [foldl_saf_unack, apply_ite State.saf, apply_ite Saf.unack, apply_ite Prod.snd, apply_ite Prod.fst]
@[simp] theorem clearFault_saf_roleConfirmed (fid : Nat) (s : State) : (clearFault fid s).saf.roleConfirmed = s.saf.roleConfirmed := by
  unfold clearFault
  (repeat' split) <;> first | rfl | simp [foldl_saf_roleConfirmed, apply_ite State.saf, apply_ite Saf.roleConfirmed, apply_ite Prod.snd, apply_ite Prod.fst]
@[simp] theorem clearFault_saf_roleCause (fid : Nat) (s : State) : (clearFault fid s).saf.roleCause = s.saf.roleCause := by
  unfold clearFault
  (repeat' split) <;> first | rfl | simp [foldl_saf_roleCause, apply_ite State.saf, apply_ite Saf.roleCause, apply_ite Prod.snd, apply_ite Prod.fst]
@[simp] theorem clearFault_saf_roleRefusals (fid : Nat) (s : State) : (clearFault fid s).saf.roleRefusals = s.saf.roleRefusals := by
  unfold clearFault
  (repeat' split) <;> first | rfl | simp [foldl_saf_roleRefusals, apply_ite State.saf, apply_ite Saf.roleRefusals, apply_ite Prod.snd, apply_ite Prod.fst]
@[simp] theorem clearFault_saf_vmon (fid : Nat) (s : State) : (clearFault fid s).saf.vmon = s.saf.vmon := by
  unfold clearFault
  (repeat' split) <;> first | rfl | simp [foldl_saf_vmon, apply_ite State.saf, apply_ite Saf.vmon, apply_ite Prod.snd, apply_ite Prod.fst]
@[simp] theorem clearFault_saf_tempBand (fid : Nat) (s : State) : (clearFault fid s).saf.tempBand = s.saf.tempBand := by
  unfold clearFault
  (repeat' split) <;> first | rfl | simp [foldl_saf_tempBand, apply_ite State.saf, apply_ite Saf.tempBand, apply_ite Prod.snd, apply_ite Prod.fst]
@[simp] theorem clearFault_saf_tj (fid : Nat) (s : State) : (clearFault fid s).saf.tj = s.saf.tj := by
  unfold clearFault
  (repeat' split) <;> first | rfl | simp [foldl_saf_tj, apply_ite State.saf, apply_ite Saf.tj, apply_ite Prod.snd, apply_ite Prod.fst]
@[simp] theorem clearFault_saf_pfailLow (fid : Nat) (s : State) : (clearFault fid s).saf.pfailLow = s.saf.pfailLow := by
  unfold clearFault
  (repeat' split) <;> first | rfl | simp [foldl_saf_pfailLow, apply_ite State.saf, apply_ite Saf.pfailLow, apply_ite Prod.snd, apply_ite Prod.fst]
@[simp] theorem clearFault_saf_pfailRoseUp (fid : Nat) (s : State) : (clearFault fid s).saf.pfailRoseUp = s.saf.pfailRoseUp := by
  unfold clearFault
  (repeat' split) <;> first | rfl | simp [foldl_saf_pfailRoseUp, apply_ite State.saf, apply_ite Saf.pfailRoseUp, apply_ite Prod.snd, apply_ite Prod.fst]
@[simp] theorem clearFault_saf_wdg (fid : Nat) (s : State) : (clearFault fid s).saf.wdg = s.saf.wdg := by
  unfold clearFault
  (repeat' split) <;> first | rfl | simp [foldl_saf_wdg, apply_ite State.saf, apply_ite Saf.wdg, apply_ite Prod.snd, apply_ite Prod.fst]
@[simp] theorem freezeMaster_saf_spOk (m cause : Nat) (write : Bool) (detail : Word) (s : State) : (freezeMaster m cause write detail s).saf.spOk = s.saf.spOk := by
  unfold freezeMaster
  (repeat' split) <;> first | rfl | simp [foldl_saf_spOk, apply_ite State.saf, apply_ite Saf.spOk, apply_ite Prod.snd, apply_ite Prod.fst]
@[simp] theorem freezeMaster_saf_safeOk (m cause : Nat) (write : Bool) (detail : Word) (s : State) : (freezeMaster m cause write detail s).saf.safeOk = s.saf.safeOk := by
  unfold freezeMaster
  (repeat' split) <;> first | rfl | simp [foldl_saf_safeOk, apply_ite State.saf, apply_ite Saf.safeOk, apply_ite Prod.snd, apply_ite Prod.fst]
@[simp] theorem freezeMaster_saf_claimsLocked (m cause : Nat) (write : Bool) (detail : Word) (s : State) : (freezeMaster m cause write detail s).saf.claimsLocked = s.saf.claimsLocked := by
  unfold freezeMaster
  (repeat' split) <;> first | rfl | simp [foldl_saf_claimsLocked, apply_ite State.saf, apply_ite Saf.claimsLocked, apply_ite Prod.snd, apply_ite Prod.fst]
@[simp] theorem freezeMaster_saf_fwLocked (m cause : Nat) (write : Bool) (detail : Word) (s : State) : (freezeMaster m cause write detail s).saf.fwLocked = s.saf.fwLocked := by
  unfold freezeMaster
  (repeat' split) <;> first | rfl | simp [foldl_saf_fwLocked, apply_ite State.saf, apply_ite Saf.fwLocked, apply_ite Prod.snd, apply_ite Prod.fst]
@[simp] theorem freezeMaster_saf_s1Passed (m cause : Nat) (write : Bool) (detail : Word) (s : State) : (freezeMaster m cause write detail s).saf.s1Passed = s.saf.s1Passed := by
  unfold freezeMaster
  (repeat' split) <;> first | rfl | simp [foldl_saf_s1Passed, apply_ite State.saf, apply_ite Saf.s1Passed, apply_ite Prod.snd, apply_ite Prod.fst]
@[simp] theorem freezeMaster_saf_checker (m cause : Nat) (write : Bool) (detail : Word) (s : State) : (freezeMaster m cause write detail s).saf.checker = s.saf.checker := by
  unfold freezeMaster
  (repeat' split) <;> first | rfl | simp [foldl_saf_checker, apply_ite State.saf, apply_ite Saf.checker, apply_ite Prod.snd, apply_ite Prod.fst]
@[simp] theorem freezeMaster_saf_keepAlive (m cause : Nat) (write : Bool) (detail : Word) (s : State) : (freezeMaster m cause write detail s).saf.keepAlive = s.saf.keepAlive := by
  unfold freezeMaster
  (repeat' split) <;> first | rfl | simp [foldl_saf_keepAlive, apply_ite State.saf, apply_ite Saf.keepAlive, apply_ite Prod.snd, apply_ite Prod.fst]
@[simp] theorem freezeMaster_saf_gatePwm (m cause : Nat) (write : Bool) (detail : Word) (s : State) : (freezeMaster m cause write detail s).saf.gatePwm = s.saf.gatePwm := by
  unfold freezeMaster
  (repeat' split) <;> first | rfl | simp [foldl_saf_gatePwm, apply_ite State.saf, apply_ite Saf.gatePwm, apply_ite Prod.snd, apply_ite Prod.fst]
@[simp] theorem freezeMaster_saf_gateMbc (m cause : Nat) (write : Bool) (detail : Word) (s : State) : (freezeMaster m cause write detail s).saf.gateMbc = s.saf.gateMbc := by
  unfold freezeMaster
  (repeat' split) <;> first | rfl | simp [foldl_saf_gateMbc, apply_ite State.saf, apply_ite Saf.gateMbc, apply_ite Prod.snd, apply_ite Prod.fst]
@[simp] theorem freezeMaster_saf_gatePdiv (m cause : Nat) (write : Bool) (detail : Word) (s : State) : (freezeMaster m cause write detail s).saf.gatePdiv = s.saf.gatePdiv := by
  unfold freezeMaster
  (repeat' split) <;> first | rfl | simp [foldl_saf_gatePdiv, apply_ite State.saf, apply_ite Saf.gatePdiv, apply_ite Prod.snd, apply_ite Prod.fst]
@[simp] theorem freezeMaster_saf_gateSync (m cause : Nat) (write : Bool) (detail : Word) (s : State) : (freezeMaster m cause write detail s).saf.gateSync = s.saf.gateSync := by
  unfold freezeMaster
  (repeat' split) <;> first | rfl | simp [foldl_saf_gateSync, apply_ite State.saf, apply_ite Saf.gateSync, apply_ite Prod.snd, apply_ite Prod.fst]
@[simp] theorem freezeMaster_saf_mbcClosing (m cause : Nat) (write : Bool) (detail : Word) (s : State) : (freezeMaster m cause write detail s).saf.mbcClosing = s.saf.mbcClosing := by
  unfold freezeMaster
  (repeat' split) <;> first | rfl | simp [foldl_saf_mbcClosing, apply_ite State.saf, apply_ite Saf.mbcClosing, apply_ite Prod.snd, apply_ite Prod.fst]
@[simp] theorem freezeMaster_saf_outenDrive (m cause : Nat) (write : Bool) (detail : Word) (s : State) : (freezeMaster m cause write detail s).saf.outenDrive = s.saf.outenDrive := by
  unfold freezeMaster
  (repeat' split) <;> first | rfl | simp [foldl_saf_outenDrive, apply_ite State.saf, apply_ite Saf.outenDrive, apply_ite Prod.snd, apply_ite Prod.fst]
@[simp] theorem freezeMaster_saf_outenHeld (m cause : Nat) (write : Bool) (detail : Word) (s : State) : (freezeMaster m cause write detail s).saf.outenHeld = s.saf.outenHeld := by
  unfold freezeMaster
  (repeat' split) <;> first | rfl | simp [foldl_saf_outenHeld, apply_ite State.saf, apply_ite Saf.outenHeld, apply_ite Prod.snd, apply_ite Prod.fst]
@[simp] theorem freezeMaster_saf_present (m cause : Nat) (write : Bool) (detail : Word) (s : State) : (freezeMaster m cause write detail s).saf.present = s.saf.present := by
  unfold freezeMaster
  (repeat' split) <;> first | rfl | simp [foldl_saf_present, apply_ite State.saf, apply_ite Saf.present, apply_ite Prod.snd, apply_ite Prod.fst]
@[simp] theorem freezeMaster_saf_latch (m cause : Nat) (write : Bool) (detail : Word) (s : State) : (freezeMaster m cause write detail s).saf.latch = s.saf.latch := by
  unfold freezeMaster
  (repeat' split) <;> first | rfl | simp [foldl_saf_latch, apply_ite State.saf, apply_ite Saf.latch, apply_ite Prod.snd, apply_ite Prod.fst]
@[simp] theorem freezeMaster_saf_unack (m cause : Nat) (write : Bool) (detail : Word) (s : State) : (freezeMaster m cause write detail s).saf.unack = s.saf.unack := by
  unfold freezeMaster
  (repeat' split) <;> first | rfl | simp [foldl_saf_unack, apply_ite State.saf, apply_ite Saf.unack, apply_ite Prod.snd, apply_ite Prod.fst]
@[simp] theorem freezeMaster_saf_raised (m cause : Nat) (write : Bool) (detail : Word) (s : State) : (freezeMaster m cause write detail s).saf.raised = s.saf.raised := by
  unfold freezeMaster
  (repeat' split) <;> first | rfl | simp [foldl_saf_raised, apply_ite State.saf, apply_ite Saf.raised, apply_ite Prod.snd, apply_ite Prod.fst]
@[simp] theorem freezeMaster_saf_roleConfirmed (m cause : Nat) (write : Bool) (detail : Word) (s : State) : (freezeMaster m cause write detail s).saf.roleConfirmed = s.saf.roleConfirmed := by
  unfold freezeMaster
  (repeat' split) <;> first | rfl | simp [foldl_saf_roleConfirmed, apply_ite State.saf, apply_ite Saf.roleConfirmed, apply_ite Prod.snd, apply_ite Prod.fst]
@[simp] theorem freezeMaster_saf_roleCause (m cause : Nat) (write : Bool) (detail : Word) (s : State) : (freezeMaster m cause write detail s).saf.roleCause = s.saf.roleCause := by
  unfold freezeMaster
  (repeat' split) <;> first | rfl | simp [foldl_saf_roleCause, apply_ite State.saf, apply_ite Saf.roleCause, apply_ite Prod.snd, apply_ite Prod.fst]
@[simp] theorem freezeMaster_saf_roleRefusals (m cause : Nat) (write : Bool) (detail : Word) (s : State) : (freezeMaster m cause write detail s).saf.roleRefusals = s.saf.roleRefusals := by
  unfold freezeMaster
  (repeat' split) <;> first | rfl | simp [foldl_saf_roleRefusals, apply_ite State.saf, apply_ite Saf.roleRefusals, apply_ite Prod.snd, apply_ite Prod.fst]
@[simp] theorem freezeMaster_saf_vmon (m cause : Nat) (write : Bool) (detail : Word) (s : State) : (freezeMaster m cause write detail s).saf.vmon = s.saf.vmon := by
  unfold freezeMaster
  (repeat' split) <;> first | rfl | simp [foldl_saf_vmon, apply_ite State.saf, apply_ite Saf.vmon, apply_ite Prod.snd, apply_ite Prod.fst]
@[simp] theorem freezeMaster_saf_tempBand (m cause : Nat) (write : Bool) (detail : Word) (s : State) : (freezeMaster m cause write detail s).saf.tempBand = s.saf.tempBand := by
  unfold freezeMaster
  (repeat' split) <;> first | rfl | simp [foldl_saf_tempBand, apply_ite State.saf, apply_ite Saf.tempBand, apply_ite Prod.snd, apply_ite Prod.fst]
@[simp] theorem freezeMaster_saf_tj (m cause : Nat) (write : Bool) (detail : Word) (s : State) : (freezeMaster m cause write detail s).saf.tj = s.saf.tj := by
  unfold freezeMaster
  (repeat' split) <;> first | rfl | simp [foldl_saf_tj, apply_ite State.saf, apply_ite Saf.tj, apply_ite Prod.snd, apply_ite Prod.fst]
@[simp] theorem freezeMaster_saf_pfailLow (m cause : Nat) (write : Bool) (detail : Word) (s : State) : (freezeMaster m cause write detail s).saf.pfailLow = s.saf.pfailLow := by
  unfold freezeMaster
  (repeat' split) <;> first | rfl | simp [foldl_saf_pfailLow, apply_ite State.saf, apply_ite Saf.pfailLow, apply_ite Prod.snd, apply_ite Prod.fst]
@[simp] theorem freezeMaster_saf_pfailRoseUp (m cause : Nat) (write : Bool) (detail : Word) (s : State) : (freezeMaster m cause write detail s).saf.pfailRoseUp = s.saf.pfailRoseUp := by
  unfold freezeMaster
  (repeat' split) <;> first | rfl | simp [foldl_saf_pfailRoseUp, apply_ite State.saf, apply_ite Saf.pfailRoseUp, apply_ite Prod.snd, apply_ite Prod.fst]
@[simp] theorem freezeFault_saf_spOk (fid m cause : Nat) (write : Bool) (detail : Word) (s : State) : (freezeFault fid m cause write detail s).saf.spOk = s.saf.spOk := by
  unfold freezeFault
  (repeat' split) <;> first | rfl | simp [foldl_saf_spOk, apply_ite State.saf, apply_ite Saf.spOk, apply_ite Prod.snd, apply_ite Prod.fst]
@[simp] theorem freezeFault_saf_safeOk (fid m cause : Nat) (write : Bool) (detail : Word) (s : State) : (freezeFault fid m cause write detail s).saf.safeOk = s.saf.safeOk := by
  unfold freezeFault
  (repeat' split) <;> first | rfl | simp [foldl_saf_safeOk, apply_ite State.saf, apply_ite Saf.safeOk, apply_ite Prod.snd, apply_ite Prod.fst]
@[simp] theorem freezeFault_saf_claimsLocked (fid m cause : Nat) (write : Bool) (detail : Word) (s : State) : (freezeFault fid m cause write detail s).saf.claimsLocked = s.saf.claimsLocked := by
  unfold freezeFault
  (repeat' split) <;> first | rfl | simp [foldl_saf_claimsLocked, apply_ite State.saf, apply_ite Saf.claimsLocked, apply_ite Prod.snd, apply_ite Prod.fst]
@[simp] theorem freezeFault_saf_fwLocked (fid m cause : Nat) (write : Bool) (detail : Word) (s : State) : (freezeFault fid m cause write detail s).saf.fwLocked = s.saf.fwLocked := by
  unfold freezeFault
  (repeat' split) <;> first | rfl | simp [foldl_saf_fwLocked, apply_ite State.saf, apply_ite Saf.fwLocked, apply_ite Prod.snd, apply_ite Prod.fst]
@[simp] theorem freezeFault_saf_s1Passed (fid m cause : Nat) (write : Bool) (detail : Word) (s : State) : (freezeFault fid m cause write detail s).saf.s1Passed = s.saf.s1Passed := by
  unfold freezeFault
  (repeat' split) <;> first | rfl | simp [foldl_saf_s1Passed, apply_ite State.saf, apply_ite Saf.s1Passed, apply_ite Prod.snd, apply_ite Prod.fst]
@[simp] theorem freezeFault_saf_checker (fid m cause : Nat) (write : Bool) (detail : Word) (s : State) : (freezeFault fid m cause write detail s).saf.checker = s.saf.checker := by
  unfold freezeFault
  (repeat' split) <;> first | rfl | simp [foldl_saf_checker, apply_ite State.saf, apply_ite Saf.checker, apply_ite Prod.snd, apply_ite Prod.fst]
@[simp] theorem freezeFault_saf_outenHeld (fid m cause : Nat) (write : Bool) (detail : Word) (s : State) : (freezeFault fid m cause write detail s).saf.outenHeld = s.saf.outenHeld := by
  unfold freezeFault
  (repeat' split) <;> first | rfl | simp [foldl_saf_outenHeld, apply_ite State.saf, apply_ite Saf.outenHeld, apply_ite Prod.snd, apply_ite Prod.fst]
@[simp] theorem freezeFault_saf_roleCause (fid m cause : Nat) (write : Bool) (detail : Word) (s : State) : (freezeFault fid m cause write detail s).saf.roleCause = s.saf.roleCause := by
  unfold freezeFault
  (repeat' split) <;> first | rfl | simp [foldl_saf_roleCause, apply_ite State.saf, apply_ite Saf.roleCause, apply_ite Prod.snd, apply_ite Prod.fst]
@[simp] theorem freezeFault_saf_roleRefusals (fid m cause : Nat) (write : Bool) (detail : Word) (s : State) : (freezeFault fid m cause write detail s).saf.roleRefusals = s.saf.roleRefusals := by
  unfold freezeFault
  (repeat' split) <;> first | rfl | simp [foldl_saf_roleRefusals, apply_ite State.saf, apply_ite Saf.roleRefusals, apply_ite Prod.snd, apply_ite Prod.fst]
@[simp] theorem freezeFault_saf_vmon (fid m cause : Nat) (write : Bool) (detail : Word) (s : State) : (freezeFault fid m cause write detail s).saf.vmon = s.saf.vmon := by
  unfold freezeFault
  (repeat' split) <;> first | rfl | simp [foldl_saf_vmon, apply_ite State.saf, apply_ite Saf.vmon, apply_ite Prod.snd, apply_ite Prod.fst]
@[simp] theorem freezeFault_saf_tempBand (fid m cause : Nat) (write : Bool) (detail : Word) (s : State) : (freezeFault fid m cause write detail s).saf.tempBand = s.saf.tempBand := by
  unfold freezeFault
  (repeat' split) <;> first | rfl | simp [foldl_saf_tempBand, apply_ite State.saf, apply_ite Saf.tempBand, apply_ite Prod.snd, apply_ite Prod.fst]
@[simp] theorem freezeFault_saf_tj (fid m cause : Nat) (write : Bool) (detail : Word) (s : State) : (freezeFault fid m cause write detail s).saf.tj = s.saf.tj := by
  unfold freezeFault
  (repeat' split) <;> first | rfl | simp [foldl_saf_tj, apply_ite State.saf, apply_ite Saf.tj, apply_ite Prod.snd, apply_ite Prod.fst]
@[simp] theorem freezeFault_saf_pfailLow (fid m cause : Nat) (write : Bool) (detail : Word) (s : State) : (freezeFault fid m cause write detail s).saf.pfailLow = s.saf.pfailLow := by
  unfold freezeFault
  (repeat' split) <;> first | rfl | simp [foldl_saf_pfailLow, apply_ite State.saf, apply_ite Saf.pfailLow, apply_ite Prod.snd, apply_ite Prod.fst]
@[simp] theorem freezeFault_saf_pfailRoseUp (fid m cause : Nat) (write : Bool) (detail : Word) (s : State) : (freezeFault fid m cause write detail s).saf.pfailRoseUp = s.saf.pfailRoseUp := by
  unfold freezeFault
  (repeat' split) <;> first | rfl | simp [foldl_saf_pfailRoseUp, apply_ite State.saf, apply_ite Saf.pfailRoseUp, apply_ite Prod.snd, apply_ite Prod.fst]
@[simp] theorem freezeFault_sys_healthSeq (fid m cause : Nat) (write : Bool) (detail : Word) (s : State) : (freezeFault fid m cause write detail s).sys.healthSeq = s.sys.healthSeq := by
  unfold freezeFault
  (repeat' split) <;> first | rfl | simp [foldl_sys_healthSeq, apply_ite State.sys, apply_ite Sys.healthSeq, apply_ite Prod.snd, apply_ite Prod.fst]
@[simp] theorem freezeFault_sys_eccUncorr (fid m cause : Nat) (write : Bool) (detail : Word) (s : State) : (freezeFault fid m cause write detail s).sys.eccUncorr = s.sys.eccUncorr := by
  unfold freezeFault
  (repeat' split) <;> first | rfl | simp [foldl_sys_eccUncorr, apply_ite State.sys, apply_ite Sys.eccUncorr, apply_ite Prod.snd, apply_ite Prod.fst]
@[simp] theorem freezeFault_sys_eccCorrCnt (fid m cause : Nat) (write : Bool) (detail : Word) (s : State) : (freezeFault fid m cause write detail s).sys.eccCorrCnt = s.sys.eccCorrCnt := by
  unfold freezeFault
  (repeat' split) <;> first | rfl | simp [foldl_sys_eccCorrCnt, apply_ite State.sys, apply_ite Sys.eccCorrCnt, apply_ite Prod.snd, apply_ite Prod.fst]
@[simp] theorem freezeFault_sys_eccUncorrAddr (fid m cause : Nat) (write : Bool) (detail : Word) (s : State) : (freezeFault fid m cause write detail s).sys.eccUncorrAddr = s.sys.eccUncorrAddr := by
  unfold freezeFault
  (repeat' split) <;> first | rfl | simp [foldl_sys_eccUncorrAddr, apply_ite State.sys, apply_ite Sys.eccUncorrAddr, apply_ite Prod.snd, apply_ite Prod.fst]
@[simp] theorem freezeFault_sys_scrubAddr (fid m cause : Nat) (write : Bool) (detail : Word) (s : State) : (freezeFault fid m cause write detail s).sys.scrubAddr = s.sys.scrubAddr := by
  unfold freezeFault
  (repeat' split) <;> first | rfl | simp [foldl_sys_scrubAddr, apply_ite State.sys, apply_ite Sys.scrubAddr, apply_ite Prod.snd, apply_ite Prod.fst]
@[simp] theorem freezeFault_sys_eccMarks (fid m cause : Nat) (write : Bool) (detail : Word) (s : State) : (freezeFault fid m cause write detail s).sys.eccMarks = s.sys.eccMarks := by
  unfold freezeFault
  (repeat' split) <;> first | rfl | simp [foldl_sys_eccMarks, apply_ite State.sys, apply_ite Sys.eccMarks, apply_ite Prod.snd, apply_ite Prod.fst]
@[simp] theorem confirmActive_saf_spOk (request : Nat) (s : State) : (confirmActive request s).2.saf.spOk = s.saf.spOk := by
  unfold confirmActive
  (repeat' split) <;> first | rfl | simp [foldl_saf_spOk, apply_ite State.saf, apply_ite Saf.spOk, apply_ite Prod.snd, apply_ite Prod.fst]
@[simp] theorem confirmActive_saf_safeOk (request : Nat) (s : State) : (confirmActive request s).2.saf.safeOk = s.saf.safeOk := by
  unfold confirmActive
  (repeat' split) <;> first | rfl | simp [foldl_saf_safeOk, apply_ite State.saf, apply_ite Saf.safeOk, apply_ite Prod.snd, apply_ite Prod.fst]
@[simp] theorem confirmActive_saf_claimsLocked (request : Nat) (s : State) : (confirmActive request s).2.saf.claimsLocked = s.saf.claimsLocked := by
  unfold confirmActive
  (repeat' split) <;> first | rfl | simp [foldl_saf_claimsLocked, apply_ite State.saf, apply_ite Saf.claimsLocked, apply_ite Prod.snd, apply_ite Prod.fst]
@[simp] theorem confirmActive_saf_fwLocked (request : Nat) (s : State) : (confirmActive request s).2.saf.fwLocked = s.saf.fwLocked := by
  unfold confirmActive
  (repeat' split) <;> first | rfl | simp [foldl_saf_fwLocked, apply_ite State.saf, apply_ite Saf.fwLocked, apply_ite Prod.snd, apply_ite Prod.fst]
@[simp] theorem confirmActive_saf_s1Passed (request : Nat) (s : State) : (confirmActive request s).2.saf.s1Passed = s.saf.s1Passed := by
  unfold confirmActive
  (repeat' split) <;> first | rfl | simp [foldl_saf_s1Passed, apply_ite State.saf, apply_ite Saf.s1Passed, apply_ite Prod.snd, apply_ite Prod.fst]
@[simp] theorem confirmActive_saf_checker (request : Nat) (s : State) : (confirmActive request s).2.saf.checker = s.saf.checker := by
  unfold confirmActive
  (repeat' split) <;> first | rfl | simp [foldl_saf_checker, apply_ite State.saf, apply_ite Saf.checker, apply_ite Prod.snd, apply_ite Prod.fst]
@[simp] theorem confirmActive_saf_keepAlive (request : Nat) (s : State) : (confirmActive request s).2.saf.keepAlive = s.saf.keepAlive := by
  unfold confirmActive
  (repeat' split) <;> first | rfl | simp [foldl_saf_keepAlive, apply_ite State.saf, apply_ite Saf.keepAlive, apply_ite Prod.snd, apply_ite Prod.fst]
@[simp] theorem confirmActive_saf_gatePwm (request : Nat) (s : State) : (confirmActive request s).2.saf.gatePwm = s.saf.gatePwm := by
  unfold confirmActive
  (repeat' split) <;> first | rfl | simp [foldl_saf_gatePwm, apply_ite State.saf, apply_ite Saf.gatePwm, apply_ite Prod.snd, apply_ite Prod.fst]
@[simp] theorem confirmActive_saf_gateMbc (request : Nat) (s : State) : (confirmActive request s).2.saf.gateMbc = s.saf.gateMbc := by
  unfold confirmActive
  (repeat' split) <;> first | rfl | simp [foldl_saf_gateMbc, apply_ite State.saf, apply_ite Saf.gateMbc, apply_ite Prod.snd, apply_ite Prod.fst]
@[simp] theorem confirmActive_saf_gatePdiv (request : Nat) (s : State) : (confirmActive request s).2.saf.gatePdiv = s.saf.gatePdiv := by
  unfold confirmActive
  (repeat' split) <;> first | rfl | simp [foldl_saf_gatePdiv, apply_ite State.saf, apply_ite Saf.gatePdiv, apply_ite Prod.snd, apply_ite Prod.fst]
@[simp] theorem confirmActive_saf_gateSync (request : Nat) (s : State) : (confirmActive request s).2.saf.gateSync = s.saf.gateSync := by
  unfold confirmActive
  (repeat' split) <;> first | rfl | simp [foldl_saf_gateSync, apply_ite State.saf, apply_ite Saf.gateSync, apply_ite Prod.snd, apply_ite Prod.fst]
@[simp] theorem confirmActive_saf_mbcClosing (request : Nat) (s : State) : (confirmActive request s).2.saf.mbcClosing = s.saf.mbcClosing := by
  unfold confirmActive
  (repeat' split) <;> first | rfl | simp [foldl_saf_mbcClosing, apply_ite State.saf, apply_ite Saf.mbcClosing, apply_ite Prod.snd, apply_ite Prod.fst]
@[simp] theorem confirmActive_saf_outenDrive (request : Nat) (s : State) : (confirmActive request s).2.saf.outenDrive = s.saf.outenDrive := by
  unfold confirmActive
  (repeat' split) <;> first | rfl | simp [foldl_saf_outenDrive, apply_ite State.saf, apply_ite Saf.outenDrive, apply_ite Prod.snd, apply_ite Prod.fst]
@[simp] theorem confirmActive_saf_outenHeld (request : Nat) (s : State) : (confirmActive request s).2.saf.outenHeld = s.saf.outenHeld := by
  unfold confirmActive
  (repeat' split) <;> first | rfl | simp [foldl_saf_outenHeld, apply_ite State.saf, apply_ite Saf.outenHeld, apply_ite Prod.snd, apply_ite Prod.fst]
@[simp] theorem confirmActive_saf_frozen (request : Nat) (s : State) : (confirmActive request s).2.saf.frozen = s.saf.frozen := by
  unfold confirmActive
  (repeat' split) <;> first | rfl | simp [foldl_saf_frozen, apply_ite State.saf, apply_ite Saf.frozen, apply_ite Prod.snd, apply_ite Prod.fst]
@[simp] theorem confirmActive_saf_freeze (request : Nat) (s : State) : (confirmActive request s).2.saf.freeze = s.saf.freeze := by
  unfold confirmActive
  (repeat' split) <;> first | rfl | simp [foldl_saf_freeze, apply_ite State.saf, apply_ite Saf.freeze, apply_ite Prod.snd, apply_ite Prod.fst]
@[simp] theorem confirmActive_saf_present (request : Nat) (s : State) : (confirmActive request s).2.saf.present = s.saf.present := by
  unfold confirmActive
  (repeat' split) <;> first | rfl | simp [foldl_saf_present, apply_ite State.saf, apply_ite Saf.present, apply_ite Prod.snd, apply_ite Prod.fst]
@[simp] theorem confirmActive_saf_latch (request : Nat) (s : State) : (confirmActive request s).2.saf.latch = s.saf.latch := by
  unfold confirmActive
  (repeat' split) <;> first | rfl | simp [foldl_saf_latch, apply_ite State.saf, apply_ite Saf.latch, apply_ite Prod.snd, apply_ite Prod.fst]
@[simp] theorem confirmActive_saf_unack (request : Nat) (s : State) : (confirmActive request s).2.saf.unack = s.saf.unack := by
  unfold confirmActive
  (repeat' split) <;> first | rfl | simp [foldl_saf_unack, apply_ite State.saf, apply_ite Saf.unack, apply_ite Prod.snd, apply_ite Prod.fst]
@[simp] theorem confirmActive_saf_raised (request : Nat) (s : State) : (confirmActive request s).2.saf.raised = s.saf.raised := by
  unfold confirmActive
  (repeat' split) <;> first | rfl | simp [foldl_saf_raised, apply_ite State.saf, apply_ite Saf.raised, apply_ite Prod.snd, apply_ite Prod.fst]
@[simp] theorem confirmActive_saf_vmon (request : Nat) (s : State) : (confirmActive request s).2.saf.vmon = s.saf.vmon := by
  unfold confirmActive
  (repeat' split) <;> first | rfl | simp [foldl_saf_vmon, apply_ite State.saf, apply_ite Saf.vmon, apply_ite Prod.snd, apply_ite Prod.fst]
@[simp] theorem confirmActive_saf_tempBand (request : Nat) (s : State) : (confirmActive request s).2.saf.tempBand = s.saf.tempBand := by
  unfold confirmActive
  (repeat' split) <;> first | rfl | simp [foldl_saf_tempBand, apply_ite State.saf, apply_ite Saf.tempBand, apply_ite Prod.snd, apply_ite Prod.fst]
@[simp] theorem confirmActive_saf_tj (request : Nat) (s : State) : (confirmActive request s).2.saf.tj = s.saf.tj := by
  unfold confirmActive
  (repeat' split) <;> first | rfl | simp [foldl_saf_tj, apply_ite State.saf, apply_ite Saf.tj, apply_ite Prod.snd, apply_ite Prod.fst]
@[simp] theorem confirmActive_saf_pfailLow (request : Nat) (s : State) : (confirmActive request s).2.saf.pfailLow = s.saf.pfailLow := by
  unfold confirmActive
  (repeat' split) <;> first | rfl | simp [foldl_saf_pfailLow, apply_ite State.saf, apply_ite Saf.pfailLow, apply_ite Prod.snd, apply_ite Prod.fst]
@[simp] theorem confirmActive_saf_pfailRoseUp (request : Nat) (s : State) : (confirmActive request s).2.saf.pfailRoseUp = s.saf.pfailRoseUp := by
  unfold confirmActive
  (repeat' split) <;> first | rfl | simp [foldl_saf_pfailRoseUp, apply_ite State.saf, apply_ite Saf.pfailRoseUp, apply_ite Prod.snd, apply_ite Prod.fst]
@[simp] theorem confirmActive_saf_wdg (request : Nat) (s : State) : (confirmActive request s).2.saf.wdg = s.saf.wdg := by
  unfold confirmActive
  (repeat' split) <;> first | rfl | simp [foldl_saf_wdg, apply_ite State.saf, apply_ite Saf.wdg, apply_ite Prod.snd, apply_ite Prod.fst]

end Sys2Proof.Machine
end

