-- ==== Sys2Proof/Laws/State.lean ====
section
/-! SUPPORT. Small lemmas of the state. -/

namespace Sys2Proof.Machine

@[simp] theorem start_out (t : Nat) (s : State) : (start t s).out = [] := rfl

end Sys2Proof.Machine
end

