-- ==== Sys2Proof/Tests/Slice0.lean ====
section
/-! SUPPORT. Tests. -/

namespace Sys2Proof.Tests

theorem test_reset_idle : Sys2Proof.Machine.State.reset.pending = [] := rfl

end Sys2Proof.Tests
end

/-! PROOFS. The Tally (R641 to R657): the shared list operations, admission of records, the placing of a page, the flush engine and the read-out, and from these O49. -/

namespace Sys2Proof.Machine

open Sys2Proof

/-! ### The shared list operations -/

theorem dropFirst_eq_eraseP {α : Type} (p : α → Bool) (l : List α) : dropFirst p l = l.eraseP p := by
  induction l with
  | nil => rfl
  | cons x xs ih => rw [dropFirst, ih, List.eraseP_cons, cond_eq_ite]

theorem length_dropLast_of_mem {α : Type} {p : α → Bool} {l : List α} {x : α} (hx : x ∈ l) (hp : p x = true) : (dropLast p l).length + 1 = l.length := by
  have hpos : 0 < l.length := List.length_pos_of_mem hx
  rw [dropLast, dropFirst_eq_eraseP, List.length_reverse, List.length_eraseP_of_mem (List.mem_reverse.2 hx) hp, List.length_reverse]
  omega

theorem lowestSev_eq_none_iff {l : List Nat} {top : Nat} : lowestSev l top = none ↔ ∀ x ∈ l, top < x := by
  induction l with
  | nil => simp [lowestSev]
  | cons y ys ih =>
    rw [lowestSev, List.forall_mem_cons, ← ih]
    cases lowestSev ys top with
    | none => simp
    | some v => simp only [reduceCtorEq, and_false, iff_false]; split <;> simp

theorem lowestSev_eq_some_iff {l : List Nat} {top v : Nat} : lowestSev l top = some v ↔ v ∈ l ∧ v ≤ top ∧ ∀ x ∈ l, x ≤ top → v ≤ x := by
  induction l generalizing v with
  | nil => simp [lowestSev]
  | cons y ys ih =>
    rw [lowestSev]
    cases hw : lowestSev ys top with
    | none =>
      have habove := lowestSev_eq_none_iff.1 hw
      grind
    | some w =>
      obtain ⟨hmem, hle, hmin⟩ := ih.1 hw
      grind

theorem nth_upd_same {α : Type} (l : List α) (i : Nat) (f : α → α) (d : α) (h : i < l.length) : nth (upd l i f) i d = f (nth l i d) := by
  induction l generalizing i with
  | nil => simp at h
  | cons x xs ih =>
    cases i with
    | zero => rfl
    | succ i => exact ih i (by simpa using h)

theorem nth_upd_of_ne {α : Type} (l : List α) {i k : Nat} (f : α → α) (d : α) (h : k ≠ i) : nth (upd l i f) k d = nth l k d := by
  induction l generalizing i k with
  | nil => rfl
  | cons x xs ih =>
    cases i with
    | zero => cases k with
      | zero => exact absurd rfl h
      | succ k => rfl
    | succ i => cases k with
      | zero => rfl
      | succ k => exact ih (fun e => h (congrArg Nat.succ e))

theorem assoc_assocSet_same {κ α : Type} [DecidableEq κ] (l : List (κ × α)) (q : κ) (a : α) : assoc (assocSet l q a) q = some a := by
  induction l with
  | nil => simp [assocSet, assoc]
  | cons x xs ih => rw [assocSet]; split <;> simp [assoc, *]

theorem assoc_assocSet_of_ne {κ α : Type} [DecidableEq κ] (l : List (κ × α)) {q k : κ} (a : α) (h : k ≠ q) : assoc (assocSet l q a) k = assoc l k := by
  induction l with
  | nil => simp [assocSet, assoc, h.symm]
  | cons x xs ih => rw [assocSet]; split <;> simp_all [assoc, h.symm]

theorem mem_insertBy {α : Type} {key : α → Int} {a x : α} {l : List α} : x ∈ insertBy key a l ↔ x = a ∨ x ∈ l := by
  induction l with
  | nil => simp [insertBy]
  | cons b bs ih => rw [insertBy]; split <;> simp [ih, or_left_comm]

theorem insertBy_pairwise {α : Type} {key : α → Int} (a : α) {l : List α} (h : l.Pairwise (key · ≤ key ·)) : (insertBy key a l).Pairwise (key · ≤ key ·) := by
  induction l with
  | nil => simp [insertBy]
  | cons b bs ih =>
    obtain ⟨hb, hbs⟩ := List.pairwise_cons.1 h
    rw [insertBy]; split
    · rename_i hlt
      refine h.cons fun x hx => ?_
      rcases List.mem_cons.1 hx with rfl | hx
      · exact Int.le_of_lt hlt
      · exact Int.le_trans (Int.le_of_lt hlt) (hb x hx)
    · rename_i hge
      refine (ih hbs).cons fun x hx => ?_
      rcases mem_insertBy.1 hx with rfl | hx
      · exact Int.not_lt.1 hge
      · exact hb x hx

/-- A sort holds the same elements, in rising order of the key. -/
theorem sortBy_spec {α : Type} (key : α → Int) (l : List α) : (∀ x, x ∈ sortBy key l ↔ x ∈ l) ∧ (sortBy key l).Pairwise (key · ≤ key ·) := by
  suffices h : ∀ acc : List α, acc.Pairwise (key · ≤ key ·) →
      (∀ x, x ∈ l.foldl (fun acc a => insertBy key a acc) acc ↔ x ∈ acc ∨ x ∈ l) ∧ (l.foldl (fun acc a => insertBy key a acc) acc).Pairwise (key · ≤ key ·) by
    simpa [sortBy] using h [] .nil
  induction l with
  | nil => intro acc hacc; exact ⟨by simp, hacc⟩
  | cons a as ih =>
    intro acc hacc
    obtain ⟨hmem, hsorted⟩ := ih _ (insertBy_pairwise a hacc)
    exact ⟨fun x => by rw [List.foldl_cons, hmem, mem_insertBy, List.mem_cons, or_comm (a := x = a), or_assoc], hsorted⟩

/-! ### Admission of records: what it leaves alone, and the books across it (R641, R643, R650, R654) -/

/-- What no admission of a record touches. -/
structure Evr.Keeps (e e' : Evr) : Prop where
  inFlight : e'.inFlight = e.inFlight
  numbered : e'.numbered = e.numbered
  storeState : e'.storeState = e.storeState
  urgent : e'.urgent = e.urgent
  flushMax : e'.flushMax = e.flushMax
  store : e'.store = e.store

theorem Evr.Keeps.refl (e : Evr) : e.Keeps e := ⟨rfl, rfl, rfl, rfl, rfl, rfl⟩

theorem Evr.Keeps.trans {a b c : Evr} (h : a.Keeps b) (h' : b.Keeps c) : a.Keeps c :=
  ⟨h'.inFlight.trans h.inFlight, h'.numbered.trans h.numbered, h'.storeState.trans h.storeState, h'.urgent.trans h.urgent, h'.flushMax.trans h.flushMax, h'.store.trans h.store⟩

/-- The books balance once k more records are counted: those of a page not yet placed, or one being admitted. -/
def Evr.balancedBut (e : Evr) (k : Nat) : Prop :=
  e.written % 2 ^ 32 = (e.stored + e.overwritten + e.dropped + e.pend.length + e.inFlight.length + k) % 2 ^ 32

theorem Evr.countDrop_keeps (e : Evr) (sev up : Nat) : e.Keeps (e.countDrop sev up) := ⟨rfl, rfl, rfl, rfl, rfl, rfl⟩

theorem Evr.countDrop_balancedBut {e : Evr} {k : Nat} (h : e.balancedBut (k + 1)) (sev up : Nat) : (e.countDrop sev up).balancedBut k := by
  simp only [balancedBut, countDrop, inc32] at h ⊢
  omega

theorem Evr.placeRing_keeps (e : Evr) (r : Rec) (up : Nat) : e.Keeps (e.placeRing r up) := by
  unfold placeRing
  split
  · exact ⟨rfl, rfl, rfl, rfl, rfl, rfl⟩
  · split
    · exact e.countDrop_keeps _ _
    · exact ⟨rfl, rfl, rfl, rfl, rfl, rfl⟩

theorem Evr.placeRing_pend (e : Evr) (r : Rec) (up : Nat) : (e.placeRing r up).pend = e.pend := by
  unfold placeRing
  split
  · rfl
  · split <;> rfl

theorem Evr.placeRing_balancedBut {e : Evr} {k : Nat} (h : e.balancedBut (k + 1)) (r : Rec) (up : Nat) : (e.placeRing r up).balancedBut k := by
  unfold placeRing
  split
  · simp only [balancedBut, inc32] at h ⊢
    omega
  · split
    · exact countDrop_balancedBut h _ _
    · simp only [balancedBut, inc32] at h ⊢
      omega

theorem Evr.pushPending_keeps (e : Evr) (r : Rec) (up : Nat) : e.Keeps (e.pushPending r up) := by
  unfold pushPending
  split
  · exact ⟨rfl, rfl, rfl, rfl, rfl, rfl⟩
  · split
    · exact e.countDrop_keeps _ _
    · exact ⟨rfl, rfl, rfl, rfl, rfl, rfl⟩

/-- The record is pending, lost, or pending in the place of one that is lost. -/
theorem Evr.pushPending_balancedBut {e : Evr} {k : Nat} (h : e.balancedBut (k + 1)) (r : Rec) (up : Nat) : (e.pushPending r up).balancedBut k := by
  unfold pushPending
  split
  · simp only [balancedBut, List.length_append, List.length_singleton] at h ⊢
    omega
  · split
    · exact countDrop_balancedBut h _ _
    · rename_i v hv
      split at hv
      · simp at hv
      obtain ⟨hmem, -, -⟩ := lowestSev_eq_some_iff.1 hv
      obtain ⟨p, hp, hsev⟩ := List.mem_map.1 hmem
      have hlen := length_dropLast_of_mem (p := fun p : PendRec => p.record.severity == v) hp (by simpa using hsev)
      simp only [balancedBut, countDrop, inc32, List.length_append, List.length_singleton] at h ⊢
      omega

theorem Evr.pushRing_keeps (e : Evr) (r : Rec) : e.Keeps (e.pushRing r) := ⟨rfl, rfl, rfl, rfl, rfl, rfl⟩

theorem Evr.pushRing_balancedBut {e : Evr} {k : Nat} (h : e.balancedBut k) (r : Rec) : (e.pushRing r).balancedBut k := h

theorem Evr.admitNumbered_keeps (e : Evr) (r : Rec) (up : Nat) : e.Keeps (e.admitNumbered r up) := by
  have hnumber : ∀ n w, e.Keeps { e with nextSeq := n, written := w } := fun _ _ => ⟨rfl, rfl, rfl, rfl, rfl, rfl⟩
  unfold admitNumbered
  dsimp only
  split
  · exact (hnumber _ _).trans (placeRing_keeps _ _ _)
  · exact ((hnumber _ _).trans (pushRing_keeps _ _)).trans (pushPending_keeps _ _ _)

theorem Evr.admitNumbered_balancedBut {e : Evr} {k : Nat} (h : e.balancedBut k) (r : Rec) (up : Nat) : (e.admitNumbered r up).balancedBut k := by
  have hcounted : balancedBut { e with nextSeq := inc32 e.nextSeq, written := inc32 e.written } (k + 1) := by
    simp only [balancedBut, inc32] at h ⊢
    omega
  unfold admitNumbered
  dsimp only
  split
  · exact placeRing_balancedBut hcounted _ _
  · exact pushPending_balancedBut (pushRing_balancedBut hcounted _) _ _

theorem Evr.receive_of_numbered {e : Evr} (h : e.numbered = true) (r : Rec) (up : Nat) : e.receive r up = e.admitNumbered r up := if_pos h

theorem Evr.receive_keeps (e : Evr) (r : Rec) (up : Nat) : e.Keeps (e.receive r up) := by
  unfold receive
  split
  · exact e.admitNumbered_keeps r up
  · exact ⟨rfl, rfl, rfl, rfl, rfl, rfl⟩

/-- In ring-only working nothing becomes pending (R650). -/
theorem Evr.receive_pend_of_ringOnly {e : Evr} (hnum : e.numbered = true) (hring : e.ringOnly = true) (r : Rec) (up : Nat) : (e.receive r up).pend = e.pend := by
  rw [receive_of_numbered hnum, admitNumbered]
  exact (congrArg pend (if_pos hring)).trans (placeRing_pend _ _ _)

/-- A record in ring-only working, with a slot free in the ring, gets its number and is stored there (R641, R650). -/
theorem Evr.receive_ring_room {e : Evr} (hnum : e.numbered = true) (hring : e.ringOnly = true) (hroom : e.ring.length < ringSize) (r : Rec) (up : Nat) :
    e.receive r up = { e with nextSeq := inc32 e.nextSeq, written := inc32 e.written, ring := e.ring ++ [{ r with seq := some e.nextSeq }], stored := inc32 e.stored } := by
  rw [receive_of_numbered hnum, admitNumbered]
  exact (if_pos hring).trans (if_pos hroom)

/-- A record with the store in use, and fewer pending than ever may be, gets its number and is pending (R641, R643). -/
theorem Evr.receive_pend_room {e : Evr} (hnum : e.numbered = true) (hring : e.ringOnly = false) (hroom : e.pend.length < pendMax) (r : Rec) (up : Nat) :
    e.receive r up = { e with nextSeq := inc32 e.nextSeq, written := inc32 e.written, ring := (e.pushRing { r with seq := some e.nextSeq }).ring, pend := e.pend ++ [⟨{ r with seq := some e.nextSeq }, up⟩] } := by
  rw [receive_of_numbered hnum, admitNumbered]
  exact (if_neg (Bool.eq_false_iff.1 hring)).trans (if_pos hroom)

/-- What any number of admissions make of the Tally. -/
inductive Evr.Admitted (e : Evr) : Evr → Prop
  | none : Admitted e e
  | receive {e' : Evr} (r : Rec) (up : Nat) : Admitted e e' → Admitted e (e'.receive r up)
  | mark {e' : Evr} (d : List (Option Nat)) : Admitted e e' → Admitted e { e' with dropRec := d }

theorem Evr.Admitted.trans {a b c : Evr} (h : a.Admitted b) (h' : b.Admitted c) : a.Admitted c := by
  induction h' with
  | none => exact h
  | receive r up _ ih => exact .receive r up ih
  | mark d _ ih => exact .mark d ih

theorem Evr.Admitted.keeps {e e' : Evr} (h : e.Admitted e') : e.Keeps e' := by
  induction h with
  | none => exact .refl e
  | receive r up _ ih => exact ih.trans (receive_keeps _ r up)
  | mark d _ ih => exact ih.trans ⟨rfl, rfl, rfl, rfl, rfl, rfl⟩

theorem Evr.Admitted.balancedBut {e e' : Evr} {k : Nat} (h : e.Admitted e') (hnum : e.numbered = true) (hk : e.balancedBut k) : e'.balancedBut k := by
  induction h with
  | none => exact hk
  | receive r up h ih =>
    rw [receive_of_numbered (h.keeps.numbered.trans hnum)]
    exact admitNumbered_balancedBut ih r up
  | mark _ _ ih => exact ih

theorem Evr.Admitted.balanced {e e' : Evr} (h : e.Admitted e') (hnum : e.numbered = true) (hb : e.balanced) : e'.balanced := h.balancedBut (k := 0) hnum hb

theorem Evr.Admitted.pend_of_ringOnly {e e' : Evr} (h : e.Admitted e') (hnum : e.numbered = true) (hring : e.ringOnly = true) : e'.pend = e.pend := by
  induction h with
  | none => rfl
  | receive r up h ih =>
    have hring' : ringOnly _ = true := (congrArg (fun n => n == 0 || n == 3) h.keeps.storeState).trans hring
    exact (receive_pend_of_ringOnly (h.keeps.numbered.trans hnum) hring' r up).trans ih
  | mark _ _ ih => exact ih

/-! ### Records and notes of drops as admissions (R642, R660) -/

/-- A state that differs from another in the Tally alone. -/
def EvrOnly (s s' : State) : Prop := s' = { s with evr := s'.evr }

theorem EvrOnly.refl (s : State) : EvrOnly s s := rfl

theorem EvrOnly.of_eq {s : State} {s' : State} {e : Evr} (h : s' = { s with evr := e }) : EvrOnly s s' := by subst h; rfl

theorem EvrOnly.trans {a b c : State} (h : EvrOnly a b) (h' : EvrOnly b c) : EvrOnly a c :=
  .of_eq (Eq.trans h' (congrArg (fun x : State => { x with evr := c.evr }) h))

theorem EvrOnly.foldl {α : Type} {g : State → α → State} (hg : ∀ s x, EvrOnly s (g s x)) (l : List α) (s : State) : EvrOnly s (l.foldl g s) := by
  induction l generalizing s with
  | nil => exact .refl s
  | cons x xs ih => exact (hg s x).trans (ih _)

theorem noteDrop_evrOnly (sev w : Nat) (s : State) : EvrOnly s (noteDrop sev w s) := by
  unfold noteDrop
  split
  · exact .of_eq rfl
  · exact .refl s

theorem noteDrop_admitted (sev w : Nat) (s : State) : s.evr.Admitted (noteDrop sev w s).evr := by
  unfold noteDrop
  split
  · exact .mark _ (.receive _ _ .none)
  · exact .none

theorem record_evrOnly (code sev : Nat) (p0 p1 p2 p3 : Int) (s : State) : EvrOnly s (record code sev p0 p1 p2 p3 s) := by
  unfold record
  split
  · exact .refl s
  · dsimp only
    split
    · exact .of_eq rfl
    · split
      · exact EvrOnly.trans (.of_eq rfl) (noteDrop_evrOnly _ _ _)
      · exact .of_eq rfl

theorem record_admitted (code sev : Nat) (p0 p1 p2 p3 : Int) (s : State) : s.evr.Admitted (record code sev p0 p1 p2 p3 s).evr := by
  unfold record
  split
  · exact .none
  · dsimp only
    split
    · exact .receive _ _ .none
    · split
      · refine .trans ?_ (noteDrop_admitted _ _ _)
        exact .receive _ _ .none
      · exact .receive _ _ .none

/-- An event of the Tally itself, not below SEV_MIN and lost nowhere, is one admission. -/
theorem record_of_admitted {code sev : Nat} {p0 p1 p2 p3 : Int} {s : State} (hsev : s.sevMin code ≤ sev) (hblk : code / 256 = 0x11)
    (hkept : (s.evr.receive (mkRec s code sev p0 p1 p2 p3) s.up).dropped = s.evr.dropped) :
    record code sev p0 p1 p2 p3 s = { s with evr := s.evr.receive (mkRec s code sev p0 p1 p2 p3) s.up } := by
  rw [record, if_neg (by simp [hblk, hsev])]
  exact if_pos hkept

theorem record_evr_ring_room {code sev : Nat} {p0 p1 p2 p3 : Int} {s : State} (hsev : s.sevMin code ≤ sev) (hblk : code / 256 = 0x11)
    (hnum : s.evr.numbered = true) (hring : s.evr.ringOnly = true) (hroom : s.evr.ring.length < ringSize) :
    (record code sev p0 p1 p2 p3 s).evr = { s.evr with nextSeq := inc32 s.evr.nextSeq, written := inc32 s.evr.written, ring := s.evr.ring ++ [{ mkRec s code sev p0 p1 p2 p3 with seq := some s.evr.nextSeq }], stored := inc32 s.evr.stored } := by
  have hrec := Evr.receive_ring_room hnum hring hroom (mkRec s code sev p0 p1 p2 p3) s.up
  rw [record_of_admitted hsev hblk (congrArg Evr.dropped hrec :)]
  exact hrec

theorem record_evr_pend_room {code sev : Nat} {p0 p1 p2 p3 : Int} {s : State} (hsev : s.sevMin code ≤ sev) (hblk : code / 256 = 0x11)
    (hnum : s.evr.numbered = true) (hring : s.evr.ringOnly = false) (hroom : s.evr.pend.length < pendMax) :
    (record code sev p0 p1 p2 p3 s).evr.pend = s.evr.pend ++ [⟨{ mkRec s code sev p0 p1 p2 p3 with seq := some s.evr.nextSeq }, s.up⟩] := by
  have hrec := Evr.receive_pend_room hnum hring hroom (mkRec s code sev p0 p1 p2 p3) s.up
  rw [record_of_admitted hsev hblk (congrArg Evr.dropped hrec :)]
  exact congrArg Evr.pend hrec

/-! ### Placing the records of a page (R648, R649, R654) -/

/-- A free slot takes the record (R649). -/
theorem placeStore_of_room {e : Evr} (h : e.store.freeNext < e.store.slots) (r : Rec) :
    placeStore r false e = some { e with stored := inc32 e.stored, store := { e.store with freeNext := e.store.freeNext + 1, entries := e.store.entries ++ [storedAt e.store.freeNext r] } } :=
  if_pos h

/-- On a full store the record takes the slot of the oldest one of the lowest severity not above its own (R649). -/
theorem placeStore_of_full {e : Evr} {r : Rec} {old : StoreEntry} {l₁ l₂ : List StoreEntry} (hfull : e.store.slots ≤ e.store.freeNext) (hentries : e.store.entries = l₁ ++ old :: l₂)
    (hle : old.severity ≤ r.severity) (hlowest : ∀ x ∈ e.store.entries, x.severity ≤ r.severity → old.severity ≤ x.severity) (holdest : ∀ x ∈ l₁, x.severity ≠ old.severity) :
    placeStore r false e = some { e with
      stored := if old.record.isSome then e.stored % 2 ^ 32 else inc32 e.stored
      overwritten := if old.record.isSome then inc32 e.overwritten else e.overwritten
      store := { e.store with entries := l₁ ++ l₂ ++ [storedAt old.slot r] } } := by
  have hsev : lowestSev (e.store.entries.map (fun x => x.severity)) r.severity = some old.severity :=
    lowestSev_eq_some_iff.2 ⟨by simp [hentries], hle, by simpa using hlowest⟩
  have hfind : e.store.entries.find? (fun x => x.severity == old.severity) = some old := by
    rw [hentries, List.find?_append, List.find?_eq_none.2 (by simpa using holdest), List.find?_cons_of_pos (by simp)]
    rfl
  have hrest : dropFirst (fun x => x.severity == old.severity) e.store.entries = l₁ ++ l₂ := by
    rw [dropFirst_eq_eraseP, hentries, List.eraseP_append_right _ (by simpa using holdest), List.eraseP_cons_of_pos (by simp)]
  have hstored : (inc32 e.stored + 2 ^ 32 - 1) % 2 ^ 32 = e.stored % 2 ^ 32 := by unfold inc32; omega
  simp only [placeStore, if_neg (Nat.not_lt.2 hfull), hsev, hfind, hrest, hstored, Bool.false_eq_true, if_false]
  rfl

/-- On a full store of higher severities the record is lost (R649). -/
theorem placeStore_of_lost {e : Evr} {r : Rec} (hfull : e.store.slots ≤ e.store.freeNext) (habove : ∀ x ∈ e.store.entries, r.severity < x.severity) : placeStore r false e = none := by
  have hsev : lowestSev (e.store.entries.map (fun x => x.severity)) r.severity = none := lowestSev_eq_none_iff.2 (by simpa using habove)
  simp only [placeStore, if_neg (Nat.not_lt.2 hfull), hsev]

/-- A record placed is stored, or overwrites one that was; nothing but the two counts and the store changes. -/
theorem placeStore_counts {e e' : Evr} {r : Rec} (h : placeStore r false e = some e') :
    e' = { e with stored := e'.stored, overwritten := e'.overwritten, store := e'.store } ∧ (e'.stored + e'.overwritten) % 2 ^ 32 = (e.stored + e.overwritten + 1) % 2 ^ 32 := by
  unfold placeStore at h
  dsimp only at h
  split at h
  · obtain rfl := Option.some.inj h
    exact ⟨rfl, by simp only [inc32, Bool.false_eq_true, if_false]; omega⟩
  · split at h
    · cases h
    · split at h
      · cases h
      · obtain rfl := Option.some.inj h
        refine ⟨rfl, ?_⟩
        simp only [inc32, Bool.false_eq_true, if_false]
        split <;> omega

theorem placeOne_of_placed {s : State} {r : Rec} {e : Evr} (h : placeStore r false s.evr = some e) : placeOne s r = { s with evr := e } := by
  rw [placeOne, h]

theorem placeOne_of_lost {s : State} {r : Rec} (h : placeStore r false s.evr = none) : placeOne s r = noteDrop r.severity 1 { s with evr := s.evr.countDrop r.severity s.up } := by
  rw [placeOne, h]

theorem placeOne_evrOnly (s : State) (r : Rec) : EvrOnly s (placeOne s r) := by
  unfold placeOne
  split
  · exact .of_eq rfl
  · exact EvrOnly.trans (.of_eq rfl) (noteDrop_evrOnly _ _ _)

theorem placeOne_numbered (s : State) (r : Rec) : (placeOne s r).evr.numbered = s.evr.numbered := by
  unfold placeOne
  split
  · rename_i e h
    obtain ⟨heq, -⟩ := placeStore_counts h
    show e.numbered = s.evr.numbered
    rw [heq]
  · exact (noteDrop_admitted _ _ _).keeps.numbered

/-- Placing accounts for one record of the page. -/
theorem placeOne_balancedBut {s : State} {k : Nat} (hnum : s.evr.numbered = true) (h : s.evr.balancedBut (k + 1)) (r : Rec) : (placeOne s r).evr.balancedBut k := by
  cases hplace : placeStore r false s.evr with
  | some e =>
    obtain ⟨heq, hcount⟩ := placeStore_counts hplace
    rw [placeOne_of_placed hplace]
    show e.balancedBut k
    rw [heq]
    simp only [Evr.balancedBut] at h ⊢
    omega
  | none =>
    rw [placeOne_of_lost hplace]
    exact (noteDrop_admitted _ _ _).balancedBut hnum (Evr.countDrop_balancedBut h _ _)

theorem foldl_placeOne_balanced {l : List Rec} {s : State} (hnum : s.evr.numbered = true) (h : s.evr.balancedBut l.length) : (l.foldl placeOne s).evr.balanced := by
  induction l generalizing s with
  | nil => exact h
  | cons r rs ih => exact ih ((placeOne_numbered s r).trans hnum) (placeOne_balancedBut hnum h r)

theorem foldl_inc32 {α : Type} {l : List α} (hl : l ≠ []) (x : Nat) : l.foldl (fun n _ => inc32 n) x = (x + l.length) % 2 ^ 32 := by
  induction l generalizing x with
  | nil => exact absurd rfl hl
  | cons a as ih =>
    rw [List.foldl_cons]
    cases as with
    | nil => rfl
    | cons b bs =>
      rw [ih (List.cons_ne_nil b bs), inc32, List.length_cons (a := a)]
      omega

/-- The Tally once free slots have taken records in turn (R649). -/
def Evr.fillSlots (l : List Rec) (e : Evr) : Evr :=
  { e with
    stored := l.foldl (fun n _ => inc32 n) e.stored
    store := { e.store with freeNext := e.store.freeNext + l.length, entries := e.store.entries ++ l.mapIdx (fun k r => storedAt (e.store.freeNext + k) r) } }

theorem foldl_placeOne_of_room {l : List Rec} {s : State} (h : s.evr.store.freeNext + l.length ≤ s.evr.store.slots) : l.foldl placeOne s = updEvr (Evr.fillSlots l) s := by
  induction l generalizing s with
  | nil => simp [updEvr, Evr.fillSlots]
  | cons r rs ih =>
    rw [List.length_cons] at h
    rw [List.foldl_cons, placeOne_of_placed (placeStore_of_room (by omega) r), ih (by simp only; omega)]
    simp [updEvr, Evr.fillSlots, Nat.add_assoc, Nat.add_comm 1]

/-! ### A page committed -/

/-- The Tally as the placing of its page begins. -/
def Evr.landPage (e : Evr) : Evr := { e with inFlight := [] }

/-- The Tally once the records of a page have been placed: the urgent flush counts them, and the header is written (R645, R648). -/
def Evr.closePage (n : Nat) (e : Evr) : Evr := writeHeader { e with urgent := e.urgent.map (fun u => { u with count := u.count + n }) }

theorem commitPage_eq (s : State) :
    commitPage s = updEvr (Evr.closePage s.evr.inFlight.length) (s.evr.inFlight.foldl placeOne (updEvr Evr.landPage s)) := rfl

theorem commitPage_evrOnly (s : State) : EvrOnly s (commitPage s) := by
  rw [commitPage_eq]
  exact EvrOnly.trans (EvrOnly.trans (.of_eq rfl) (.foldl placeOne_evrOnly _ _)) (.of_eq rfl)

theorem Evr.closePage_balanced {e : Evr} (h : e.balanced) (n : Nat) : (e.closePage n).balanced := h

theorem Evr.landPage_balancedBut {e : Evr} (h : e.balanced) : e.landPage.balancedBut e.inFlight.length := h

theorem commitPage_balanced {s : State} (hnum : s.evr.numbered = true) (h : s.evr.balanced) : (commitPage s).evr.balanced :=
  Evr.closePage_balanced (foldl_placeOne_balanced (s := updEvr Evr.landPage s) hnum (Evr.landPage_balancedBut h)) _

theorem commitPage_of_room {s : State} (h : s.evr.store.freeNext + s.evr.inFlight.length ≤ s.evr.store.slots) :
    commitPage s = updEvr (fun e => ((e.landPage).fillSlots e.inFlight).closePage e.inFlight.length) s := by
  rw [commitPage_eq, foldl_placeOne_of_room (s := updEvr Evr.landPage s) h]
  rfl

theorem commitPage_of_single {s : State} {r : Rec} (h : s.evr.inFlight = [r]) : commitPage s = updEvr (Evr.closePage 1) (placeOne (updEvr Evr.landPage s) r) := by
  rw [commitPage_eq, h]
  rfl

/-- With the store in use and room among the pending records, the note of a drop loses nothing more. -/
theorem noteDrop_of_room {s : State} (hnum : s.evr.numbered = true) (hring : s.evr.ringOnly = false) (hroom : s.evr.pend.length < pendMax) (sev w : Nat) :
    ∃ (next written : Nat) (ring : List Rec) (pend : List PendRec) (marks : List (Option Nat)),
      (noteDrop sev w s).evr = { s.evr with nextSeq := next, written := written, ring := ring, pend := pend, dropRec := marks } := by
  unfold noteDrop
  split
  · exact ⟨_, _, _, _, _, by dsimp only; rw [Evr.receive_pend_room hnum hring hroom]⟩
  · exact ⟨_, _, _, _, _, rfl⟩

/-! ### The flush engine takes a page (R644, R645) -/

theorem pageDue_iff (s : State) :
    s.pageDue = true ↔ ∃ p l, s.evr.pend = p :: l ∧ (16 ≤ s.evr.pend.length ∨ p.up + s.image.events.flushAgeMs * 1000000 ≤ s.up ∨ s.evr.urgent ≠ none ∨ s.saf.pfailLow = true) := by
  unfold State.pageDue
  cases hpend : s.evr.pend with
  | nil => simp
  | cons p l =>
    simp only [Bool.or_eq_true, decide_eq_true_eq, Option.isSome_iff_ne_none, or_assoc]
    simp [nsPerMs]

/-- The Tally once the flush engine has taken a page. -/
def Evr.takePage (e : Evr) : Evr := { e with inFlight := (e.pend.take 16).map (fun p => p.record), pend := e.pend.drop 16 }

theorem flushPageStart_eq (s : State) :
    flushPageStart s = if s.evr.storeState = 2 ∧ s.evr.inFlight = [] ∧ s.domOk 0 = true ∧ s.pageDue = true then updEvr Evr.takePage s else s := rfl

theorem Evr.takePage_balanced {e : Evr} (hnone : e.inFlight = []) (h : e.balanced) : e.takePage.balanced := by
  simp only [balanced, takePage, hnone, List.length_map, List.length_take, List.length_drop, List.length_nil] at h ⊢
  omega

theorem flushPageStart_balanced {s : State} (h : s.evr.balanced) : (flushPageStart s).evr.balanced := by
  rw [flushPageStart_eq]
  split
  · rename_i hbegins
    obtain ⟨-, hnone, -⟩ := hbegins
    exact Evr.takePage_balanced hnone h
  · exact h

/-! ### The page in the store, or not (R648, R649, R653) -/

theorem pageCommit_of_none {s : State} (h : s.evr.inFlight = []) (ok : Bool) : pageCommit ok s = s := if_pos h

theorem pageCommit_true_of_page {s : State} (h : s.evr.inFlight ≠ []) : pageCommit true s = commitPage s := if_neg h

theorem pageCommit_false_of_page {s : State} (h : s.evr.inFlight ≠ []) : pageCommit false s = storeFails s := if_neg h

/-- The Tally as it goes over to ring-only working: what was pending stays in the ring as stored (R653). -/
def Evr.failStore (e : Evr) : Evr :=
  { e with storeState := 3, stored := (e.stored + e.pend.length + e.inFlight.length) % 2 ^ 32, pend := [], inFlight := [], urgent := none }

theorem storeFails_eq (s : State) : storeFails s = record 0x1101 5 s.evr.storeState 3 s.image.events.storeMiB s.tickNo (updEvr Evr.failStore s) := rfl

theorem Evr.failStore_balanced {e : Evr} (h : e.balanced) : e.failStore.balanced := by
  simp only [balanced, failStore, List.length_nil] at h ⊢
  omega

theorem storeFails_evrOnly (s : State) : EvrOnly s (storeFails s) := EvrOnly.trans (.of_eq rfl) (record_evrOnly _ _ _ _ _ _ (updEvr Evr.failStore s))

theorem storeFails_admitted (s : State) : s.evr.failStore.Admitted (storeFails s).evr := record_admitted _ _ _ _ _ _ (updEvr Evr.failStore s)

/-- The failure is recorded in the ring, which is the store from now on (R653). -/
theorem storeFails_of_room {s : State} (hnum : s.evr.numbered = true) (hsev : s.sevMin 0x1101 ≤ 5) (hroom : s.evr.ring.length < ringSize) :
    ∃ r : Rec, r.code = 0x1101 ∧ r.p0 = wordN s.evr.storeState ∧ r.p1 = 3 ∧ r.seq = some s.evr.nextSeq ∧ (storeFails s).evr.ring = s.evr.ring ++ [r]
      ∧ (storeFails s).evr.stored = inc32 ((s.evr.stored + s.evr.pend.length + s.evr.inFlight.length) % 2 ^ 32) := by
  have hrec := record_evr_ring_room (p0 := s.evr.storeState) (p1 := 3) (p2 := s.image.events.storeMiB) (p3 := s.tickNo) (s := updEvr Evr.failStore s) hsev rfl hnum rfl hroom
  exact ⟨_, rfl, BitVec.ofInt_natCast _ _, rfl, rfl, congrArg Evr.ring hrec, congrArg Evr.stored hrec⟩

theorem pageCommit_balanced {s : State} (hnum : s.evr.numbered = true) (h : s.evr.balanced) (ok : Bool) : (pageCommit ok s).evr.balanced := by
  by_cases hpage : s.evr.inFlight = []
  · rw [pageCommit_of_none hpage]
    exact h
  · cases ok with
    | true =>
      rw [pageCommit_true_of_page hpage]
      exact commitPage_balanced hnum h
    | false =>
      rw [pageCommit_false_of_page hpage]
      exact (storeFails_admitted s).balanced hnum (Evr.failStore_balanced h)

/-! ### The end of an urgent flush (R645, R660) -/

/-- The Tally once an urgent flush of some µs has ended. -/
def Evr.endUrgent (us : Nat) (e : Evr) : Evr := { e with urgent := none, flushMax := max e.flushMax (min us 65535) }

theorem urgentFlushDone_of_waiting {s : State} (h : s.evr.urgent = none ∨ s.evr.pend ≠ [] ∨ s.evr.inFlight ≠ []) : urgentFlushDone s = s := by
  unfold urgentFlushDone
  split
  · rfl
  · rename_i u hu
    exact if_neg (by simpa [hu, Classical.or_iff_not_imp_left] using h)

theorem urgentFlushDone_of_done {s : State} {u : UrgentRun} (hu : s.evr.urgent = some u) (hpend : s.evr.pend = []) (hpage : s.evr.inFlight = []) :
    urgentFlushDone s = record 0x1106 2 u.trigger u.count ((s.up - u.since) / 1000 : Nat) s.tickNo (updEvr (Evr.endUrgent ((s.up - u.since) / 1000)) s) := by
  unfold urgentFlushDone
  rw [hu]
  exact if_pos ⟨hpend, hpage⟩

theorem Evr.endUrgent_balanced {e : Evr} (h : e.balanced) (us : Nat) : (e.endUrgent us).balanced := h

theorem urgentFlushDone_evrOnly (s : State) : EvrOnly s (urgentFlushDone s) := by
  unfold urgentFlushDone
  split
  · exact .refl s
  · split
    · exact EvrOnly.trans (.of_eq rfl) (record_evrOnly _ _ _ _ _ _ _)
    · exact .refl s

theorem urgentFlushDone_admitted {s : State} {u : UrgentRun} (hu : s.evr.urgent = some u) (hpend : s.evr.pend = []) (hpage : s.evr.inFlight = []) :
    (s.evr.endUrgent ((s.up - u.since) / 1000)).Admitted (urgentFlushDone s).evr := by
  rw [urgentFlushDone_of_done hu hpend hpage]
  exact record_admitted _ _ _ _ _ _ (updEvr (Evr.endUrgent ((s.up - u.since) / 1000)) s)

/-- The end of the urgent flush is recorded as EVR_FLUSH, the one record pending (R660). -/
theorem urgentFlushDone_pend {s : State} {u : UrgentRun} (hu : s.evr.urgent = some u) (hpend : s.evr.pend = []) (hpage : s.evr.inFlight = [])
    (hnum : s.evr.numbered = true) (hsev : s.sevMin 0x1106 ≤ 2) (hstore : s.evr.storeState = 2) :
    ∃ r : Rec, (urgentFlushDone s).evr.pend = [⟨r, s.up⟩] ∧ r.code = 0x1106 ∧ r.severity = 2 ∧ r.p0 = wordN u.trigger ∧ r.p1 = wordN u.count ∧ r.p2 = wordN ((s.up - u.since) / 1000) := by
  have hring : s.evr.ringOnly = false := by simp [Evr.ringOnly, hstore]
  have hrec := record_evr_pend_room (p0 := u.trigger) (p1 := u.count) (p2 := ((s.up - u.since) / 1000 : Nat)) (p3 := s.tickNo) (s := updEvr (Evr.endUrgent ((s.up - u.since) / 1000)) s)
    hsev rfl hnum hring (show s.evr.pend.length < pendMax by simp [hpend, pendMax])
  rw [urgentFlushDone_of_done hu hpend hpage, hrec]
  exact ⟨_, congrArg (· ++ [_]) hpend, rfl, rfl, BitVec.ofInt_natCast _ _, BitVec.ofInt_natCast _ _, BitVec.ofInt_natCast _ _⟩

theorem urgentFlushDone_balanced {s : State} (hnum : s.evr.numbered = true) (h : s.evr.balanced) : (urgentFlushDone s).evr.balanced := by
  by_cases hwait : s.evr.urgent = none ∨ s.evr.pend ≠ [] ∨ s.evr.inFlight ≠ []
  · rw [urgentFlushDone_of_waiting hwait]
    exact h
  · obtain ⟨hrun, hrest⟩ := not_or.1 hwait
    obtain ⟨hpend, hpage⟩ := not_or.1 hrest
    obtain ⟨u, hu⟩ := Option.ne_none_iff_exists'.1 hrun
    exact (urgentFlushDone_admitted hu (Classical.not_not.1 hpend) (Classical.not_not.1 hpage)).balanced hnum (Evr.endUrgent_balanced h _)

/-! ### The read-out selected by EVR_READ_SEQ (R657) -/

/-- The window of a path begins with the lowest record held at or after a number. -/
theorem Evr.heldFrom_head {e : Evr} {n : Nat} {x : Rec} (hx : x ∈ e.held) (hn : atOrAfter (x.seq.getD 0) n = true) :
    ∃ r, (e.heldFrom n)[0]? = some r ∧ r ∈ e.held ∧ atOrAfter (r.seq.getD 0) n = true
      ∧ ∀ y ∈ e.held, atOrAfter (y.seq.getD 0) n = true → seqAfter (r.seq.getD 0) n ≤ seqAfter (y.seq.getD 0) n := by
  obtain ⟨hmem, hsorted⟩ := sortBy_spec (fun r : Rec => (seqAfter (r.seq.getD 0) n : Int)) (e.held.filter (fun r => atOrAfter (r.seq.getD 0) n))
  change ∀ y, y ∈ e.heldFrom n ↔ _ at hmem
  change (e.heldFrom n).Pairwise _ at hsorted
  simp only [List.mem_filter] at hmem
  cases hl : e.heldFrom n with
  | nil => simpa [hl] using (hmem x).2 ⟨hx, hn⟩
  | cons r rs =>
    rw [hl] at hmem hsorted
    obtain ⟨hheld, hafter⟩ := (hmem r).1 List.mem_cons_self
    refine ⟨r, rfl, hheld, hafter, fun y hy hy' => ?_⟩
    rcases List.mem_cons.1 ((hmem y).2 ⟨hy, hy'⟩) with rfl | hys
    · exact Nat.le_refl _
    · exact Int.ofNat_le.1 (List.rel_of_pairwise_cons hsorted hys)

theorem evrReg_readSeq (s : State) (p : Path) : s.evrReg p 0x80 = some ((assoc s.evr.readSeq p).getD 0) := rfl

theorem evrReg_readSeqWrite_same (s : State) (p : Path) (v : Word) : (readSeqWrite p v s).evrReg p 0x80 = some v := by
  rw [evrReg_readSeq, show assoc (readSeqWrite p v s).evr.readSeq p = some v from assoc_assocSet_same _ _ _, Option.getD_some]

theorem evrReg_readSeqWrite_of_ne (s : State) {p q : Path} (v : Word) (h : q ≠ p) : (readSeqWrite p v s).evrReg q 0x80 = s.evrReg q 0x80 := by
  rw [evrReg_readSeq, evrReg_readSeq, show assoc (readSeqWrite p v s).evr.readSeq q = assoc s.evr.readSeq q from assoc_assocSet_of_ne _ _ h]

/-- The first record of the window of a path. -/
theorem evrReg_window (s : State) (p : Path) {w : Nat} (h : w < 8) : s.evrReg p (0x100 + 4 * w) = some (s.evrWindow p 0 w) := by
  match w, h with
  | 0, _ => rfl
  | 1, _ => rfl
  | 2, _ => rfl
  | 3, _ => rfl
  | 4, _ => rfl
  | 5, _ => rfl
  | 6, _ => rfl
  | 7, _ => rfl

theorem evrReg_window_readSeqWrite (s : State) (p : Path) (v : Word) {w : Nat} {r : Rec} (hw : w < 8) (h : (s.evr.heldFrom v.toNat)[0]? = some r) :
    (readSeqWrite p v s).evrReg p (0x100 + 4 * w) = some (recWord r w) := by
  have hsel : assoc (readSeqWrite p v s).evr.readSeq p = some v := assoc_assocSet_same _ _ _
  have hhead : ((readSeqWrite p v s).evr.heldFrom v.toNat)[0]? = some r := h
  rw [evrReg_window _ p hw]
  simp only [State.evrWindow, hsel, Option.getD_some, hhead]

/-! ### The clauses of StorePagesWritten, on the state as a command finds it -/

/-- A command whose meaning is a function of the state at its start gives what holds of that function's result. -/
theorem gives_of_next {c : Instr} {s s' : State} {P : State → Prop} (hexec : exec c s = .next s') (h : P s') : Gives c s P := ⟨s', hexec, h⟩

/-- The records of a page stand behind the entries of the store, in the free slots. -/
theorem Evr.fillSlots_entries_lt (l : List Rec) (e : Evr) {k : Nat} (hk : k < e.store.entries.length) : (e.fillSlots l).store.entries[k]? = e.store.entries[k]? :=
  List.getElem?_append_left hk

theorem Evr.fillSlots_entries_add (l : List Rec) (e : Evr) {k : Nat} {r : Rec} (hr : l[k]? = some r) :
    (e.fillSlots l).store.entries[e.store.entries.length + k]? = some (storedAt (e.store.freeNext + k) r) := by
  simp only [fillSlots, List.getElem?_append_right (Nat.le_add_right _ _), Nat.add_sub_cancel_left, List.getElem?_mapIdx, hr, Option.map_some]

theorem Evr.fillSlots_entries_length (l : List Rec) (e : Evr) : (e.fillSlots l).store.entries.length = e.store.entries.length + l.length := by
  simp only [fillSlots, List.length_append, List.length_mapIdx]

/-- A page of one record with no slot for it: the record is dropped, and the store keeps its entries (R649). -/
theorem commitPage_of_lost {s : State} {r : Rec} (hpage : s.evr.inFlight = [r]) (hfull : s.evr.store.slots ≤ s.evr.store.freeNext) (habove : ∀ x ∈ s.evr.store.entries, r.severity < x.severity)
    (hnum : s.evr.numbered = true) (hstore : s.evr.storeState = 2) (hroom : s.evr.pend.length < pendMax) :
    (commitPage s).evr.inFlight = [] ∧ (commitPage s).evr.store.entries = s.evr.store.entries ∧ (commitPage s).evr.stored = s.evr.stored
      ∧ (commitPage s).evr.overwritten = s.evr.overwritten ∧ (commitPage s).evr.dropped = inc32 s.evr.dropped ∧ (commitPage s).evr.drop = upd s.evr.drop r.severity inc32 := by
  have hring : s.evr.ringOnly = false := by simp [Evr.ringOnly, hstore]
  obtain ⟨next, written, ring, pend, marks, hnote⟩ := noteDrop_of_room (s := updEvr (fun e => e.landPage.countDrop r.severity s.up) s) hnum hring hroom r.severity 1
  have heq : commitPage s = updEvr (Evr.closePage 1) (noteDrop r.severity 1 (updEvr (fun e => e.landPage.countDrop r.severity s.up) s)) :=
    (commitPage_of_single hpage).trans (congrArg (updEvr (Evr.closePage 1)) (placeOne_of_lost (s := updEvr Evr.landPage s) (placeStore_of_lost hfull habove)))
  have hevr : (commitPage s).evr = Evr.closePage 1 _ := (congrArg State.evr heq).trans (congrArg (Evr.closePage 1) hnote)
  rw [hevr]
  exact ⟨rfl, rfl, rfl, rfl, rfl, rfl⟩

/-- A page of one record that takes the slot of an entry of the full store (R649). -/
theorem commitPage_of_full {s : State} {r : Rec} {old : StoreEntry} {l₁ l₂ : List StoreEntry} (hpage : s.evr.inFlight = [r]) (hfull : s.evr.store.slots ≤ s.evr.store.freeNext)
    (hentries : s.evr.store.entries = l₁ ++ old :: l₂) (hle : old.severity ≤ r.severity) (hlowest : ∀ x ∈ s.evr.store.entries, x.severity ≤ r.severity → old.severity ≤ x.severity)
    (holdest : ∀ x ∈ l₁, x.severity ≠ old.severity) :
    commitPage s = updEvr (fun e => Evr.closePage 1 { e.landPage with
      stored := if old.record.isSome then e.stored % 2 ^ 32 else inc32 e.stored
      overwritten := if old.record.isSome then inc32 e.overwritten else e.overwritten
      store := { e.store with entries := l₁ ++ l₂ ++ [storedAt old.slot r] } }) s := by
  rw [commitPage_of_single hpage, placeOne_of_placed (s := updEvr Evr.landPage s) (placeStore_of_full hfull hentries hle hlowest holdest)]
  rfl

/-- Settles O49: the flush engine, the placing of a page, the failure of the store, the end of an urgent flush and the read-out, each from its rule above; the books by counting each record of a page as placed or lost. The clauses in which nothing happens rest on log entry 3, the books of a page in flight on entry 84, the count of an urgent flush on entry 86. -/
theorem storePagesWritten : Obligations.StorePagesWritten := by
  intro t s hnum hdrop s0 e up n due begins evrOnly
  have hdue : s0.pageDue = true ↔ due := pageDue_iff s0
  refine ⟨fun hbegins => ?_, fun hidle => ?_, fun ok hnone => ?_, fun hpage hroom => ?_, fun r old l₁ l₂ hpage hfull hentries hle hlowest holdest => ?_,
    fun r hpage hr hfull habove hstore hpend => ?_, fun hpage => ?_, fun hwait => ?_, fun u hu hpend hpage => ?_, fun p v => ?_, fun hb => ?_⟩
  · obtain ⟨hstore, hnone, hdom, hdue'⟩ := hbegins
    exact gives_of_next rfl (if_pos ⟨hstore, hnone, hdom, hdue.2 hdue'⟩)
  · exact gives_of_next rfl (if_neg fun ⟨hstore, hnone, hdom, hdue'⟩ => hidle ⟨hstore, hnone, hdom, hdue.1 hdue'⟩)
  · exact gives_of_next rfl (pageCommit_of_none (s := s0) hnone ok)
  · have heq := (pageCommit_true_of_page (s := s0) hpage).trans (commitPage_of_room (s := s0) hroom)
    exact gives_of_next (congrArg Host.Outcome.next heq) ⟨rfl, rfl, rfl, foldl_inc32 hpage _, rfl,
      e.landPage.fillSlots_entries_length _, fun k hk => e.landPage.fillSlots_entries_lt _ hk, fun k r hr => e.landPage.fillSlots_entries_add _ hr,
      rfl, rfl, rfl, rfl, rfl, rfl, rfl, rfl, rfl, rfl, rfl⟩
  · have hne : e.inFlight ≠ [] := hpage ▸ List.cons_ne_nil r []
    have heq := (pageCommit_true_of_page (s := s0) hne).trans (commitPage_of_full (s := s0) hpage hfull hentries hle hlowest holdest)
    refine gives_of_next (congrArg Host.Outcome.next heq) ⟨rfl, rfl, rfl, rfl, rfl, rfl, fun hvoid => ?_, fun hheld => ?_⟩
    · have hsome : ¬ old.record.isSome = true := by simp [hvoid]
      exact ⟨if_neg hsome, if_neg hsome⟩
    · have hsome : old.record.isSome = true := Option.isSome_iff_ne_none.2 hheld
      exact ⟨if_pos hsome, if_pos hsome⟩
  · obtain ⟨hflight, hentries, hstored, hover, hdropped, hlist⟩ := commitPage_of_lost (s := s0) hpage hfull habove hnum hstore hpend
    have hne : e.inFlight ≠ [] := hpage ▸ List.cons_ne_nil r []
    refine gives_of_next (congrArg Host.Outcome.next (pageCommit_true_of_page (s := s0) hne)) ⟨commitPage_evrOnly s0, hflight, hentries, hstored, hover, hdropped, ?_, fun k hk => ?_⟩
    · rw [hlist]
      exact nth_upd_same _ _ _ _ (hdrop.symm ▸ hr)
    · rw [hlist]
      exact nth_upd_of_ne _ _ _ hk
  · have hkeeps := (storeFails_admitted s0).keeps
    have hpend : (storeFails s0).evr.pend = [] := (storeFails_admitted s0).pend_of_ringOnly hnum rfl
    refine gives_of_next (congrArg Host.Outcome.next (pageCommit_false_of_page (s := s0) hpage))
      ⟨storeFails_evrOnly s0, hkeeps.storeState, hpend, hkeeps.inFlight, hkeeps.urgent, hkeeps.store, fun hsev hring => ?_⟩
    obtain ⟨r, hcode, hp0, hp1, hseq, hr, hstored⟩ := storeFails_of_room (s := s0) hnum hsev hring
    exact ⟨hstored, r, hr, hcode, hp0, hp1, hseq⟩
  · exact gives_of_next rfl (urgentFlushDone_of_waiting (s := s0) hwait)
  · have hkeeps := (urgentFlushDone_admitted (s := s0) hu hpend hpage).keeps
    exact gives_of_next rfl ⟨urgentFlushDone_evrOnly s0, hkeeps.urgent, hkeeps.flushMax, fun hsev hstore => urgentFlushDone_pend (s := s0) hu hpend hpage hnum hsev hstore⟩
  · refine gives_of_next rfl ⟨rfl, evrReg_readSeqWrite_same s0 p v, fun q hq => evrReg_readSeqWrite_of_ne s0 v hq, fun x hx hafter => ?_⟩
    obtain ⟨r, hhead, hheld, hr, hlowest⟩ := Evr.heldFrom_head hx hafter
    exact ⟨r, hheld, hr, hlowest x hx hafter, fun w hw => evrReg_window_readSeqWrite s0 p v hw hhead⟩
  · exact ⟨gives_of_next rfl (flushPageStart_balanced (s := s0) hb), fun ok => gives_of_next rfl (pageCommit_balanced (s := s0) hnum hb ok), gives_of_next rfl (urgentFlushDone_balanced (s := s0) hnum hb)⟩

end Sys2Proof.Machine

/-! PROOFS. The calendar (R664 to R676, R694): dates as days counted from 2000-01-01 and back, the second and the leap, the comparison with system time, the trim, the commit and the shadows, and from these O50. -/

namespace Sys2Proof.Machine

open Sys2Proof

/-! ### Days of a year (R665) -/

/-- The days of a year before the first of a month. -/
def daysBefore (y m : Nat) : Nat := (List.range (m - 1)).foldl (fun n i => n + daysInMonth y (i + 1)) 0

theorem dayNumber_eq (y m d : Nat) : dayNumber y m d = (y - 2000) * 365 + leapsBefore y + daysBefore y m + (d - 1) := rfl

@[simp] theorem daysBefore_one (y : Nat) : daysBefore y 1 = 0 := rfl

theorem daysBefore_succ (y : Nat) {m : Nat} (h : 1 ≤ m) : daysBefore y (m + 1) = daysBefore y m + daysInMonth y m := by
  obtain ⟨k, rfl⟩ : ∃ k, m = k + 1 := ⟨m - 1, by omega⟩
  simp [daysBefore, List.range_succ]

theorem daysBefore_mono (y : Nat) {m n : Nat} (hm : 1 ≤ m) (h : m ≤ n) : daysBefore y m ≤ daysBefore y n := by
  induction h with
  | refl => exact Nat.le_refl _
  | step hn ih =>
    rw [Nat.succ_eq_add_one, daysBefore_succ y (Nat.le_trans hm hn)]
    exact Nat.le_add_right_of_le ih

theorem leapYear_iff (y : Nat) : leapYear y = true ↔ y % 4 = 0 ∧ (y % 100 ≠ 0 ∨ y % 400 = 0) := by
  simp [leapYear]

/-- The days of a year end where the next year begins. -/
theorem dayNumber_succ_year {y : Nat} (hy : 2000 ≤ y) : dayNumber (y + 1) 1 1 = dayNumber y 1 1 + daysBefore y 12 + 31 := by
  have hleap := leapYear_iff y
  by_cases h : leapYear y = true
  · have hdays : daysBefore y 12 = 335 := by simp [daysBefore, List.range_succ, daysInMonth, h]
    have hy4 := hleap.1 h
    simp only [dayNumber_eq, daysBefore_one, hdays, leapsBefore]
    omega
  · have hdays : daysBefore y 12 = 334 := by simp [daysBefore, List.range_succ, daysInMonth, h]
    have hy4 := mt hleap.2 h
    simp only [dayNumber_eq, daysBefore_one, hdays, leapsBefore]
    omega

/-- From the first of month m, the search for a day of a later month n ends there. -/
theorem monthDay_of_daysBefore {y n d : Nat} (hd : d < daysInMonth y n) (f : Nat) {m : Nat} (hm : 1 ≤ m) (hmn : m ≤ n) (hf : n ≤ m + f) :
    monthDay f y m (daysBefore y n - daysBefore y m + d) = (n, d + 1) := by
  induction f generalizing m with
  | zero =>
    obtain rfl : m = n := by omega
    simp [monthDay]
  | succ f ih =>
    rcases Nat.eq_or_lt_of_le hmn with rfl | hlt
    · simp [monthDay, hd]
    · have hnext := daysBefore_succ y hm
      have hle := daysBefore_mono y (m := m + 1) (by omega) hlt
      have hrest : daysBefore y n - daysBefore y m + d - daysInMonth y m = daysBefore y n - daysBefore y (m + 1) + d := by omega
      rw [monthDay, if_neg (by omega), hrest]
      exact ih (by omega) hlt (by omega)

/-! ### A date from its day and back (R664, R665) -/

/-- A day of the calendar's range of years lies in its year. -/
theorem dayNumber_mem_year {y m d : Nat} (hy : 2000 ≤ y) (hm : 1 ≤ m) (hm' : m ≤ 12) (hd : 1 ≤ d) (hd' : d ≤ daysInMonth y m) :
    dayNumber y 1 1 ≤ dayNumber y m d ∧ dayNumber y m d < dayNumber (y + 1) 1 1 := by
  have hend : daysBefore y 13 = daysBefore y 12 + 31 := daysBefore_succ y (by decide)
  have hnext := daysBefore_succ y hm
  have hle := daysBefore_mono y (m := m + 1) (n := 13) (by omega) (by omega)
  rw [dayNumber_succ_year hy, dayNumber_eq y m d, dayNumber_eq y 1 1, daysBefore_one]
  omega

theorem dayNumber_first (k : Nat) : dayNumber (2000 + k) 1 1 = k * 365 + ((k + 3) / 4 - (k + 99) / 100 + (k + 399) / 400) := by
  simp [dayNumber_eq, leapsBefore]

theorem dayNumber_first_mono {y y' : Nat} (hy : 2000 ≤ y) (h : y ≤ y') : dayNumber y 1 1 ≤ dayNumber y' 1 1 := by
  induction h with
  | refl => exact Nat.le_refl _
  | step hn ih =>
    rw [Nat.succ_eq_add_one, dayNumber_succ_year (Nat.le_trans hy hn)]
    omega

/-- The mean year of 146097/400 days finds the year of a day but for one. -/
theorem year_estimate {y day : Nat} (hy : 2000 ≤ y) (h : dayNumber y 1 1 ≤ day) (h' : day < dayNumber (y + 1) 1 1) :
    y ≤ 2000 + day * 400 / 146097 + 1 ∧ 2000 + day * 400 / 146097 ≤ y + 1 := by
  obtain ⟨k, rfl⟩ : ∃ k, y = 2000 + k := ⟨y - 2000, by omega⟩
  rw [dayNumber_first] at h
  rw [Nat.add_assoc, dayNumber_first] at h'
  omega

/-- From an estimate that is off by one at most, the year in which a day lies is found as the model does. -/
theorem year_of_estimate {y y0 day : Nat} (hy : 2000 ≤ y) (h : dayNumber y 1 1 ≤ day) (h' : day < dayNumber (y + 1) 1 1) (hle : y ≤ y0 + 1) (hge : y0 ≤ y + 1) :
    (if dayNumber (y0 + 1) 1 1 ≤ day then y0 + 1 else if day < dayNumber y0 1 1 then y0 - 1 else y0) = y := by
  obtain rfl | rfl | rfl : y = y0 + 1 ∨ y = y0 ∨ y0 = y + 1 := by omega
  · exact if_pos h
  · rw [if_neg (Nat.not_le.2 h'), if_neg (Nat.not_lt.2 h)]
  · have hlater : dayNumber (y + 1) 1 1 ≤ dayNumber (y + 1 + 1) 1 1 := dayNumber_first_mono (by omega) (by omega)
    rw [if_neg (by omega), if_pos h', Nat.add_sub_cancel]

/-- The date of the day of a date is that date at midnight, with its weekday. -/
theorem dateOf_dayNumber {y m d : Nat} (hy : 2000 ≤ y) (hm : 1 ≤ m) (hm' : m ≤ 12) (hd : 1 ≤ d) (hd' : d ≤ daysInMonth y m) :
    dateOf (dayNumber y m d) = { year := y, month := m, day := d, weekday := weekdayOf (dayNumber y m d) } := by
  obtain ⟨hfirst, hlast⟩ := dayNumber_mem_year hy hm hm' hd hd'
  obtain ⟨hle, hge⟩ := year_estimate hy hfirst hlast
  have hyear := year_of_estimate hy hfirst hlast hle hge
  have hday : dayNumber y m d - dayNumber y 1 1 = daysBefore y m - daysBefore y 1 + (d - 1) := by
    simp only [dayNumber_eq, daysBefore_one]
    omega
  have hmonth := monthDay_of_daysBefore (y := y) (n := m) (d := d - 1) (by omega) 11 (m := 1) (Nat.le_refl _) hm (by omega)
  rw [dateOf, hyear, hday, hmonth, Nat.sub_add_cancel hd]

theorem weekdayOf_succ (day : Nat) : weekdayOf (day + 1) = weekdayOf day % 7 + 1 := by
  simp only [weekdayOf]
  omega

/-! ### A reading of the calendar from its seconds, and midnight (R664, R665) -/

theorem dateOf_dayOf {c : Calendar} (h : calendarOk c) : dateOf (dayOf c) = { year := c.year, month := c.month, day := c.day, weekday := c.weekday } := by
  obtain ⟨hy, -, hm, hm', hd, hd', -, -, -, hweek⟩ := h
  rw [hweek]
  exact dateOf_dayNumber hy hm hm' hd hd'

theorem ofSeconds_calSeconds {c : Calendar} (h : calendarOk c) : ofSeconds (calSeconds c) = { c with subsec := 0 } := by
  have hdate := dateOf_dayOf h
  obtain ⟨-, -, -, -, -, -, hhour, hmin, hsec, -⟩ := h
  have hday : calSeconds c / 86400 - 10957 = dayOf c := by simp only [calSeconds, dayOf]; omega
  have htime : calSeconds c % 86400 = c.hour * 3600 + c.min * 60 + c.sec := by simp only [calSeconds]; omega
  have hhour' : (c.hour * 3600 + c.min * 60 + c.sec) / 3600 = c.hour := by omega
  have hmin' : (c.hour * 3600 + c.min * 60 + c.sec) / 60 % 60 = c.min := by omega
  have hsec' : (c.hour * 3600 + c.min * 60 + c.sec) % 60 = c.sec := by omega
  simp only [ofSeconds, hday, htime, hdate, hhour', hmin', hsec']

theorem ofSeconds_succ_of_sec {c : Calendar} (h : calendarOk c) (hsec : c.sec < 59) : ofSeconds (calSeconds c + 1) = { c with sec := c.sec + 1, subsec := 0 } := by
  obtain ⟨hy, hy', hm, hm', hd, hd', hh, hmi, -, hweek⟩ := h
  have hnext : calSeconds c + 1 = calSeconds { c with sec := c.sec + 1 } := by simp only [calSeconds]; omega
  rw [hnext]
  exact ofSeconds_calSeconds ⟨hy, hy', hm, hm', hd, hd', hh, hmi, hsec, hweek⟩

theorem ofSeconds_succ_of_min {c : Calendar} (h : calendarOk c) (hsec : c.sec = 59) (hmin : c.min < 59) :
    ofSeconds (calSeconds c + 1) = { c with min := c.min + 1, sec := 0, subsec := 0 } := by
  obtain ⟨hy, hy', hm, hm', hd, hd', hh, -, -, hweek⟩ := h
  have hnext : calSeconds c + 1 = calSeconds { c with min := c.min + 1, sec := 0 } := by simp only [calSeconds]; omega
  rw [hnext]
  exact ofSeconds_calSeconds ⟨hy, hy', hm, hm', hd, hd', hh, hmin, Nat.zero_le _, hweek⟩

theorem ofSeconds_succ_of_hour {c : Calendar} (h : calendarOk c) (hsec : c.sec = 59) (hmin : c.min = 59) (hhour : c.hour < 23) :
    ofSeconds (calSeconds c + 1) = { c with hour := c.hour + 1, min := 0, sec := 0, subsec := 0 } := by
  obtain ⟨hy, hy', hm, hm', hd, hd', -, -, -, hweek⟩ := h
  have hnext : calSeconds c + 1 = calSeconds { c with hour := c.hour + 1, min := 0, sec := 0 } := by simp only [calSeconds]; omega
  rw [hnext]
  exact ofSeconds_calSeconds ⟨hy, hy', hm, hm', hd, hd', hhour, Nat.zero_le _, Nat.zero_le _, hweek⟩

/-- Midnight of the next day, by the day's count, is midnight by month ends and year ends (R664, R665). -/
theorem nextDay_eq_midnightAfter {c : Calendar} (h : calendarOk c) : nextDay c = midnightAfter c := by
  obtain ⟨hy, -, hm, hm', hd, hd', -, -, -, hweek⟩ := h
  have hwd : weekdayOf (dayOf c + 1) = c.weekday % 7 + 1 := by rw [weekdayOf_succ, hweek]
  have hpos (y m : Nat) : 1 ≤ daysInMonth y m := by unfold daysInMonth; (repeat' split) <;> decide
  unfold nextDay midnightAfter
  by_cases hwrap : c.year = 2399 ∧ c.month = 12 ∧ c.day = 31
  · rw [if_pos hwrap, if_pos hwrap]
  · rw [if_neg hwrap, if_neg hwrap, ← hwd]
    by_cases hday : c.day < daysInMonth c.year c.month
    · have hnext : dayOf c + 1 = dayNumber c.year c.month (c.day + 1) := by simp only [dayOf, dayNumber_eq]; omega
      rw [if_pos hday, hnext]
      exact dateOf_dayNumber hy hm hm' (Nat.le_add_left 1 c.day) hday
    rw [if_neg hday]
    by_cases hmonth : c.month < 12
    · have hnext : dayOf c + 1 = dayNumber c.year (c.month + 1) 1 := by
        simp only [dayOf, dayNumber_eq, daysBefore_succ _ hm]
        omega
      rw [if_pos hmonth, hnext]
      exact dateOf_dayNumber hy (Nat.le_add_left 1 c.month) hmonth (Nat.le_refl _) (hpos _ _)
    · have hdec : c.month = 12 := by omega
      have hlen : daysInMonth c.year 12 = 31 := rfl
      have hnext : dayOf c + 1 = dayNumber (c.year + 1) 1 1 := by
        rw [hdec] at hd' hday
        simp only [dayOf, hdec, dayNumber_succ_year hy, dayNumber_eq, daysBefore_one]
        omega
      rw [if_neg hmonth, hnext]
      exact dateOf_dayNumber (by omega) (Nat.le_refl _) (by decide) (Nat.le_refl _) (hpos _ _)

theorem midnightAfter_subsec (c : Calendar) : (midnightAfter c).subsec = 0 := by
  unfold midnightAfter
  dsimp only
  (repeat' split) <;> rfl

theorem setCal_nextDay {c : Calendar} (h : calendarOk c) (s : State) : setCal (nextDay c) s = updRtc (fun r => { r with cal := midnightAfter c, secUp := s.up }) s := by
  have hcal : { midnightAfter c with subsec := 0 } = midnightAfter c := by rw [← midnightAfter_subsec c]
  rw [setCal, nextDay_eq_midnightAfter h, hcal]

/-! ### The staged fields (R664, R674, R697) -/

theorem unbcd_succ_of_digit {k n v d : Nat} (h : unbcd k n = some v) (hd : d ≤ 9) : unbcd (k + 1) (n * 16 + d) = some (10 * v + d) := by
  have hhigh : (n * 16 + d) / 16 = n := by omega
  have hlow : (n * 16 + d) % 16 = d := by omega
  simp [unbcd, hhigh, hlow, h, hd]

theorem unbcd_bcd2 {n : Nat} (h : n < 100) : unbcd 2 (bcd2 n) = some n := by
  have hdigits : bcd2 n = (0 * 16 + n / 10 % 10) * 16 + n % 10 := by
    simp only [bcd2]
    omega
  rw [hdigits, unbcd_succ_of_digit (unbcd_succ_of_digit rfl (by omega)) (by omega)]
  exact congrArg some (by omega)

theorem unbcd_bcd4 {n : Nat} (h : n < 10000) : unbcd 4 (bcd4 n) = some n := by
  have hdigits : bcd4 n = (bcd2 (n / 100) * 16 + n / 10 % 10) * 16 + n % 10 := by
    simp only [bcd4, bcd2]
    omega
  rw [hdigits, unbcd_succ_of_digit (unbcd_succ_of_digit (unbcd_bcd2 (by omega)) (by omega)) (by omega)]
  exact congrArg some (by omega)

theorem unbcd_eq_none {k n j : Nat} (hj : j < k) (h : 9 < n / 16 ^ j % 16) : unbcd k n = none := by
  induction k generalizing n j with
  | zero => omega
  | succ k ih =>
    cases j with
    | zero =>
      rw [Nat.pow_zero, Nat.div_one] at h
      rw [unbcd]
      split
      · exact if_neg (Nat.not_le.2 h)
      · rfl
    | succ j =>
      rw [Nat.pow_succ', ← Nat.div_div_eq_div_mul] at h
      rw [unbcd, ih (by omega) h]

/-- A digit of a field is a field of four bits. -/
theorem fieldOf_digit (x : Word) (lo : Nat) {w j : Nat} (h : 4 * j + 4 ≤ w) : fieldOf x lo w / 16 ^ j % 16 = fieldOf x (lo + 4 * j) 4 := by
  obtain ⟨k, rfl⟩ : ∃ k, w = 4 * j + (4 + k) := ⟨w - (4 * j + 4), by omega⟩
  have hpow : (16 : Nat) ^ j = 2 ^ (4 * j) := (Nat.pow_mul 2 4 j).symm
  rw [fieldOf, fieldOf, hpow, Nat.pow_add 2 (4 * j), Nat.mod_mul_right_div_self, Nat.div_div_eq_div_mul, ← Nat.pow_add, Nat.pow_add 2 4 k]
  exact Nat.mod_mul_right_mod _ _ _

theorem unbcd_fieldOf_eq_none {x : Word} {lo w k : Nat} (j : Nat) (hj : j < k) (hw : 4 * j + 4 ≤ w) (h : 9 < fieldOf x (lo + 4 * j) 4) : unbcd k (fieldOf x lo w) = none :=
  unbcd_eq_none hj (by rwa [fieldOf_digit x lo hw])

/-- The staged registers give no date once a field of them has a digit above 9. -/
theorem stagedDate_of_unbcd {time date : Word}
    (h : unbcd 2 (fieldOf time 16 6) = none ∨ unbcd 2 (fieldOf time 8 7) = none ∨ unbcd 2 (fieldOf time 0 7) = none
      ∨ unbcd 4 (fieldOf date 16 16) = none ∨ unbcd 2 (fieldOf date 8 5) = none ∨ unbcd 2 (fieldOf date 0 6) = none) : stagedDate time date = none := by
  unfold stagedDate
  split
  · simp_all
  · rfl

theorem stagedDate_of_digit {time date : Word}
    (h : 9 < fieldOf time 0 4 ∨ 9 < fieldOf time 8 4 ∨ 9 < fieldOf time 16 4 ∨ 9 < fieldOf date 0 4 ∨ 9 < fieldOf date 8 4 ∨ 9 < fieldOf date 16 4
      ∨ 9 < fieldOf date 20 4 ∨ 9 < fieldOf date 24 4 ∨ 9 < fieldOf date 28 4) : stagedDate time date = none := by
  apply stagedDate_of_unbcd
  rcases h with hs | hmi | hh | hd | hmo | hy | hy | hy | hy
  · exact .inr (.inr (.inl (unbcd_fieldOf_eq_none 0 (by decide) (by decide) hs)))
  · exact .inr (.inl (unbcd_fieldOf_eq_none 0 (by decide) (by decide) hmi))
  · exact .inl (unbcd_fieldOf_eq_none 0 (by decide) (by decide) hh)
  · exact .inr (.inr (.inr (.inr (.inr (unbcd_fieldOf_eq_none 0 (by decide) (by decide) hd)))))
  · exact .inr (.inr (.inr (.inr (.inl (unbcd_fieldOf_eq_none 0 (by decide) (by decide) hmo)))))
  · exact .inr (.inr (.inr (.inl (unbcd_fieldOf_eq_none 0 (by decide) (by decide) hy))))
  · exact .inr (.inr (.inr (.inl (unbcd_fieldOf_eq_none 1 (by decide) (by decide) hy))))
  · exact .inr (.inr (.inr (.inl (unbcd_fieldOf_eq_none 2 (by decide) (by decide) hy))))
  · exact .inr (.inr (.inr (.inl (unbcd_fieldOf_eq_none 3 (by decide) (by decide) hy))))

/-- What the staged registers give, once each field holds decimal digits. -/
theorem stagedDate_of_staged {s : State} {h mi sc y mo d : Nat} (hst : s.staged h mi sc y mo d) :
    stagedDate s.rtc.stageTime s.rtc.stageDate = if h ≤ 23 ∧ mi ≤ 59 ∧ sc ≤ 59 ∧ 2000 ≤ y ∧ y ≤ 2399 ∧ 1 ≤ mo ∧ mo ≤ 12 ∧ 1 ≤ d ∧ d ≤ daysInMonth y mo then
      some { dateOf (dayNumber y mo d) with hour := h, min := mi, sec := sc } else none := by
  obtain ⟨hfh, hfmi, hfsc, hfy, hfmo, hfd, hh, hmi, hsc, hy, hmo, hd⟩ := hst
  simp only [stagedDate, hfh, hfmi, hfsc, hfy, hfmo, hfd, unbcd_bcd2 hh, unbcd_bcd2 hmi, unbcd_bcd2 hsc, unbcd_bcd4 hy, unbcd_bcd2 hmo, unbcd_bcd2 hd]

theorem stagedDate_of_calendarOk {s : State} {c : Calendar} (hc : calendarOk c) (hst : s.staged c.hour c.min c.sec c.year c.month c.day) :
    stagedDate s.rtc.stageTime s.rtc.stageDate = some { c with subsec := 0 } := by
  have hdate : dateOf (dayNumber c.year c.month c.day) = _ := dateOf_dayOf hc
  obtain ⟨hy, hy', hm, hm', hd, hd', hh, hmi, hs, -⟩ := hc
  rw [stagedDate_of_staged hst, if_pos ⟨hh, hmi, hs, hy, hy', hm, hm', hd, hd'⟩, hdate]

theorem stagedDate_of_range {s : State} {h mi sc y mo d : Nat} (hst : s.staged h mi sc y mo d)
    (hout : 23 < h ∨ 59 < mi ∨ 59 < sc ∨ y < 2000 ∨ 2399 < y ∨ mo = 0 ∨ 12 < mo ∨ d = 0 ∨ daysInMonth y mo < d) : stagedDate s.rtc.stageTime s.rtc.stageDate = none := by
  rw [stagedDate_of_staged hst]
  exact if_neg (by omega)

/-! ### The commit (R673, R674, R694) -/

/-- A rejected commit shows in DATE_ERR and the Tally alone. -/
theorem rejectCommit_eq (source : Nat) (s : State) :
    rejectCommit source s = { s with rtc := { s.rtc with dateErr := true, commit := none }, evr := (rejectCommit source s).evr } := record_evrOnly _ _ _ _ _ _ (updRtc _ s)

theorem commitWrite_of_lost {s : State} {v : Word} (hbit : bitAt v 0 = true) (hlost : s.clkLost 11 = true) (source : Nat) : commitWrite source v s = rejectCommit source s :=
  (if_neg (Classical.not_not.2 hbit)).trans (if_pos hlost)

theorem commitWrite_of_runs {s : State} {v : Word} (hbit : bitAt v 0 = true) (hruns : s.clkLost 11 = false) (source : Nat) :
    commitWrite source v s = updRtc (fun r => { r with commit := some source }) s :=
  (if_neg (Classical.not_not.2 hbit)).trans (if_neg (by simp [hruns]))

theorem commitCheck_of_none {s : State} (h : s.rtc.commit = none) : commitCheck s = s := by
  rw [commitCheck, h]

theorem commitCheck_of_lost {s : State} {source : Nat} (h : s.rtc.commit = some source) (hlost : s.clkLost 11 = true) : commitCheck s = rejectCommit source s := by
  rw [commitCheck, h]
  exact if_pos hlost

theorem commitCheck_of_invalid {s : State} {source : Nat} (h : s.rtc.commit = some source) (hdate : stagedDate s.rtc.stageTime s.rtc.stageDate = none) :
    commitCheck s = rejectCommit source s := by
  simp only [commitCheck, h, hdate, ite_self]

theorem commitCheck_of_valid {s : State} {c : Calendar} {source : Nat} (h : s.rtc.commit = some source) (hruns : s.clkLost 11 = false)
    (hdate : stagedDate s.rtc.stageTime s.rtc.stageDate = some c) :
    commitCheck s = { s with rtc := { s.rtc with cal := { c with subsec := 0 }, secUp := s.up, commit := none, leapArmed := .none, leapFlag := false, valid := true, trimRun := none }, evr := (commitCheck s).evr } := by
  have heq : commitCheck s = record 0x1205 4 1 (satMs ((calNs s.calNow : Int) - calNs c)) s.rtc.trim s.tickNo
      (updRtc (fun r => { r with commit := none, leapArmed := .none, leapFlag := false, valid := true, trimRun := none }) (setCal c s)) := by
    simp only [commitCheck, h, hruns, hdate]
    rfl
  rw [heq]
  exact record_evrOnly _ _ _ _ _ _ _

/-! ### What a record leaves of a change of the backup domain -/

theorem recordIf_evrOnly (b : Bool) (code sev : Nat) (p0 p1 p2 p3 : Int) (s : State) : EvrOnly s (recordIf b code sev p0 p1 p2 p3 s) := by
  unfold recordIf
  split
  · exact record_evrOnly _ _ _ _ _ _ s
  · exact .refl s

/-- The backup domain has been set and records have been made: the domain stands as it was set. -/
theorem EvrOnly.of_rtc {s s1 s' : State} {r : Rtc} (hset : s1 = { s with rtc := r }) (h : EvrOnly s1 s') : s'.rtc = r ∧ s' = { s with rtc := s'.rtc, evr := s'.evr } := by
  subst hset
  have hrtc : s'.rtc = r := congrArg State.rtc h
  exact ⟨hrtc, Eq.trans h (congrArg (fun x : Rtc => { s with rtc := x, evr := s'.evr }) hrtc.symm)⟩

/-! ### The second and the leap (R666, R670 to R672) -/

/-- The time on the cell, counted in seconds of the calendar (R679). -/
def Rtc.countCell (r : Rtc) : Rtc := { r with vbuSeconds := if r.onCell = true then inc32 r.vbuSeconds else r.vbuSeconds }

theorem calendarSecond_of_lost {s : State} (h : s.clkLost 11 = true) : calendarSecond s = s := if_pos h

section
variable {s : State} (hruns : s.clkLost 11 = false)
include hruns

/-- Within a day, but for the second a negative leap skips, the calendar counts. -/
theorem calendarSecond_within (hlast : ¬ (s.rtc.cal.hour = 23 ∧ s.rtc.cal.min = 59 ∧ s.rtc.cal.sec = 59))
    (hskip : ¬ (s.rtc.cal.hour = 23 ∧ s.rtc.cal.min = 59 ∧ s.rtc.cal.sec = 58 ∧ s.rtc.leapArmed = .negative)) :
    calendarSecond s = setCal (ofSeconds (calSeconds s.rtc.cal + 1)) (updRtc Rtc.countCell s) := by
  rw [calendarSecond, if_neg (by simp [hruns])]
  exact (if_neg (by rintro ⟨⟨hh, hm⟩, hs, -⟩; exact hlast ⟨hh, hm, hs⟩)).trans
    ((if_neg (by rintro ⟨⟨hh, hm⟩, hs, hleap⟩; exact hskip ⟨hh, hm, hs, hleap⟩)).trans (if_neg (by rintro ⟨⟨hh, hm⟩, hs⟩; exact hlast ⟨hh, hm, hs⟩)))

/-- A positive leap holds 23:59:59 once (R671). -/
theorem calendarSecond_hold (hh : s.rtc.cal.hour = 23) (hm : s.rtc.cal.min = 59) (hs : s.rtc.cal.sec = 59) (harmed : s.rtc.leapArmed = .positive) (hflag : s.rtc.leapFlag = false) :
    calendarSecond s = updRtc (fun r => { r with leapFlag := true }) (setCal s.rtc.cal (updRtc Rtc.countCell s)) := by
  rw [calendarSecond, if_neg (by simp [hruns])]
  exact if_pos ⟨⟨hh, hm⟩, hs, harmed, by simp [updRtc, hflag]⟩

/-- A negative leap skips 23:59:59 (R672). -/
theorem calendarSecond_skip (hh : s.rtc.cal.hour = 23) (hm : s.rtc.cal.min = 59) (hs : s.rtc.cal.sec = 58) (harmed : s.rtc.leapArmed = .negative) :
    calendarSecond s = setCal (nextDay s.rtc.cal) (leapDone false s.rtc.cal (updRtc Rtc.countCell s)) := by
  rw [calendarSecond, if_neg (by simp [hruns])]
  exact (if_neg (by rintro ⟨-, hs', -⟩; omega)).trans (if_pos ⟨⟨hh, hm⟩, hs, harmed⟩)

/-- The last second of a day, once a positive leap has been held or where none is armed. -/
theorem calendarSecond_last (hh : s.rtc.cal.hour = 23) (hm : s.rtc.cal.min = 59) (hs : s.rtc.cal.sec = 59) (hheld : s.rtc.leapArmed ≠ .positive ∨ s.rtc.leapFlag = true) :
    let s1 := updRtc Rtc.countCell s
    let s2 := setCal (nextDay s.rtc.cal) (if s.rtc.leapFlag = true then leapDone true s.rtc.cal s1 else s1)
    calendarSecond s = if s.rtc.cal.year = 2399 ∧ s.rtc.cal.month = 12 ∧ s.rtc.cal.day = 31 then
      recordIf s2.powered 0x1207 5 0 0 0 s2.tickNo (updRtc (fun r => { r with valid := false }) s2) else s2 := by
  rw [calendarSecond, if_neg (by simp [hruns])]
  exact (if_neg (by rintro ⟨-, -, harmed, hflag⟩; exact hheld.elim (· harmed) hflag)).trans ((if_neg (by rintro ⟨-, hs', -⟩; omega)).trans (if_pos ⟨⟨hh, hm⟩, hs⟩))

/-- Midnight with no leap in progress (R666). -/
theorem calendarSecond_midnight (hh : s.rtc.cal.hour = 23) (hm : s.rtc.cal.min = 59) (hs : s.rtc.cal.sec = 59) (harmed : s.rtc.leapArmed ≠ .positive) (hflag : s.rtc.leapFlag = false)
    (hyear : ¬ (s.rtc.cal.year = 2399 ∧ s.rtc.cal.month = 12 ∧ s.rtc.cal.day = 31)) :
    calendarSecond s = setCal (nextDay s.rtc.cal) (updRtc Rtc.countCell s) := by
  rw [calendarSecond_last hruns hh hm hs (.inl harmed), if_neg hyear, if_neg (by simp [hflag])]

/-- Midnight after a positive leap has been held (R671). -/
theorem calendarSecond_after_hold (hh : s.rtc.cal.hour = 23) (hm : s.rtc.cal.min = 59) (hs : s.rtc.cal.sec = 59) (hflag : s.rtc.leapFlag = true) (hyear : s.rtc.cal.year < 2399) :
    calendarSecond s = setCal (nextDay s.rtc.cal) (leapDone true s.rtc.cal (updRtc Rtc.countCell s)) := by
  rw [calendarSecond_last hruns hh hm hs (.inr hflag), if_neg (by omega), if_pos hflag]

/-- After 2399-12-31 the calendar wraps and is no longer valid (R665, R666). -/
theorem calendarSecond_wrap (hh : s.rtc.cal.hour = 23) (hm : s.rtc.cal.min = 59) (hs : s.rtc.cal.sec = 59) (harmed : s.rtc.leapArmed ≠ .positive) (hflag : s.rtc.leapFlag = false)
    (hyear : s.rtc.cal.year = 2399 ∧ s.rtc.cal.month = 12 ∧ s.rtc.cal.day = 31) :
    EvrOnly (updRtc (fun r => { r with valid := false }) (setCal {} (updRtc Rtc.countCell s))) (calendarSecond s) := by
  have hnext : nextDay s.rtc.cal = {} := if_pos hyear
  rw [calendarSecond_last hruns hh hm hs (.inl harmed), if_pos hyear, if_neg (by simp [hflag]), hnext]
  exact recordIf_evrOnly _ _ _ _ _ _ _ _

end

/-! ### Keeping the calendar set (R667, R669) -/

/-- What the comparison with system time needs: lock, a valid UTC from 2000 on, a running crystal, and a whole second (R669). -/
def State.syncs (s : State) : Prop :=
  domLocked s.tim.selState = true ∧ s.tim.utc.valid = true ∧ s.clkLost 11 = false ∧ 946684800000000000 ≤ s.utcNs ∧ s.utcNs % 1000000000 < 1000000

/-- The calendar against the UTC of system time, ns; the held second of a leap counts as the leap second (R670). -/
def State.calDiff (s : State) : Int := (calNs s.calNow : Int) - s.utcNs + (if s.rtc.leapFlag = true then 1000000000 else 0)

theorem calendarSync_of_not_syncs {s : State} (h : ¬ s.syncs) : calendarSync s = s := by
  refine if_pos ?_
  simp only [State.syncs, Classical.not_and_iff_not_or_not, Int.not_le, Int.not_lt, Bool.not_eq_false] at h
  exact h

theorem calendarSync_eq_of_syncs {s : State} (h : s.syncs) :
    let s1 := setCal (ofSeconds (s.utcNs / 1000000000).toNat) s
    calendarSync s = if (s.image.rtc.syncTolMs : Int) * 1000000 < s.calDiff.natAbs then
      record 0x1205 4 0 (satMs s.calDiff) s1.rtc.trim s1.tickNo (updRtc (fun r => { r with valid := true, leapFlag := false, trimRun := none }) s1)
    else updRtc (fun r => { r with valid := true }) s := by
  obtain ⟨hlock, hutc, hruns, hrange, hwhole⟩ := h
  refine if_neg ?_
  rintro (hlock' | hutc' | hlost | hrange' | hwhole')
  · exact hlock' hlock
  · exact hutc' hutc
  · simp [hruns] at hlost
  · omega
  · omega

theorem calendarSync_within {s : State} (h : s.syncs) (hdiff : s.calDiff.natAbs ≤ s.image.rtc.syncTolMs * 1000000) :
    calendarSync s = updRtc (fun r => { r with valid := true }) s := by
  rw [calendarSync_eq_of_syncs h, if_neg (by omega)]

theorem calendarSync_beyond {s : State} {c : Calendar} (h : s.syncs) (hdiff : s.image.rtc.syncTolMs * 1000000 < s.calDiff.natAbs) (hc : calendarOk c)
    (hutc : (calSeconds c : Int) = s.utcNs / 1000000000) :
    calendarSync s = { s with rtc := { s.rtc with cal := { c with subsec := 0 }, secUp := s.up, valid := true, leapFlag := false, trimRun := none }, evr := (calendarSync s).evr } := by
  rw [calendarSync_eq_of_syncs h, if_pos (by omega), ← hutc, Int.toNat_natCast, ofSeconds_calSeconds hc]
  exact record_evrOnly _ _ _ _ _ _ _

theorem trimAdjust_of_none {s : State} (h : s.rtc.trimRun = none) : trimAdjust s = s := by
  rw [trimAdjust, h]

theorem trimAdjust_of_not_due {s : State} (h : s.image.rtc.trimAuto = false ∨ domLocked s.tim.selState = false ∨ s.clkLost 11 = true ∨ ∃ m, s.rtc.trimRun = some m ∧ s.sysNow - m.sys0 < 3600000000000) :
    trimAdjust s = s := by
  unfold trimAdjust
  split
  · rfl
  · rename_i m hm
    refine if_pos ?_
    rcases h with hauto | hlock | hlost | ⟨m', hm', hshort⟩
    · exact .inl (by simp [hauto])
    · exact .inr (.inl (by simp [hlock]))
    · exact .inr (.inr (.inr hlost))
    · obtain rfl : m = m' := Option.some.inj (hm.symm.trans hm')
      exact .inr (.inr (.inl hshort))

theorem trimAdjust_of_due {s : State} {m : TrimRun} (hm : s.rtc.trimRun = some m) (hauto : s.image.rtc.trimAuto = true) (hlock : domLocked s.tim.selState = true)
    (hruns : s.clkLost 11 = false) (hlong : 3600000000000 ≤ s.sysNow - m.sys0) :
    trimAdjust s = updRtc (fun r => { r with
      trim := clampI (-127) 127 (r.trim + roundAway ((((s.sysNow - m.sys0 : Nat) : Int) - ((calNs s.calNow : Int) - m.cal0)) * 1048576) (s.sysNow - m.sys0))
      trimRun := some { sys0 := s.sysNow, cal0 := calNs s.calNow } }) s := by
  rw [trimAdjust, hm]
  refine if_neg ?_
  rintro (hauto' | hlock' | hshort | hlost)
  · exact hauto' hauto
  · exact hlock' hlock
  · exact Nat.not_le.2 hshort hlong
  · simp [hruns] at hlost

/-! ### Shadows (R676) -/

theorem assoc_assocDel_same {κ α : Type} [DecidableEq κ] (l : List (κ × α)) (q : κ) : assoc (assocDel l q) q = none := by
  induction l with
  | nil => rfl
  | cons x xs ih => rw [assocDel]; split <;> simp [assoc, *]

theorem assoc_assocDel_of_ne {κ α : Type} [DecidableEq κ] (l : List (κ × α)) {q k : κ} (h : k ≠ q) : assoc (assocDel l q) k = assoc l k := by
  induction l with
  | nil => rfl
  | cons x xs ih => rw [assocDel]; split <;> simp_all [assoc, h.symm]

theorem shadowTimeout_of_over {s : State} {p : Path} {k : Calendar} {u : Nat} (h : assoc s.rtc.shadow p = some (k, u)) (hover : u + 1000000000 ≤ s.up) :
    shadowTimeout p s = updRtc (fun r => { r with shadow := assocDel r.shadow p }) s := by
  rw [shadowTimeout, h]
  exact if_pos hover

theorem shadowTimeout_of_running {s : State} {p : Path} (h : ∀ k u, assoc s.rtc.shadow p = some (k, u) → s.up < u + 1000000000) : shadowTimeout p s = s := by
  unfold shadowTimeout
  split
  · rename_i k u hu
    exact if_neg (Nat.not_le.2 (h k u hu))
  · rfl

/-! ### The clauses of CalendarKept -/

/-- Settles O50: dates by the days of years and months, the second by the branch that applies, the comparison, the trim, the commit and the shadow each from its rule above. The clauses in which nothing happens rest on log entry 3, the seconds counted on the cell on entry 91; what RTC_SET records (entry 90) is left open by `evr := s'.evr`. -/
theorem calendarKept : Obligations.CalendarKept := by
  intro t c s hc s0 r up lost runs counted last locked diff rejected
  have hrejected {s' : State} (src : Nat) (h : s' = rejectCommit src s0) : rejected s' := by
    subst h
    exact rejectCommit_eq src s0
  refine ⟨fun hlost => ?_, fun hruns hcal => ⟨fun hsec hskip => ?_, fun hsec hmin => ?_, fun hsec hmin hhour => ?_, fun hlast hsec harmed hflag hyear => ?_,
      fun hlast hsec harmed hflag hyear => ?_, fun hlast hsec harmed hflag => ?_, fun hlast hsec hflag hyear => ?_, fun hlast hsec harmed => ?_⟩,
    fun hlocked => ?_, fun hlocked hdiff => ?_, fun hlocked hdiff hutc => ?_, fun m hm hauto hlock hruns hlong => ?_, fun hidle => ?_,
    fun src v => ⟨fun hbit => ?_, fun hbit hlost => ?_, fun hbit hruns => ?_⟩,
    fun hnone => ?_, fun hsome hlost => ?_, fun hsome hruns hst => ?_, fun h mi sc y mo d hsome hst hout => ?_, fun hsome hdigit => ?_,
    fun v => ⟨fun hok => ?_, fun hbad => ?_, fun hbit => ?_, fun hbit => ?_⟩, fun p k u hu hover => ?_, fun p hrun => ?_⟩
  · exact gives_of_next rfl (calendarSecond_of_lost (s := s0) hlost)
  · subst hcal
    refine gives_of_next rfl ((calendarSecond_within (s := s0) hruns (by rintro ⟨-, -, hs⟩; exact Nat.ne_of_lt hsec hs) (by rintro ⟨hh, hm, hs, harmed⟩; exact hskip ⟨⟨hh, hm⟩, hs, harmed⟩)).trans ?_)
    exact congrArg (setCal · (updRtc Rtc.countCell s0)) (ofSeconds_succ_of_sec hc hsec)
  · subst hcal
    refine gives_of_next rfl ((calendarSecond_within (s := s0) hruns (by rintro ⟨-, hm, -⟩; exact Nat.ne_of_lt hmin hm) (by rintro ⟨-, hm, -⟩; exact Nat.ne_of_lt hmin hm)).trans ?_)
    exact congrArg (setCal · (updRtc Rtc.countCell s0)) (ofSeconds_succ_of_min hc hsec hmin)
  · subst hcal
    refine gives_of_next rfl ((calendarSecond_within (s := s0) hruns (by rintro ⟨hh, -⟩; exact Nat.ne_of_lt hhour hh) (by rintro ⟨hh, -⟩; exact Nat.ne_of_lt hhour hh)).trans ?_)
    exact congrArg (setCal · (updRtc Rtc.countCell s0)) (ofSeconds_succ_of_hour hc hsec hmin hhour)
  · subst hcal
    obtain ⟨hh, hm⟩ := hlast
    exact gives_of_next rfl ((calendarSecond_midnight (s := s0) hruns hh hm hsec harmed hflag hyear).trans (setCal_nextDay hc _))
  · subst hcal
    obtain ⟨hh, hm⟩ := hlast
    exact gives_of_next rfl (EvrOnly.of_rtc rfl (calendarSecond_wrap (s := s0) hruns hh hm hsec harmed hflag hyear))
  · subst hcal
    obtain ⟨hh, hm⟩ := hlast
    exact gives_of_next rfl (calendarSecond_hold (s := s0) hruns hh hm hsec harmed hflag)
  · subst hcal
    obtain ⟨hh, hm⟩ := hlast
    exact gives_of_next rfl ((calendarSecond_after_hold (s := s0) hruns hh hm hsec hflag hyear).trans (setCal_nextDay hc _))
  · subst hcal
    obtain ⟨hh, hm⟩ := hlast
    exact gives_of_next rfl ((calendarSecond_skip (s := s0) hruns hh hm hsec harmed).trans (setCal_nextDay hc _))
  · exact gives_of_next rfl (calendarSync_of_not_syncs (s := s0) hlocked)
  · exact gives_of_next rfl (calendarSync_within (s := s0) hlocked hdiff)
  · exact gives_of_next rfl (calendarSync_beyond (s := s0) hlocked hdiff hc hutc)
  · exact gives_of_next rfl (trimAdjust_of_due (s := s0) hm hauto hlock hruns hlong)
  · rcases hidle with hnone | hidle
    · exact gives_of_next rfl (trimAdjust_of_none (s := s0) hnone)
    · exact gives_of_next rfl (trimAdjust_of_not_due (s := s0) hidle)
  · exact gives_of_next rfl (if_pos (by simp [hbit]))
  · exact gives_of_next rfl (hrejected src (commitWrite_of_lost (s := s0) hbit hlost src))
  · exact gives_of_next rfl (commitWrite_of_runs (s := s0) hbit hruns src)
  · exact gives_of_next rfl (commitCheck_of_none (s := s0) hnone)
  · obtain ⟨src, hsrc⟩ := Option.ne_none_iff_exists'.1 hsome
    exact gives_of_next rfl (hrejected src (commitCheck_of_lost (s := s0) hsrc hlost))
  · obtain ⟨src, hsrc⟩ := Option.ne_none_iff_exists'.1 hsome
    exact gives_of_next rfl (commitCheck_of_valid (s := s0) (c := { c with subsec := 0 }) hsrc hruns (stagedDate_of_calendarOk hc hst))
  · obtain ⟨src, hsrc⟩ := Option.ne_none_iff_exists'.1 hsome
    exact gives_of_next rfl (hrejected src (commitCheck_of_invalid (s := s0) hsrc (stagedDate_of_range hst hout)))
  · obtain ⟨src, hsrc⟩ := Option.ne_none_iff_exists'.1 hsome
    exact gives_of_next rfl (hrejected src (commitCheck_of_invalid (s := s0) hsrc (stagedDate_of_digit hdigit)))
  · exact gives_of_next rfl (if_pos hok)
  · exact gives_of_next rfl (if_neg hbad)
  · exact gives_of_next rfl (if_pos hbit)
  · exact gives_of_next rfl (if_neg (by simp [hbit]))
  · exact gives_of_next (congrArg Host.Outcome.next (shadowTimeout_of_over (s := s0) hu hover)) ⟨assoc_assocDel_same _ _, fun q hq => assoc_assocDel_of_ne _ hq, rfl⟩
  · exact gives_of_next rfl (shadowTimeout_of_running (s := s0) hrun)

end Sys2Proof.Machine

/-! PROOFS. The backup domain (R677 to R691, R694): what a block's write of a point can change, the supply switch and the backup reset, the wake timer, the sampling of a round of harbour watch and its end, and from these O51. -/

namespace Sys2Proof.Machine

open Sys2Proof

/-! ### Masks and tables -/

theorem bitAt_setBit {w i : Nat} (hi : i < w) (m : BitVec w) (b : Bool) (j : Nat) : bitAt (setBit m i b) j = if j = i then b else bitAt m j := by
  have hbit : (BitVec.ofNat w (2 ^ i)).getLsbD j = decide (j = i) := by
    rw [BitVec.getLsbD_ofNat, Nat.testBit_two_pow]
    by_cases h : j = i
    · simp [h, hi]
    · simp [h, Ne.symm h]
  unfold setBit bitAt
  cases b with
  | true =>
    rw [if_pos rfl, BitVec.getLsbD_or, hbit]
    by_cases h : j = i <;> simp [h]
  | false =>
    rw [if_neg Bool.false_ne_true, BitVec.getLsbD_and, BitVec.getLsbD_not, hbit]
    by_cases h : j = i
    · simp [h]
    · simp only [h, decide_false, Bool.not_false, Bool.and_true, if_false]
      exact Bool.and_eq_left_iff_imp.2 fun hm => decide_eq_true (BitVec.lt_of_getLsbD hm)

theorem assoc_setKey_same {α : Type} (l : List (Nat × α)) (k : Nat) (a : α) : assoc (setKey l k a) k = some a := by
  induction l with
  | nil => exact if_pos rfl
  | cons x xs ih =>
    rw [setKey]
    split
    · exact if_pos rfl
    · split
      · exact if_pos rfl
      · rename_i hne
        exact (if_neg (Ne.symm hne)).trans ih

theorem assoc_setKey_of_ne {α : Type} (l : List (Nat × α)) {k q : Nat} (a : α) (h : q ≠ k) : assoc (setKey l k a) q = assoc l q := by
  induction l with
  | nil => exact if_neg h.symm
  | cons x xs ih =>
    rw [setKey]
    split
    · exact if_neg h.symm
    · split
      · rename_i heq
        rw [assoc, assoc, if_neg h.symm, if_neg (heq ▸ h.symm)]
      · rw [assoc, assoc, ih]

/-! ### What a block's write of a point changes (R534 to R536, R202) -/

/-- What the writing of points can change: the point image, the samples that wait, and the Tally. -/
def PointsOnly (s s' : State) : Prop := s' = { s with evr := s'.evr, pim := s'.pim, str := { s.str with inbox := s'.str.inbox } }

theorem PointsOnly.refl (s : State) : PointsOnly s s := rfl

theorem PointsOnly.of_eq {s s' : State} {e : Evr} {p : Pim} {l : List RawSample} (h : s' = { s with evr := e, pim := p, str := { s.str with inbox := l } }) : PointsOnly s s' := by
  subst h
  rfl

theorem PointsOnly.trans {a b c : State} (h : PointsOnly a b) (h' : PointsOnly b c) : PointsOnly a c :=
  .of_eq (Eq.trans h' (congrArg (fun x : State => { x with evr := c.evr, pim := c.pim, str := { x.str with inbox := c.str.inbox } }) h))

/-- What does not look at the Tally is the same in two states that differ in it alone. -/
theorem EvrOnly.congr {α : Type} {s s' : State} (h : EvrOnly s s') (f : State → α) (hf : ∀ s e, f { s with evr := e } = f s) : f s' = f s := (congrArg f h).trans (hf s s'.evr)

theorem EvrOnly.pointsOnly {s s' : State} (h : EvrOnly s s') : PointsOnly s s' := .of_eq (e := s'.evr) (p := s.pim) (l := s.str.inbox) h

/-- Points have been written, then the backup domain has been set. -/
theorem PointsOnly.of_rtc {s s1 s' : State} (h : PointsOnly s s1) (hset : s' = { s1 with rtc := s'.rtc }) :
    s' = { s with rtc := s'.rtc, evr := s'.evr, pim := s'.pim, str := { s.str with inbox := s'.str.inbox } } := by
  have hevr : s'.evr = s1.evr := (congrArg State.evr hset :)
  have hpim : s'.pim = s1.pim := (congrArg State.pim hset :)
  have hstr : s'.str = s1.str := (congrArg State.str hset :)
  rw [hevr, hpim, hstr]
  exact Eq.trans hset (congrArg (fun x : State => { x with rtc := s'.rtc }) h)

theorem foldl_arrive (f : State → Nat → RawSample) (l : List Nat) (s : State) : ∃ inbox, l.foldl (fun s c => arrive (f s c) s) s = { s with str := { s.str with inbox := inbox } } := by
  induction l generalizing s with
  | nil => exact ⟨_, rfl⟩
  | cons c l ih =>
    obtain ⟨inbox, hl⟩ := ih (arrive (f s c) s)
    exact ⟨inbox, hl⟩

/-- A write that feeds streams adds to the samples that wait, and to nothing else (R202). -/
theorem samplePoint_eq (p : Nat) (r : PointRec) (s : State) : ∃ inbox, samplePoint p r s = { s with str := { s.str with inbox := inbox } } := foldl_arrive _ _ s

theorem point_congr {s s' : State} {p : Nat} (hpts : assoc s'.pim.pts p = assoc s.pim.pts p) (himage : s'.image = s.image) : s'.point p = s.point p := by
  simp only [State.point, State.pointCfg, hpts, himage]

theorem point_of_assoc {s : State} {p : Nat} {x : PointSt} (h : assoc s.pim.pts p = some x) : s.point p = x.record := by
  rw [State.point, h]

theorem putPoint_point_same (p : Nat) (value : Word) (quality flags : Nat) (ns : Word) (lo : Nat) (s : State) :
    (putPoint p value quality flags ns lo s).point p = { value := value, stampNs := ns, secLo := lo, quality := quality, flags := flags, seq := ((s.point p).seq + 1) % 65536 } :=
  point_of_assoc (s := putPoint p value quality flags ns lo s) (assoc_setKey_same _ _ _)

theorem putPoint_point_of_ne {p q : Nat} (h : q ≠ p) (value : Word) (quality flags : Nat) (ns : Word) (lo : Nat) (s : State) : (putPoint p value quality flags ns lo s).point q = s.point q :=
  point_congr (s' := putPoint p value quality flags ns lo s) (assoc_setKey_of_ne _ _ h) rfl

theorem freshen_point_same (p : Nat) (s : State) : (freshen p s).point p = s.point p := point_of_assoc (s := freshen p s) (assoc_setKey_same _ _ _)

theorem freshen_point_of_ne {p q : Nat} (h : q ≠ p) (s : State) : (freshen p s).point q = s.point q := point_congr (s' := freshen p s) (assoc_setKey_of_ne _ _ h) rfl

/-- With no DEADBAND a write is absorbed only where the point holds it already (R536). -/
theorem eq_of_absorbs {s : State} {p : Nat} {value : Word} {quality flags : Nat} (hdead : (s.pointCfg p).deadband = 0) (h : s.absorbs p value quality flags = true) :
    (s.point p).value = value ∧ (s.point p).quality = quality ∧ (s.point p).flags = flags := by
  simp only [State.absorbs, withinDeadband, hdead, Bool.and_eq_true, beq_iff_eq] at h
  obtain ⟨⟨⟨-, hq⟩, hf⟩, hv⟩ := h
  refine ⟨?_, hq, hf⟩
  by_cases heq : value = (s.point p).value
  · exact heq.symm
  · rw [if_neg heq, if_pos trivial] at hv
    exact absurd hv Bool.false_ne_true

section
variable (p : Nat) (value : Word) (quality flags : Nat) (ns : Word) (lo : Nat) (s : State)

theorem takeWrite_pointsOnly : PointsOnly s (takeWrite p value quality flags ns lo s) := by
  obtain ⟨inbox, hs⟩ := samplePoint_eq p { value := value, stampNs := ns, secLo := lo, quality := quality } s
  rw [takeWrite, hs]
  dsimp only
  split
  · exact .of_eq rfl
  · exact .of_eq rfl

theorem takeWrite_point_of_ne {q : Nat} (h : q ≠ p) : (takeWrite p value quality flags ns lo s).point q = s.point q := by
  obtain ⟨inbox, hs⟩ := samplePoint_eq p { value := value, stampNs := ns, secLo := lo, quality := quality } s
  rw [takeWrite, hs]
  dsimp only
  split
  · exact freshen_point_of_ne h _
  · exact putPoint_point_of_ne h _ _ _ _ _ _

theorem takeWrite_point_same (hdead : (s.pointCfg p).deadband = 0) :
    ((takeWrite p value quality flags ns lo s).point p).value = value ∧ ((takeWrite p value quality flags ns lo s).point p).quality = quality
      ∧ ((takeWrite p value quality flags ns lo s).point p).flags = flags := by
  obtain ⟨inbox, hs⟩ := samplePoint_eq p { value := value, stampNs := ns, secLo := lo, quality := quality } s
  rw [takeWrite, hs]
  dsimp only
  split
  · rename_i habs
    rw [freshen_point_same]
    exact eq_of_absorbs hdead habs
  · rw [putPoint_point_same]
    exact ⟨rfl, rfl, rfl⟩

end

theorem rejectWrite_pointsOnly (p writer cause : Nat) (s : State) : PointsOnly s (rejectWrite p writer cause s) :=
  PointsOnly.trans (.of_eq rfl) (recordIf_evrOnly _ _ _ _ _ _ _ _).pointsOnly

theorem rejectWrite_point (p writer cause q : Nat) (s : State) : (rejectWrite p writer cause s).point q = s.point q := by
  unfold rejectWrite
  exact (recordIf_evrOnly _ _ _ _ _ _ _ _).congr (State.point · q) fun _ _ => rfl

section
variable (block : Nat) (p : Option Nat) (value : Word) (type quality : Nat) (alarm : Bool) (stamp : Nat) (s : State)

theorem blockPoint_pointsOnly : PointsOnly s (blockPoint block p value type quality alarm stamp s) := by
  unfold blockPoint
  split
  · exact .refl s
  · dsimp only
    split
    · exact rejectWrite_pointsOnly _ _ _ s
    · split
      · exact rejectWrite_pointsOnly _ _ _ s
      · exact takeWrite_pointsOnly _ _ _ _ _ _ s

theorem blockPoint_point_of_ne {q : Nat} (h : p ≠ some q) : (blockPoint block p value type quality alarm stamp s).point q = s.point q := by
  unfold blockPoint
  split
  · rfl
  · rename_i k
    dsimp only
    split
    · exact rejectWrite_point _ _ _ q s
    · split
      · exact rejectWrite_point _ _ _ q s
      · exact takeWrite_point_of_ne _ _ _ _ _ _ s (fun hq => h (congrArg some hq.symm))

theorem blockPoint_point_same {k : Nat} (hwriter : (s.pointCfg k).writer = 0xFF00 + block) (htype : (s.pointCfg k).type = type) (hdead : (s.pointCfg k).deadband = 0) :
    let r := (blockPoint block (some k) value type quality alarm stamp s).point k
    r.value = value ∧ r.quality = quality ∧ r.flags = type + s.steppedFlag + 8 * b2n alarm := by
  have heq : blockPoint block (some k) value type quality alarm stamp s = takeWrite k value quality (type + s.steppedFlag + 8 * b2n alarm) (shortStamp stamp) (lowSeconds stamp) s :=
    (if_neg (Classical.not_not.2 hwriter)).trans (if_neg (Classical.not_not.2 htype))
  rw [heq]
  exact takeWrite_point_same k value quality _ _ _ s hdead

end

/-! ### Supply (R677, R679, R680) -/

theorem toVbu_of_not {io vbu : Nat} {s : State} (h : ¬ (s.rtc.onCell = false ∧ (io + 50 < vbu ∨ io < 2600))) : toVbu io vbu s = s :=
  if_neg (by rwa [Bool.not_eq_true])

theorem toVbu_of_low {io vbu : Nat} {s : State} (h : s.rtc.onCell = false) (hlow : io + 50 < vbu ∨ io < 2600) :
    toVbu io vbu s = updRtc (fun r => { r with onCell := true, switchCnt := inc32 r.switchCnt }) s :=
  if_pos ⟨by simp [h], hlow⟩

/-! ### Wakes (R683 to R686, R694) -/

theorem wakeTimer_of_idle {s : State} (h : s.rtc.wakeEn = false ∨ s.clkLost 11 = true) : wakeTimer s = s :=
  if_pos (by rwa [Bool.not_eq_true])

theorem powered_of_off {s : State} (h : s.sys.state = .off) : s.powered = false := by simp [State.powered, h]

theorem powered_of_ne_off {s : State} (h : s.sys.state ≠ .off) : s.powered = true := by simp [State.powered, h]

/-- A unit that is off sees no wake; the wake stays pending for its start (R684). -/
theorem hwWake_of_off {s : State} (h : s.sys.state = .off) (cause : Nat) : hwWake cause s = s := if_pos (by simp [powered_of_off h])

theorem wakeTimer_of_off {s : State} (hen : s.rtc.wakeEn = true) (hruns : s.clkLost 11 = false) (hoff : s.sys.state = .off) :
    wakeTimer s = updRtc (fun r => { r with pwrOn := true, wakePending := true }) s := by
  rw [wakeTimer, if_neg (by simp [hen, hruns]), powered_of_off hoff]
  exact hwWake_of_off (s := updRtc (fun r => { r with pwrOn := true, wakePending := true }) s) hoff 0

theorem wakeTimer_of_on {s : State} (hen : s.rtc.wakeEn = true) (hruns : s.clkLost 11 = false) (hon : s.sys.state ≠ .off) :
    wakeTimer s = hwWake 0 (updRtc (fun r => { r with pwrOn := true, wakePending := false }) s) := by
  rw [wakeTimer, if_neg (by simp [hen, hruns]), powered_of_ne_off hon]
  rfl

theorem hwWake_begins {s : State} (h : s.sys.state = .harbourWatch) (hidle : s.rtc.hwRunning = false) (cause : Nat) : EvrOnly (beginWatchRound s) (hwWake cause s) := by
  have hon : s.powered = true := powered_of_ne_off (by simp [h])
  have heq : hwWake cause s = record 0x120C 2 cause (beginWatchRound s).rtc.merged 0 (beginWatchRound s).tickNo (beginWatchRound s) := by
    simp only [hwWake, hon, h, hidle]
    rfl
  rw [heq]
  exact record_evrOnly _ _ _ _ _ _ _

/-- A wake that begins no round is counted (R686). -/
theorem hwWake_merges {s : State} (hoff : s.sys.state ≠ .off) (h : s.sys.state ≠ .harbourWatch ∨ s.rtc.hwRunning = true) (cause : Nat) :
    EvrOnly (updRtc (fun r => { r with merged := min 255 (r.merged + 1) }) s) (hwWake cause s) := by
  have hcount (n : Nat) : satAdd n 1 255 = min 255 (n + 1) := Nat.min_comm _ _
  have hbegins : (s.sys.state == .harbourWatch && !s.rtc.hwRunning) = false := by
    rcases h with hstate | hrun
    · simp [hstate]
    · simp [hrun]
  rw [hwWake, if_neg (by simp [powered_of_ne_off hoff])]
  simp only [hbegins, hcount, Bool.false_eq_true, if_false]
  exact record_evrOnly _ _ _ _ _ _ _

/-! ### The sampling of a round (R689, R690) -/

theorem sampleHwPoint_alarm (h : HwPoint) (s : State) : (sampleHwPoint h s).1 = s.hwInAlarm h := by
  unfold sampleHwPoint State.hwInAlarm
  dsimp only
  split
  · rename_i hq
    simp only [bne_iff_ne.2 hq, Bool.true_or]
  · rename_i hq
    have hgood : ((s.point h.point).quality != 0) = false := by rw [bne_eq_false_iff_eq]; exact Classical.not_not.1 hq
    split
    · rename_i hlow
      simp only [hlow, decide_true, Bool.or_true, Bool.true_or]
    · rename_i hlow
      split
      · rename_i hhigh
        simp only [hhigh, decide_true, Bool.or_true]
      · rename_i hhigh
        simp only [hgood, hlow, hhigh, decide_false, Bool.or_false]

theorem sampleHwPoint_evrOnly (h : HwPoint) (s : State) : EvrOnly s (sampleHwPoint h s).2 := by
  unfold sampleHwPoint
  dsimp only
  split
  · exact (record_evrOnly _ _ _ _ _ _ s).trans (record_evrOnly _ _ _ _ _ _ _)
  · split
    · exact (record_evrOnly _ _ _ _ _ _ s).trans (record_evrOnly _ _ _ _ _ _ _)
    · split
      · exact (record_evrOnly _ _ _ _ _ _ s).trans (record_evrOnly _ _ _ _ _ _ _)
      · exact record_evrOnly _ _ _ _ _ _ s

theorem EvrOnly.hwInAlarm {s s' : State} (h : EvrOnly s s') (k : HwPoint) : s'.hwInAlarm k = s.hwInAlarm k := h.congr (State.hwInAlarm · k) fun _ _ => rfl

theorem sampleHwPoints_evrOnly (hs : List HwPoint) (i : Nat) (m : Word) (s : State) : EvrOnly s (sampleHwPoints hs i m s).2 := by
  induction hs generalizing i m s with
  | nil => exact .refl s
  | cons h hs ih => exact (sampleHwPoint_evrOnly h s).trans (ih _ _ _)

/-- From place i on, the mask of a round holds the alarm of each point in image order; its other bits stay. -/
theorem sampleHwPoints_mask {hs : List HwPoint} {i : Nat} (hlen : i + hs.length ≤ 32) (m : Word) (s : State) :
    (∀ k h, hs[k]? = some h → bitAt (sampleHwPoints hs i m s).1 (i + k) = s.hwInAlarm h)
      ∧ ∀ j, j < i ∨ i + hs.length ≤ j → bitAt (sampleHwPoints hs i m s).1 j = bitAt m j := by
  induction hs generalizing i m s with
  | nil => exact ⟨fun k h hk => by simp at hk, fun j _ => rfl⟩
  | cons x hs ih =>
    rw [List.length_cons] at hlen
    have hbit := bitAt_setBit (w := 32) (i := i) (by omega) m (sampleHwPoint x s).1
    obtain ⟨hin, hout⟩ := ih (i := i + 1) (by omega) (setBit m i (sampleHwPoint x s).1) (sampleHwPoint x s).2
    refine ⟨fun k h hk => ?_, fun j hj => ?_⟩
    · cases k with
      | zero =>
        obtain rfl : x = h := by simpa using hk
        rw [sampleHwPoints]
        exact (hout i (.inl (by omega))).trans ((hbit i).trans ((if_pos rfl).trans (sampleHwPoint_alarm x s)))
      | succ k =>
        have hnext := hin k h (by simpa using hk)
        rw [(sampleHwPoint_evrOnly x s).hwInAlarm, Nat.add_assoc, Nat.add_comm 1 k] at hnext
        exact hnext
    · rw [List.length_cons] at hj
      rw [sampleHwPoints]
      exact (hout j (by omega)).trans ((hbit j).trans (if_neg (by omega)))

/-! ### The end of a round (R689 to R691) -/

/-- A round can end: every point is fresh, or HW_SETTLE has passed. -/
def State.roundReady (s : State) : Prop :=
  (∀ h, h ∈ s.image.rtc.hwPoints → s.hwFresh h.point = true) ∨ s.rtc.hwT0Up + s.image.rtc.hwSettleS * 1000000000 ≤ s.up

/-- The alarm mask of a round that ends now. -/
def State.roundMask (s : State) : Word := (sampleHwPoints s.image.rtc.hwPoints 0 0 s).1

/-- Bit i of the mask is the alarm of the i-th point of the image, and no bit beyond the points is set. -/
theorem roundMask_bits {s : State} (hlen : s.image.rtc.hwPoints.length ≤ 32) :
    (∀ i h, s.image.rtc.hwPoints[i]? = some h → bitAt s.roundMask i = s.hwInAlarm h) ∧ ∀ i, s.image.rtc.hwPoints.length ≤ i → bitAt s.roundMask i = false := by
  obtain ⟨hin, hout⟩ := sampleHwPoints_mask (hs := s.image.rtc.hwPoints) (i := 0) (by omega) 0 s
  refine ⟨fun i h hi => ?_, fun i hi => ?_⟩
  · have hbit := hin i h hi
    rwa [Nat.zero_add] at hbit
  · exact (hout i (.inr (by omega))).trans BitVec.getLsbD_zero

/-- The state once the points of a round have been sampled. -/
def State.roundSampled (s : State) : State := (sampleHwPoints s.image.rtc.hwPoints 0 0 s).2

/-- The state once the mask of a round stands in HW_ALARM_POINT. -/
def State.roundWritten (s : State) : State :=
  blockPoint 10 s.image.rtc.hwAlarmPoint s.roundMask 1 0 (s.roundMask != 0) s.roundSampled.sysNow s.roundSampled

/-- The state once a round has been recorded. -/
def State.roundRecorded (s : State) : State :=
  let w := s.roundWritten
  record 0x1208 3 w.rtc.hwRound s.image.rtc.hwPoints.length (popCount s.roundMask) ((w.up - w.rtc.hwT0Up) / 1000000) w

/-- The end of a round in the backup domain: PWR_ON is released while no alarm stands or waits for its acknowledgement. -/
def endRound (m : Word) (s : State) : State :=
  let s := updRtc (fun v => { v with hwRunning := false, hwUnacked := v.hwUnacked || m != 0 }) s
  if m = 0 ∧ ¬ s.rtc.hwUnacked ∧ s.rtc.hwArm then updRtc (fun v => { v with pwrOn := false, hwReleasedUp := some s.up }) s else s

theorem roundReady_iff (s : State) :
    (s.image.rtc.hwPoints.all (fun h => s.hwFresh h.point) || decide (s.rtc.hwT0Up + s.image.rtc.hwSettleS * nsPerS ≤ s.up)) = true ↔ s.roundReady := by
  simp only [Bool.or_eq_true, List.all_eq_true, decide_eq_true_eq]
  rfl

theorem hwRoundSample_of_waiting {s : State} (h : s.sys.state ≠ .harbourWatch ∨ s.rtc.hwRunning = false ∨ ¬ s.roundReady) : hwRoundSample s = s := by
  refine if_pos ?_
  rwa [beq_iff_eq, Bool.not_eq_true, roundReady_iff]

theorem hwRoundSample_of_ready {s : State} (hstate : s.sys.state = .harbourWatch) (hrun : s.rtc.hwRunning = true) (hready : s.roundReady) :
    hwRoundSample s = endRound s.roundMask s.roundRecorded := by
  refine if_neg ?_
  rw [beq_iff_eq, roundReady_iff]
  rintro (hstate' | hrun' | hready')
  · exact hstate' hstate
  · exact hrun' hrun
  · exact hready' hready

theorem roundSampled_evrOnly (s : State) : EvrOnly s s.roundSampled := sampleHwPoints_evrOnly _ _ _ s

theorem roundWritten_pointsOnly (s : State) : PointsOnly s s.roundWritten := (roundSampled_evrOnly s).pointsOnly.trans (blockPoint_pointsOnly _ _ _ _ _ _ _ _)

theorem roundRecorded_pointsOnly (s : State) : PointsOnly s s.roundRecorded := (roundWritten_pointsOnly s).trans (record_evrOnly _ _ _ _ _ _ _).pointsOnly

theorem roundRecorded_point (s : State) (q : Nat) : s.roundRecorded.point q = s.roundWritten.point q := (record_evrOnly _ _ _ _ _ _ s.roundWritten).congr (State.point · q) fun _ _ => rfl

theorem roundRecorded_point_of_ne {s : State} {q : Nat} (h : s.image.rtc.hwAlarmPoint ≠ some q) : s.roundRecorded.point q = s.point q :=
  (roundRecorded_point s q).trans ((blockPoint_point_of_ne _ _ _ _ _ _ _ _ h).trans ((roundSampled_evrOnly s).congr (State.point · q) fun _ _ => rfl))

theorem steppedFlag_eq (s : State) : s.steppedFlag = 0 ∨ s.steppedFlag = 4 := by
  unfold State.steppedFlag
  split
  · exact .inr rfl
  · exact .inl rfl

/-- HW_ALARM_POINT holds the mask of the round, and its alarm flag says that the mask is not empty. -/
theorem roundRecorded_alarmPoint {s : State} {p : Nat} (h : s.image.rtc.hwAlarmPoint = some p) (hwriter : (s.pointCfg p).writer = 0xFF0A) (htype : (s.pointCfg p).type = 1)
    (hdead : (s.pointCfg p).deadband = 0) :
    (s.roundRecorded.point p).value = s.roundMask ∧ (s.roundRecorded.point p).quality = 0 ∧ (s.roundRecorded.point p).flags % 4 = 1
      ∧ ((s.roundRecorded.point p).flags / 8 % 2 = 1 ↔ s.roundMask ≠ 0) := by
  have hcfg : s.roundSampled.pointCfg p = s.pointCfg p := (roundSampled_evrOnly s).congr (State.pointCfg · p) fun _ _ => rfl
  obtain ⟨hvalue, hquality, hflags⟩ := blockPoint_point_same 10 s.roundMask 1 0 (s.roundMask != 0) s.roundSampled.sysNow s.roundSampled (k := p)
    (by rw [hcfg, hwriter]) (by rw [hcfg, htype]) (by rw [hcfg, hdead])
  rw [roundRecorded_point, State.roundWritten, h, hvalue, hquality, hflags]
  have hstep := steppedFlag_eq s.roundSampled
  refine ⟨rfl, rfl, ?_, ?_⟩
  · omega
  · by_cases hm : s.roundMask = 0
    · have halarm : b2n (s.roundMask != 0) = 0 := congrArg b2n (bne_eq_false_iff_eq.2 hm)
      exact iff_of_false (by omega) (Classical.not_not.2 hm)
    · have halarm : b2n (s.roundMask != 0) = 1 := congrArg b2n (bne_iff_ne.2 hm)
      exact iff_of_true (by omega) hm

theorem endRound_frame (m : Word) (s : State) : endRound m s = { s with rtc := (endRound m s).rtc } := by
  unfold endRound
  dsimp only
  split
  · rfl
  · rfl

theorem endRound_point (m : Word) (s : State) (q : Nat) : (endRound m s).point q = s.point q := (congrArg (State.point · q) (endRound_frame m s) :)

theorem endRound_rtc_of_quiet {m : Word} {s : State} (hm : m = 0) (hack : s.rtc.hwUnacked = false) (harm : s.rtc.hwArm = true) :
    (endRound m s).rtc = { s.rtc with hwRunning := false, pwrOn := false, hwReleasedUp := some s.up } := by
  have hunacked : (s.rtc.hwUnacked || m != 0) = false := by simp [hm, hack]
  unfold endRound
  dsimp only [updRtc]
  rw [hunacked, if_pos ⟨hm, Bool.false_ne_true, harm⟩, hack]
  rfl

theorem endRound_rtc_of_alarm {m : Word} {s : State} (h : m ≠ 0 ∨ s.rtc.hwUnacked = true ∨ s.rtc.hwArm = false) :
    (endRound m s).rtc = { s.rtc with hwRunning := false, hwUnacked := s.rtc.hwUnacked || m != 0 } := by
  refine congrArg State.rtc (if_neg ?_)
  rintro ⟨hm, hack, harm⟩
  rcases h with hm' | hack' | harm'
  · exact hm' hm
  · exact hack (by simp [updRtc, hack'])
  · simp [updRtc, harm'] at harm

/-! ### Power that is still there (R691) -/

theorem hwPowerHeld_of_due {s : State} {u : Nat} (hu : s.rtc.hwReleasedUp = some u) (hstate : s.sys.state = .harbourWatch) (hoff : s.rtc.pwrOn = false) (hnot : s.rtc.hwHeld = false)
    (hover : u + s.image.rtc.hwOffWaitS * 1000000000 ≤ s.up) : EvrOnly (updRtc (fun r => { r with hwHeld := true, hwHeldRec := true }) s) (hwPowerHeld s) := by
  rw [hwPowerHeld, hu]
  dsimp only
  rw [if_pos ⟨hstate, by simp [hoff], by simp [hnot], hover⟩]
  exact recordIf_evrOnly _ _ _ _ _ _ _ _

theorem hwPowerHeld_of_not_due {s : State}
    (h : s.rtc.hwReleasedUp = none ∨ s.sys.state ≠ .harbourWatch ∨ s.rtc.pwrOn = true ∨ s.rtc.hwHeld = true ∨ ∃ u, s.rtc.hwReleasedUp = some u ∧ s.up < u + s.image.rtc.hwOffWaitS * 1000000000) :
    hwPowerHeld s = s := by
  unfold hwPowerHeld
  split
  · rename_i u hu
    refine if_neg ?_
    rintro ⟨hstate, hoff, hnot, hover⟩
    rcases h with hnone | hstate' | hon | hheld | ⟨u', hu', hearly⟩
    · simp [hu] at hnone
    · exact hstate' hstate
    · exact hoff hon
    · exact hnot hheld
    · obtain rfl : u = u' := Option.some.inj (hu.symm.trans hu')
      exact Nat.not_le.2 hearly hover
  · rfl

/-! ### The clauses of BackupDomainKept -/

/-- Settles O51: the supply switch, the reset and the wake by their conditions; a round by the sampling of its points, the write of HW_ALARM_POINT and the end of the round in the backup domain, each from its rule above. The clauses in which nothing happens rest on log entry 3, the count of other wakes on entry 91, the firing of the timer on entry 92; what the records of a round hold (entry 90) is left open by `evr := s'.evr`. -/
theorem backupDomainKept : Obligations.BackupDomainKept := by
  intro t io vbu low s s0 r up k ready
  refine ⟨fun hmain hlow => ?_, fun hnot => ?_, fun hcell hdiff hhigh => ?_, fun hnot => ?_, fun hshort => ?_, fun hlong => ?_, fun hidle => ?_,
    fun hen hruns => ⟨fun hoff => ?_, fun hstate hidle => ?_, fun hon hbusy => ?_⟩, fun hwait => ?_, fun hstate hrun hready hlen => ?_,
    fun u hu hstate hoff hnot hover => ?_, fun hnot => ?_⟩
  · exact gives_of_next rfl (toVbu_of_low (s := s0) hmain hlow)
  · exact gives_of_next rfl (toVbu_of_not (s := s0) hnot)
  · exact gives_of_next rfl (if_pos ⟨hcell, hdiff, hhigh⟩)
  · exact gives_of_next rfl (if_neg hnot)
  · exact gives_of_next rfl (if_pos hshort)
  · exact gives_of_next (congrArg Host.Outcome.next (if_neg (Nat.not_le.2 hlong))) ⟨rfl, rfl, rfl, rfl, rfl, rfl, rfl, rfl, rfl, rfl, rfl, rfl, rfl, rfl, rfl, rfl, rfl, rfl, rfl, rfl, rfl, rfl⟩
  · exact gives_of_next rfl (wakeTimer_of_idle (s := s0) hidle)
  · exact gives_of_next rfl (wakeTimer_of_off (s := s0) hen hruns hoff)
  · have hon : s0.sys.state ≠ .off := fun hoff => DevState.noConfusion (hstate.symm.trans hoff)
    refine gives_of_next (congrArg Host.Outcome.next (wakeTimer_of_on (s := s0) hen hruns hon)) (EvrOnly.of_rtc rfl (hwWake_begins ?_ ?_ 0))
    · exact hstate
    · exact hidle
  · refine gives_of_next (congrArg Host.Outcome.next (wakeTimer_of_on (s := s0) hen hruns hon)) (EvrOnly.of_rtc rfl (hwWake_merges ?_ ?_ 0))
    · exact hon
    · exact hbusy
  · exact gives_of_next rfl (hwRoundSample_of_waiting (s := s0) hwait)
  · refine gives_of_next (congrArg Host.Outcome.next (hwRoundSample_of_ready (s := s0) hstate hrun hready)) ?_
    have hframe := roundRecorded_pointsOnly s0
    have hrtc : s0.roundRecorded.rtc = r := (congrArg State.rtc hframe :)
    have hup : s0.roundRecorded.up = up := (congrArg State.up hframe :)
    obtain ⟨hin, hout⟩ := roundMask_bits (s := s0) hlen
    refine ⟨s0.roundMask, hin, hout, fun p hp hwriter htype hdead => ?_, fun q hq => ?_, fun hm hack harm => ?_, fun hnot => ?_, hframe.of_rtc (endRound_frame _ _)⟩
    · rw [endRound_point]
      exact roundRecorded_alarmPoint (s := s0) hp hwriter htype hdead
    · rw [endRound_point]
      exact roundRecorded_point_of_ne (s := s0) hq
    · rw [endRound_rtc_of_quiet hm (by rw [hrtc, hack]) (by rw [hrtc, harm]), hrtc, hup]
    · rw [endRound_rtc_of_alarm (by rwa [hrtc]), hrtc]
  · exact gives_of_next rfl (hwPowerHeld_of_due (s := s0) hu hstate hoff hnot hover)
  · exact gives_of_next rfl (hwPowerHeld_of_not_due (s := s0) hnot)

end Sys2Proof.Machine
